-- ==== Sys2Proof/Word.lean ====
section
/-! DEFINITION. The byte of the two serial lines, the numbers of arms, injectors, classes and table
places, and fixed banks of like records (four arms, six injectors, eight classes or products). -/

namespace Sys2Proof

/-- One byte of the rack link or of the console line (section 1.1, section 4.8). -/
abbrev Byte := BitVec 8

/-- An arm; arm number `n` of the manual (1 to 4) is the index `n - 1`. -/
abbrev ArmId := Fin 4

/-- An injector; injector number `n` of the manual (1 to 6) is the index `n - 1`. -/
abbrev InjId := Fin 6

/-- A product class, 0 to 7 (R6). -/
abbrev ClassId := Fin 8

/-- Four like records, one per arm. -/
structure Bank4 (α : Type) where
  one : α
  two : α
  three : α
  four : α
  deriving DecidableEq, Repr

/-- Six like records, one per injector. -/
structure Bank6 (α : Type) where
  one : α
  two : α
  three : α
  four : α
  five : α
  six : α
  deriving DecidableEq, Repr

/-- Eight like records, one per product class or product table place. -/
structure Bank8 (α : Type) where
  one : α
  two : α
  three : α
  four : α
  five : α
  six : α
  seven : α
  eight : α
  deriving DecidableEq, Repr

namespace Bank4
variable {α β : Type}

def get (b : Bank4 α) : Fin 4 → α
  | 0 => b.one
  | 1 => b.two
  | 2 => b.three
  | 3 => b.four

def set (b : Bank4 α) (n : Fin 4) (a : α) : Bank4 α :=
  match n with
  | 0 => { b with one := a }
  | 1 => { b with two := a }
  | 2 => { b with three := a }
  | 3 => { b with four := a }

def map (f : α → β) (b : Bank4 α) : Bank4 β :=
  { one := f b.one, two := f b.two, three := f b.three, four := f b.four }

def toList (b : Bank4 α) : List α := [b.one, b.two, b.three, b.four]

/-- The same record in all four places. -/
def replicate (a : α) : Bank4 α := { one := a, two := a, three := a, four := a }

end Bank4

namespace Bank6
variable {α β : Type}

def get (b : Bank6 α) : Fin 6 → α
  | 0 => b.one
  | 1 => b.two
  | 2 => b.three
  | 3 => b.four
  | 4 => b.five
  | 5 => b.six

def set (b : Bank6 α) (n : Fin 6) (a : α) : Bank6 α :=
  match n with
  | 0 => { b with one := a }
  | 1 => { b with two := a }
  | 2 => { b with three := a }
  | 3 => { b with four := a }
  | 4 => { b with five := a }
  | 5 => { b with six := a }

def map (f : α → β) (b : Bank6 α) : Bank6 β :=
  { one := f b.one, two := f b.two, three := f b.three, four := f b.four, five := f b.five,
    six := f b.six }

def toList (b : Bank6 α) : List α := [b.one, b.two, b.three, b.four, b.five, b.six]

/-- The same record in all six places. -/
def replicate (a : α) : Bank6 α :=
  { one := a, two := a, three := a, four := a, five := a, six := a }

end Bank6

namespace Bank8
variable {α β : Type}

def get (b : Bank8 α) : Fin 8 → α
  | 0 => b.one
  | 1 => b.two
  | 2 => b.three
  | 3 => b.four
  | 4 => b.five
  | 5 => b.six
  | 6 => b.seven
  | 7 => b.eight

def set (b : Bank8 α) (n : Fin 8) (a : α) : Bank8 α :=
  match n with
  | 0 => { b with one := a }
  | 1 => { b with two := a }
  | 2 => { b with three := a }
  | 3 => { b with four := a }
  | 4 => { b with five := a }
  | 5 => { b with six := a }
  | 6 => { b with seven := a }
  | 7 => { b with eight := a }

def map (f : α → β) (b : Bank8 α) : Bank8 β :=
  { one := f b.one, two := f b.two, three := f b.three, four := f b.four, five := f b.five,
    six := f b.six, seven := f b.seven, eight := f b.eight }

def toList (b : Bank8 α) : List α :=
  [b.one, b.two, b.three, b.four, b.five, b.six, b.seven, b.eight]

/-- The same record in all eight places. -/
def replicate (a : α) : Bank8 α :=
  { one := a, two := a, three := a, four := a, five := a, six := a, seven := a, eight := a }

end Bank8

/-- The arms in ascending arm number. -/
def armIds : List ArmId := [0, 1, 2, 3]

/-- The injectors in ascending injector number. -/
def injIds : List InjId := [0, 1, 2, 3, 4, 5]

/-- The classes in ascending order. -/
def classIds : List ClassId := [0, 1, 2, 3, 4, 5, 6, 7]

end Sys2Proof
end

