-- ==== Sys2Proof/Config.lean ====
section
/-! DEFINITION. The fixed sizes the manual gives the part, and the free values: constants without a
body for what the manual leaves open. -/

namespace Sys2Proof.Config

/-- Places in the event queue (R7). -/
def eventQueueSize : Nat := 32
/-- Entries of the driver table (section 2.1). -/
def driverTableSize : Nat := 64
/-- Entries of the vehicle table (section 2.2). -/
def vehicleTableSize : Nat := 32
/-- Entries of the account table (section 3.1). -/
def accountTableSize : Nat := 16
/-- Recipes of the recipe table (section 8.2). -/
def recipeTableSize : Nat := 16
/-- Notes of the note store (R170). -/
def noteStoreSize : Nat := 16
/-- Lines of a note, and plan entries with lines of a load (R59). -/
def linesPerLoad : Nat := 8
/-- Characters of the console record buffer (R70). -/
def consoleBufferSize : Nat := 40
/-- Console replies that may wait (R74). -/
def consoleReplySize : Nat := 4
/-- The next note number at which the store takes no further note (R171, R181). -/
def lastNoteNumber : Nat := 4294967295

/-- FREE VALUE (notes/assumptions/12.md). What a figure of `width` bits holds when its exact value
does not fit the width: the manual gives the width and states no result. -/
opaque overflow (width : Nat) (exact : Int) : Nat

/-- FREE VALUE (notes/assumptions/13.md). The outcome of the `n`-th choice that the manual leaves
open with the words "taken in either order"; the step reads it at the state's choice count. -/
opaque choice (n : Nat) : Nat

/-- FREE VALUE (notes/assumptions/14.md). Whether GET LOAD rounds a part second of its timer left
up: R69 states no rounding. -/
opaque timerLeftRoundsUp : Bool

end Sys2Proof.Config
end

