-- ==== Sys2Proof/Syntax.lean ====
section
/-! DEFINITION. The commands of the part: one constructor of `Instr` for each row of
spec/opcode_table.json, with what the outside supplies with it. -/

namespace Sys2Proof

/-- A frame of the rack link as the receiver collects it, without its kind, its lead byte and its
length byte: the kind is the command's, the lead is 0xA5 and the length is the body's (section
1.7.1). -/
structure Frame where
  address : Byte
  tag : Byte
  body : List Byte
  check : BitVec 16
  deriving DecidableEq, Repr

/-- Where a request comes from: a frame of the host, or the carriage return that ends the record
standing in the console buffer (R70, R71). -/
inductive Source where
  | host (f : Frame)
  | console
  deriving DecidableEq, Repr

/-- The two pulse channels of an arm's meter (R79). -/
inductive Channel where
  | a
  | b
  deriving DecidableEq, Repr

/-- The twelve inputs of the Permissive Monitor (R124, section 7.2). -/
inductive Input where
  | ground
  | overfill
  | vapour
  | estop
  | stow (n : ArmId)
  | coupler (n : ArmId)
  deriving DecidableEq, Repr

/-- One command: a request taken, or an event at a pin, a line or a timer. Each constructor is a row
of spec/opcode_table.json; LAWS.json gives the row's mnemonic. -/
inductive Instr where
  -- Rack Link Port
  | poll (f : Frame)
  | nextEvent (f : Frame)
  | linkReset (f : Frame)
  | setClock (f : Frame)
  | setLink (f : Frame)
  -- Permit Unit
  | putDriver (f : Frame)
  | dropDriver (f : Frame)
  | getDriver (f : Frame)
  | putVehicle (f : Frame)
  | dropVehicle (f : Frame)
  | getVehicle (f : Frame)
  | setFilter (f : Frame)
  | answerReferral (f : Frame)
  | setAuthority (f : Frame)
  -- Account Unit
  | putAccount (f : Frame)
  | setAllocation (f : Frame)
  | getAccount (f : Frame)
  | dropAccount (f : Frame)
  -- Permit Unit and Load Controller
  | presentCard (src : Source)
  | nameVehicle (src : Source)
  | planCompartment (src : Source)
  | endLoad (src : Source)
  | getLoad (f : Frame)
  | setLoadTimes (f : Frame)
  -- Metering Engine and Arm Controllers
  | putProduct (f : Frame)
  | putArm (f : Frame)
  | putMeterCurve (f : Frame)
  | getArm (f : Frame)
  | getTotals (f : Frame)
  | readMeterFault (f : Frame)
  | setBay (f : Frame)
  | startArm (src : Source)
  | stopArm (src : Source)
  | resumeArm (src : Source)
  -- Permissive Monitor
  | getPermissives (f : Frame)
  | clearRackStop (f : Frame)
  -- Additive Controller
  | putInjector (f : Frame)
  | putRecipe (f : Frame)
  | getInjector (f : Frame)
  | clearInjectorFault (f : Frame)
  | dropRecipe (f : Frame)
  -- Proving
  | beginMeterRun (f : Frame)
  | meterResult (f : Frame)
  | beginInjectorProving (f : Frame)
  | proveShot (f : Frame)
  | injectorResult (f : Frame)
  | endProving (f : Frame)
  -- Note Store
  | readNote (f : Frame)
  | releaseNote (f : Frame)
  -- other frames
  | unknownKind (kind : Byte) (f : Frame)
  | discardedFrame (kind : Byte) (f : Frame)
  | interByteGap
  -- timers of the link, the clock and the load
  | silenceTimerExpiry
  | clockAdvance
  | referralTimerExpiry
  | identificationTimerExpiry
  | idleTimerExpiry
  -- an arm's meter, sample timer and batch timers
  | meterPulse (arm : ArmId) (channel : Channel)
  | sample (arm : ArmId) (probe : Option Int)
  | noFlowTimerExpiry (arm : ArmId)
  | closingTimerExpiry (arm : ArmId)
  -- inputs
  | rawInputChange (input : Input) (levels : BitVec 4)
  | debounceWindowExpiry (input : Input)
  -- injectors
  | additivePulse (injector : InjId)
  | shotTimerExpiry (injector : InjId)
  | tailTimerExpiry (injector : InjId)
  | trailingTimerExpiry (arm : ArmId)
  | proveShotDone (injector : InjId)
  -- console
  | consoleRecordOverflow (character : Byte) (rest : List Byte)
  | consoleMalformedRecord
  | consoleOutput
  -- supply, backup memory and RESET
  | powerFail
  | markerLost
  | resetAsserted
  | startUp (address : Byte) (baud : BitVec 2)
  -- frame receiver and line
  | leadByteReceived
  | framingError
  | bodyLengthAbove240
  | replyEnd
  -- console characters
  | consoleCharacter (character : Byte)
  | recordWhileFourRepliesWait
  deriving DecidableEq, Repr

end Sys2Proof
end

