-- ==== Sys2Proof/Machine/State.lean ====
section
/-! DEFINITION. The state of the part, block by block as section "The part in outline" (00_scope.md)
gives the blocks their records, with the values after a first cold start. INVENTORY.md lists every
field with its rule and its reset value. -/

namespace Sys2Proof.Machine

/-- Why a step stops with a fault. -/
inductive Fault where
  /-- Raised by `execUnknownKind` alone, when the kind that an UNKNOWN_KIND command carries is a kind
  of the request catalogue, so that the command contradicts its own name (`Instr.wellFormed` refuses
  it). Safe: no sender can send such a command, and no state follows. -/
  | kindInCatalogue
  deriving DecidableEq, Repr

/-- Why the model gives a command no meaning. -/
inductive Refusal where
  /-- Answered by an arm of `exec` whose command has no meaning yet. Safe. No arm answers it now. -/
  | notModelled (mnemonic : String)
  deriving DecidableEq, Repr

/-! ### Timers -/

/-- A timer of the part in milliseconds: whether it runs, the time it was given and the time it has
run. The manual's timers measure elapsed time on their own (section 1.6). -/
structure Timer where
  running : Bool
  limit : Nat
  elapsed : Nat
  deriving DecidableEq, Repr

/-- A timer that does not run, at zero. -/
def Timer.stopped : Timer := { running := false, limit := 0, elapsed := 0 }

/-! ### Rack Link Port (chapter 1) -/

/-- The frame receiver (R1). -/
inductive Receiver where
  | hunting
  | collecting
  deriving DecidableEq, Repr

/-- The link state (section 1.5). -/
inductive LinkState where
  | lost
  | up
  deriving DecidableEq, Repr

/-- The event kinds (section 1.4). -/
inductive EventKind where
  | coldStart
  | powerRecovered
  | linkLost
  | linkRestored
  | cardRead
  | referralPending
  | identificationDenied
  | loadOpened
  | loadSealed
  | batchStarted
  | batchHeld
  | batchResumed
  | batchEnded
  | unbatchedFlow
  | meterFault
  | permissiveChange
  | couplerChange
  | rackStop
  | rackStopCleared
  | additiveFault
  | injectorCreep
  | proveShotDone
  | meterRunDone
  deriving DecidableEq, Repr

/-- An event record (section 1.7.3): `arm` is 1 to 4, or 0 for none. -/
structure Event where
  kind : EventKind
  arm : Nat
  code : Nat
  value : Nat
  clock : BitVec 32
  deriving DecidableEq, Repr

/-- The statuses (section 1.2.1). -/
inductive Status where
  | ok
  | unknownKind
  | badLength
  | badValue
  | wrongState
  | notFound
  | full
  | inUse
  | tooLate
  | notOldest
  | rackStopped
  | denied
  deriving DecidableEq, Repr

/-- The deny reasons (section 1.2.2). -/
inductive DenyReason where
  | cardUnknown
  | cardSuspended
  | cardExpired
  | dailyLimit
  | referralDenied
  | referralNoAnswer
  | noHost
  | bayBusy
  | noteStoreFull
  | vehicleUnknown
  | vehicleExpired
  | vehicleNotBound
  | classNotAllowed
  | compartmentClass
  | compartmentFull
  | noAllocation
  | accountHold
  | recipeUnknown
  | recipeArmMismatch
  | injectorUnavailable
  | armStowed
  | wrongCompartment
  | compartmentBusy
  | permissive
  | notConfigured
  deriving DecidableEq, Repr

/-- A reply frame in transmission, without its lead and length byte (R5, section 1.7.1). -/
structure Reply where
  address : Byte
  tag : Byte
  kind : Byte
  body : List Byte
  check : BitVec 16
  deriving DecidableEq, Repr

/-- The records of the Rack Link Port. -/
structure RackPort where
  /-- frame receiver (R1) -/
  receiver : Receiver
  /-- the levels of ADDR7 to ADDR0 read at the last start-up (R3) -/
  station : Byte
  /-- the levels of BAUD1 and BAUD0 read at the last start-up (R3) -/
  baud : BitVec 2
  /-- the reply being sent; LDIR is asserted while there is one (R3, R5) -/
  reply : Option Reply
  /-- the event queue, oldest first (R7) -/
  events : List Event
  /-- the overflow flag (R7) -/
  overflow : Bool
  /-- the link state (R12, R13) -/
  link : LinkState
  /-- the silence timer (R12, R13) -/
  silence : Timer
  /-- the silence limit in seconds, 0 for none (R14) -/
  silenceLimit : Nat
  /-- the rack clock in seconds (R15) -/
  clock : BitVec 32
  deriving DecidableEq, Repr

/-! ### Console Port (section 4.8) -/

/-- Line 1 of the display (R73). -/
inductive Line1 where
  | blank
  | presentCard
  | waitForHost
  | enterVehicle
  | load (note : Nat)
  | ending (note : Nat)
  deriving DecidableEq, Repr

/-- The word that a NO record carries (R71, R72). -/
inductive NoWord where
  | reason (r : DenyReason)
  | status (s : Status)
  | form
  deriving DecidableEq, Repr

/-- Line 2 of the display (R72, R73). -/
inductive Line2 where
  | blank
  | granted (litres : Nat)
  | refusal (w : NoWord)
  deriving DecidableEq, Repr

/-- The prompts (R73). -/
inductive Prompt where
  | card
  | vehicle
  | plan
  deriving DecidableEq, Repr

/-- A reply to a console record (R72). -/
inductive ConsoleReply where
  | ok
  | no (w : NoWord)
  deriving DecidableEq, Repr

/-- A record the part sends on the console line (R74). -/
inductive ConsoleRecord where
  | reply (r : ConsoleReply)
  | say1 (t : Line1)
  | say2 (t : Line2)
  | ask (p : Prompt)
  deriving DecidableEq, Repr

/-- The records of the Console Port. -/
structure Console where
  /-- the record buffer, oldest character first (R70) -/
  buffer : List Byte
  /-- whether characters are being dropped up to the next carriage return (R70) -/
  dropping : Bool
  /-- the replies waiting to be sent, oldest first (R74) -/
  replies : List ConsoleReply
  /-- line 1 of the display text (R73) -/
  line1 : Line1
  /-- line 2 of the display text (R72, R73) -/
  line2 : Line2
  /-- the current prompt (R73) -/
  prompt : Option Prompt
  /-- line 1 as last sent; absent when start-up has marked it changed (R74) -/
  sent1 : Option Line1
  /-- line 2 as last sent; absent when start-up has marked it changed (R74) -/
  sent2 : Option Line2
  /-- the prompt last sent (R74) -/
  sentPrompt : Option Prompt
  /-- the records sent at the last console output (R74) -/
  sent : List ConsoleRecord
  deriving DecidableEq, Repr

/-! ### Permit Unit (chapter 2) -/

/-- A driver entry (section 2.1). -/
structure Driver where
  card : Nat
  suspended : Bool
  validUntil : Nat
  account : Nat
  classes : BitVec 8
  bound : Option Nat
  dailyLimit : Nat
  loadsToday : Nat
  deriving DecidableEq, Repr

/-- A compartment of a vehicle entry (section 2.2). -/
structure Compartment where
  capacity : Nat
  classes : BitVec 8
  deriving DecidableEq, Repr

/-- A vehicle entry (section 2.2); compartment number `n` is the `n - 1`-th of the list. -/
structure Vehicle where
  number : Nat
  validUntil : Nat
  compartments : List Compartment
  deriving DecidableEq, Repr

/-- The authority mode (R23). -/
inductive AuthorityMode where
  | localMode
  | host
  | hostFallback
  deriving DecidableEq, Repr

/-- Why a card was referred (R25, R28). -/
inductive ReferralReason where
  | mode
  | filter
  deriving DecidableEq, Repr

/-- The referral record (section 2.6); its timer stands beside it in `PermitUnit`. -/
inductive Referral where
  | empty
  | pending (card : Nat) (reason : ReferralReason)
  | expired (card : Nat)
  deriving DecidableEq, Repr

/-- The identification source (section 1.7.7). -/
inductive IdSource where
  | fromTable
  | referred
  deriving DecidableEq, Repr

/-- The held permit of an identification in VEHICLE_WAIT (section 2.5). -/
structure Permit where
  source : IdSource
  card : Nat
  account : Nat
  classes : BitVec 8
  bound : Option Nat
  deriving DecidableEq, Repr

/-- The records of the Permit Unit. -/
structure PermitUnit where
  /-- driver table (R17); the order of the list means nothing -/
  drivers : List Driver
  /-- vehicle table (R19); the order of the list means nothing -/
  vehicles : List Vehicle
  /-- revocation filter, bit `i` at place `i` (R21, R22) -/
  filter : BitVec 256
  /-- authority mode (R23) -/
  mode : AuthorityMode
  /-- referral timeout in seconds (R23) -/
  referralTimeout : Nat
  /-- referral record (section 2.6) -/
  referral : Referral
  /-- referral timer (R28) -/
  referralTimer : Timer
  /-- held permit (section 2.5) -/
  held : Option Permit
  /-- count day (R36) -/
  countDay : Nat
  deriving DecidableEq, Repr

/-! ### Account Unit (chapter 3) -/

/-- The remaining litres of a class of an account (section 3.1). -/
inductive Remaining where
  | litres (n : Nat)
  | unlimited
  deriving DecidableEq, Repr

/-- One class of an account (section 3.1). -/
structure Allocation where
  remaining : Remaining
  reserved : Nat
  deriving DecidableEq, Repr

/-- An account entry (section 3.1). -/
structure Account where
  number : Nat
  hold : Bool
  classes : Bank8 Allocation
  deriving DecidableEq, Repr

/-! ### Load Controller (chapter 4) and the note (chapter 10) -/

/-- The load state (section 4.1). -/
inductive LoadState where
  | noLoad
  | referred
  | vehicleWait
  | opened
  | ending
  deriving DecidableEq, Repr

/-- The end cause of a load (section 1.7.7). -/
inductive EndCause where
  | driver
  | host
  | idleTimeout
  | powerInterrupted
  deriving DecidableEq, Repr

/-- The state of a plan entry (section 4.4). -/
inductive EntryState where
  | armed
  | active
  deriving DecidableEq, Repr

/-- A plan entry (section 4.4). -/
structure PlanEntry where
  compartment : Nat
  recipe : Nat
  arm : ArmId
  preset : Nat
  reservation : Nat
  state : EntryState
  deriving DecidableEq, Repr

/-- The outcome of a batch (R175); INTERRUPTED stands in lines alone. -/
inductive BatchOutcome where
  | complete
  | stopped
  | allocation
  | aborted
  | interrupted
  deriving DecidableEq, Repr

/-- The status of an additive component (section 8.3). -/
inductive ComponentStatus where
  | ok
  | short
  | faulted
  deriving DecidableEq, Repr

/-- The eight line flags (R176). -/
structure LineFlags where
  tempSubstituted : Bool
  correctionLimited : Bool
  additiveShort : Bool
  overAllocation : Bool
  meterFault : Bool
  couplerLost : Bool
  permissiveHold : Bool
  paced : Bool
  deriving DecidableEq, Repr

/-- An additive entry of a line (R177, section 1.7.6). -/
structure AdditiveEntry where
  code : Nat
  injector : InjId
  target : Nat
  injected : Nat
  shots : Nat
  status : ComponentStatus
  deriving DecidableEq, Repr

/-- A line: the record of one ended batch (R174, section 1.7.5). -/
structure Line where
  compartment : Nat
  arm : ArmId
  recipe : Nat
  productCode : Nat
  preset : Nat
  grossMl : Nat
  grossL : Nat
  standardMl : Nat
  standardL : Nat
  fwa : Int
  ctl : Nat
  outcome : BatchOutcome
  resumes : Nat
  flags : LineFlags
  overAllocation : Nat
  entries : List AdditiveEntry
  deriving DecidableEq, Repr

/-- The open load record (R53); its idle timer stands beside it in `LoadController`. -/
structure OpenLoad where
  note : Nat
  source : IdSource
  card : Nat
  vehicle : Nat
  account : Nat
  classes : BitVec 8
  opened : BitVec 32
  endCause : Option EndCause
  plan : List PlanEntry
  lines : List Line
  deriving DecidableEq, Repr

/-- The records of the Load Controller. -/
structure LoadController where
  /-- load state (R50) -/
  state : LoadState
  /-- open load record (R53) -/
  record : Option OpenLoad
  /-- identification timer (R51) -/
  identTimer : Timer
  /-- idle timer of the open load (R62) -/
  idleTimer : Timer
  /-- identification timeout in seconds (R52) -/
  identTimeout : Nat
  /-- load idle timeout in minutes (R52) -/
  idleTimeout : Nat
  deriving DecidableEq, Repr

/-- A sealed note (R173). -/
structure Note where
  number : Nat
  opened : BitVec 32
  closed : BitVec 32
  card : Nat
  vehicle : Nat
  account : Nat
  source : IdSource
  endCause : EndCause
  lines : List Line
  deriving DecidableEq, Repr

/-- The records of the Note Store. -/
structure NoteStore where
  /-- stored notes, oldest first (R170) -/
  notes : List Note
  /-- next note number (R171) -/
  next : Nat
  deriving DecidableEq, Repr

/-! ### Metering Engine (chapter 5) -/

/-- The preset basis of a product (section 5.1). -/
inductive PresetBasis where
  | gross
  | standard
  deriving DecidableEq, Repr

/-- A product table entry (section 5.1). -/
structure Product where
  code : Nat
  productClass : ClassId
  baseTemp : Int
  alpha : Nat
  beta : Nat
  lowLimit : Int
  highLimit : Int
  substitute : Int
  basis : PresetBasis
  deriving DecidableEq, Repr

/-- A point of a meter curve (R78). -/
structure CurvePoint where
  rate : Nat
  factor : Nat
  deriving DecidableEq, Repr

/-- The meter channel record of an arm (section 5.3). -/
structure MeterChannel where
  /-- pulse counters A and B (R79) -/
  pulsesA : Nat
  pulsesB : Nat
  /-- gross remainder (R80) -/
  remainder : Nat
  /-- rate window, oldest first (R81) -/
  window : List Nat
  /-- rate at the last sample (R81) -/
  rate : Nat
  /-- last valid temperature (R83) -/
  lastValid : Option Int
  /-- milliseconds since the last valid reading (R83) -/
  sinceValid : Nat
  /-- substituting or not (R83) -/
  substituting : Bool
  /-- integrity check: ARMED (true) or SUSPENDED (R90, R91) -/
  integrityArmed : Bool
  /-- overspeed count (R93) -/
  overspeedCount : Nat
  /-- unbatched-since-idle in mL (R99) -/
  unbatched : Nat
  deriving DecidableEq, Repr

/-- The running batch figures of an arm (section 5.4). -/
structure Figures where
  gross : Nat
  sumTV : Int
  aTotal : Nat
  bTotal : Nat
  fwa : Int
  ctl : Nat
  standard : Nat
  tempSubstituted : Bool
  correctionLimited : Bool
  meterFault : Bool
  deriving DecidableEq, Repr

/-- The totals record of an arm in mL (section 5.8). -/
structure Totals where
  gross : Nat
  batched : Nat
  proving : Nat
  unbatched : Nat
  standard : Nat
  deriving DecidableEq, Repr

/-- The meter fault capture record when HELD (section 5.7); its cause is always DISCREPANCY, 1. -/
structure Capture where
  arm : ArmId
  aCount : Nat
  bCount : Nat
  gross : Nat
  clock : BitVec 32
  faultsSince : Nat
  deriving DecidableEq, Repr

/-! ### Arm Controllers (chapter 6) -/

/-- What PUT ARM writes (sections 5.2 and 6.2); an arm that has it is configured. -/
structure ArmConfig where
  product : Fin 8
  kFactor : Nat
  singleChannel : Bool
  overspeedRate : Nat
  integrityLimit : Nat
  lowTarget : Nat
  highTarget : Nat
  startVolume : Nat
  slowdownVolume : Nat
  noFlowTimeout : Nat
  resumeLimit : Nat
  lateClose : Nat
  deriving DecidableEq, Repr

/-- The batch states (section 6.1). -/
inductive ArmState where
  | idle
  | armed
  | starting
  | fullFlow
  | trim
  | closing
  | held
  deriving DecidableEq, Repr

/-- The hold causes (section 6.5). -/
inductive HoldCause where
  | permissive
  | coupler
  | meterFault
  | overspeed
  | noFlow
  | additiveFault
  deriving DecidableEq, Repr

/-- The valve commands (R110). -/
inductive Valve where
  | closed
  | openStep
  | hold
  | closeStep
  deriving DecidableEq, Repr

/-- The binding of an arm to a plan entry (section 6.1). -/
structure Binding where
  compartment : Nat
  recipe : Nat
  preset : Nat
  basis : PresetBasis
  reservation : Nat
  deriving DecidableEq, Repr

/-- The controller's own part of the arm record (section 6.1). -/
structure ArmControl where
  state : ArmState
  binding : Option Binding
  stageBase : Nat
  closeGross : Nat
  outcome : Option BatchOutcome
  holdCause : Option HoldCause
  valve : Valve
  pump : Bool
  flowTarget : Nat
  debtReduced : Bool
  resumeCount : Nat
  permissiveHold : Bool
  couplerLost : Bool
  paced : Bool
  overrun : Nat
  pacing : Nat
  settle : Nat
  closingTimer : Timer
  noFlowTimer : Timer
  deriving DecidableEq, Repr

/-- The run record of a meter proving run (section 9.1); the meter run flag is set while there is
one. -/
structure MeterRun where
  volume : Nat
  flowingMs : Nat
  mfUsed : Nat
  /-- whether a sample of the run has been taken in FULL_FLOW (R162) -/
  reachedFullFlow : Bool
  deriving DecidableEq, Repr

/-- The run result of an arm (section 9.1). -/
structure RunResult where
  gross : Nat
  mfUsed : Nat
  deriving DecidableEq, Repr

/-- A component record of a batch (R143). -/
structure Component where
  injector : InjId
  additiveCode : Nat
  dose : Nat
  tolerance : Nat
  cycle : Nat
  accumulated : Nat
  owed : Nat
  shots : Nat
  injected : Nat
  status : ComponentStatus
  deriving DecidableEq, Repr

/-- All that the blocks keep for one arm. -/
structure Arm where
  /-- metering configuration and settings; present when configured (R77, R101) -/
  config : Option ArmConfig
  /-- meter curve (R78) -/
  curve : List CurvePoint
  /-- sample timer (R79) -/
  sampleTimer : Timer
  /-- meter channel record (section 5.3) -/
  channel : MeterChannel
  /-- running batch figures (section 5.4) -/
  figures : Figures
  /-- totals record (section 5.8) -/
  totals : Totals
  /-- batch control (section 6.1) -/
  control : ArmControl
  /-- run record, with the meter run flag (section 9.1) -/
  run : Option MeterRun
  /-- run result (section 9.1) -/
  result : Option RunResult
  /-- component records of the batch (R143) -/
  components : List Component
  /-- trailing timer of the batch (R155, R157) -/
  trailingTimer : Timer
  deriving DecidableEq, Repr

/-- The bay settings (R102). -/
structure BaySettings where
  /-- bay flow ceiling in L/min, 0 for none -/
  ceiling : Nat
  /-- vapour-required flag -/
  vapourRequired : Bool
  deriving DecidableEq, Repr

/-! ### Permissive Monitor (chapter 7) -/

/-- An input: the levels of its pins and its debounce record (R124, section 7.2). Values are the
value codes of section 7.1. -/
structure Debounce where
  /-- levels of the input's pins: bit `k` is CPLn_k or OVFk, bit 0 the pin of a one-pin input -/
  levels : BitVec 4
  accepted : Nat
  candidate : Option Nat
  window : Timer
  deriving DecidableEq, Repr

/-- The records of the Permissive Monitor. -/
structure Monitor where
  ground : Debounce
  overfill : Debounce
  vapour : Debounce
  estop : Debounce
  stow : Bank4 Debounce
  coupler : Bank4 Debounce
  /-- bay permissive: OK (true) or NOT_OK (R128) -/
  permissiveOk : Bool
  /-- rack stop latch (section 7.5) -/
  rackStop : Bool
  deriving DecidableEq, Repr

/-! ### Additive Controller (chapter 8) and injector proving (section 9.2) -/

/-- The class of an injector (section 8.1). -/
inductive InjectorClass where
  | mandatory
  | optional
  deriving DecidableEq, Repr

/-- The scheme of an injector (section 8.1). -/
inductive Scheme where
  | roundRobin
  | fixed
  deriving DecidableEq, Repr

/-- What PUT INJECTOR writes (section 8.1); an injector that has it is configured. -/
structure InjectorConfig where
  additiveCode : Nat
  meterK : Nat
  shotMl : Nat
  shotTimeLimit : Nat
  tolerance : Nat
  faultLimit : Nat
  injectorClass : InjectorClass
  firstArm : ArmId
  secondArm : Option ArmId
  scheme : Scheme
  creepLimit : Nat
  deriving DecidableEq, Repr

/-- The phase of a shot (R148). -/
inductive ShotPhase where
  | opened
  | tail
  deriving DecidableEq, Repr

/-- The shot record (section 8.1); `timer` is the shot timer in OPEN and the tail timer in TAIL. -/
structure Shot where
  arm : ArmId
  phase : ShotPhase
  target : Nat
  pulses : Nat
  timer : Timer
  deriving DecidableEq, Repr

/-- How the OPEN phase of a proving shot ended (R167). -/
inductive ProveEnd where
  | target
  | time
  | stopped
  deriving DecidableEq, Repr

/-- A proving shot (section 9.2); `ended` is set when the OPEN phase ends. -/
structure ProveShot where
  phase : ShotPhase
  target : Nat
  pulses : Nat
  timer : Timer
  ended : Option ProveEnd
  deriving DecidableEq, Repr

/-- The proving record of an injector (section 9.2). -/
structure ProvingRecord where
  shots : Nat
  pulseTotal : Nat
  shot : Option ProveShot
  deriving DecidableEq, Repr

/-- The state of an injector with the record that goes with it (section 8.1). -/
inductive InjectorState where
  | idle
  | shot (r : Shot)
  | faulted
  | proving (r : ProvingRecord)
  deriving DecidableEq, Repr

/-- An injector record (section 8.1). -/
structure Injector where
  /-- configuration; present when configured (R139) -/
  config : Option InjectorConfig
  state : InjectorState
  badCount : Nat
  lastServed : Option ArmId
  /-- the arm the diverter routes to (R146); of no meaning while not configured -/
  diverter : ArmId
  creep : Nat
  deriving DecidableEq, Repr

/-- A component of a recipe (section 8.2). -/
structure RecipeComponent where
  injector : InjId
  dose : Nat
  deriving DecidableEq, Repr

/-- A recipe (section 8.2). -/
structure Recipe where
  code : Nat
  product : Fin 8
  components : List RecipeComponent
  deriving DecidableEq, Repr

/-! ### Backup Memory (chapter 11) -/

/-- Whether the part has supply and runs (R184). -/
inductive Supply where
  /-- no supply -/
  | off
  /-- supply, RESET held low -/
  | reset
  /-- start-up complete -/
  | running
  deriving DecidableEq, Repr

/-- The Backup Memory. The image is not stored a second time: it always equals the retained records
of the blocks (R183). -/
structure Backup where
  /-- validity marker: good (true) or bad (R184) -/
  markerGood : Bool
  supply : Supply
  deriving DecidableEq, Repr

/-! ### The whole part -/

/-- The state of the part. -/
structure State where
  port : RackPort
  console : Console
  permit : PermitUnit
  accounts : List Account
  load : LoadController
  products : Bank8 (Option Product)
  capture : Option Capture
  arms : Bank4 Arm
  bay : BaySettings
  monitor : Monitor
  injectors : Bank6 Injector
  recipes : List Recipe
  store : NoteStore
  backup : Backup
  /-- the MODEL's own: how many open choices have been taken (`Config.choice`) -/
  choices : Nat
  /-- the commands that wait, first in, first out -/
  pending : List Instr
  deriving DecidableEq, Repr

/-! ### Values after a cold start -/

/-- The Rack Link Port after a cold start, before COLD START is posted (R1, R7, R12, R14, R15). The
station address 1 is a DESIGN CHOICE (notes/assumptions/2.md). -/
def RackPort.cold : RackPort :=
  { receiver := .hunting, station := 1, baud := 0, reply := none, events := [], overflow := false,
    link := .lost, silence := .stopped, silenceLimit := 10, clock := 0 }

/-- The Console Port after start-up in NO_LOAD: the whole display is marked changed (R73, R74). -/
def Console.started : Console :=
  { buffer := [], dropping := false, replies := [], line1 := .presentCard, line2 := .blank,
    prompt := some .card, sent1 := none, sent2 := none, sentPrompt := none, sent := [] }

/-- The Permit Unit after a cold start (R185). -/
def PermitUnit.cold : PermitUnit :=
  { drivers := [], vehicles := [], filter := 0, mode := .localMode, referralTimeout := 20,
    referral := .empty, referralTimer := .stopped, held := none, countDay := 0 }

/-- The Load Controller after a cold start (R185). -/
def LoadController.cold : LoadController :=
  { state := .noLoad, record := none, identTimer := .stopped, idleTimer := .stopped,
    identTimeout := 60, idleTimeout := 20 }

/-- The meter channel record after a cold start and after PUT ARM, less what each keeps (section 5.3,
R77). -/
def MeterChannel.cleared : MeterChannel :=
  { pulsesA := 0, pulsesB := 0, remainder := 0, window := [], rate := 0, lastValid := none,
    sinceValid := 0, substituting := false, integrityArmed := true, overspeedCount := 0,
    unbatched := 0 }

/-- Running batch figures all 0 and clear (R185). -/
def Figures.zero : Figures :=
  { gross := 0, sumTV := 0, aTotal := 0, bTotal := 0, fwa := 0, ctl := 0, standard := 0,
    tempSubstituted := false, correctionLimited := false, meterFault := false }

/-- Totals records of 0 (R185). -/
def Totals.zero : Totals :=
  { gross := 0, batched := 0, proving := 0, unbatched := 0, standard := 0 }

/-- The arm control record after a cold start (R100). R100 and R185 give no value for the stage base and
the close gross: 0 is a DESIGN CHOICE (notes/assumptions/37.md). -/
def ArmControl.cold : ArmControl :=
  { state := .idle, binding := none, stageBase := 0, closeGross := 0, outcome := none,
    holdCause := none, valve := .closed, pump := false, flowTarget := 0, debtReduced := false,
    resumeCount := 0, permissiveHold := false, couplerLost := false, paced := false, overrun := 0,
    pacing := 0, settle := 0, closingTimer := .stopped, noFlowTimer := .stopped }

/-- An arm after a cold start (R100, R185). -/
def Arm.cold : Arm :=
  { config := none, curve := [], sampleTimer := .stopped, channel := .cleared, figures := .zero,
    totals := .zero, control := .cold, run := none, result := none, components := [],
    trailingTimer := .stopped }

/-- An input at its start-up value, which its pin levels give as well (R126). -/
def Debounce.at (levels : BitVec 4) (value : Nat) : Debounce :=
  { levels := levels, accepted := value, candidate := none, window := .stopped }

/-- The Permissive Monitor after start-up (R126, R128, R135). The pin levels, which agree with the
start-up values, are a DESIGN CHOICE (notes/assumptions/3.md). -/
def Monitor.started : Monitor :=
  { ground := .at 0 0, overfill := .at 0 0, vapour := .at 0 0, estop := .at 1 0,
    stow := .replicate (.at 1 0), coupler := .replicate (.at 15 0), permissiveOk := false,
    rackStop := false }

/-- An injector after a cold start (R138). -/
def Injector.cold : Injector :=
  { config := none, state := .idle, badCount := 0, lastServed := none, diverter := 0, creep := 0 }

/-- The part after a cold start, before COLD START is posted (R185). -/
def State.cold : State :=
  { port := .cold, console := .started, permit := .cold, accounts := [], load := .cold,
    products := .replicate none, capture := none, arms := .replicate .cold,
    bay := { ceiling := 0, vapourRequired := true }, monitor := .started,
    injectors := .replicate .cold, recipes := [], store := { notes := [], next := 1 },
    backup := { markerGood := true, supply := .running }, choices := 0, pending := [] }

/-- The machine right after reset: a first cold start has been made and COLD START has been posted
(R185; notes/assumptions/1.md). No command waits. -/
def State.reset : State :=
  { State.cold with
    port.events := [{ kind := .coldStart, arm := 0, code := 0, value := 0, clock := 0 }] }

end Sys2Proof.Machine
end

