-- ==== Sys2Proof/Machine/Ops.lean ====
section
/-! DEFINITION. The operations that several blocks share: numbers in bytes, roundings, the two check
codes, timers, access to arms, injectors and inputs, open choices, the event queue. -/

namespace Sys2Proof.Machine

/-! ### Numbers (00_scope.md "Arithmetic words", R6) -/

/-- A number of `n` bytes, high byte first (R6). -/
def be : Nat → Nat → List Byte
  | 0, _ => []
  | n + 1, v => be n (v / 256) ++ [BitVec.ofNat 8 v]

/-- The number that bytes spell, high byte first (R6). -/
def beNat (l : List Byte) : Nat := l.foldl (fun acc b => acc * 256 + b.toNat) 0

/-- A number read as signed in two's complement at a width in bytes (R6). -/
def signedOf (bytes v : Nat) : Int :=
  if v < 2 ^ (8 * bytes - 1) then (v : Int) else (v : Int) - 2 ^ (8 * bytes)

/-- A signed number of `n` bytes in two's complement, high byte first (R6). -/
def beSigned (n : Nat) (v : Int) : List Byte := be n (v % 2 ^ (8 * n)).toNat

/-- An unsigned figure of `w` bits: the exact value where it fits, and a free value where it does not
(notes/assumptions/12.md). -/
def fit (w exact : Nat) : Nat :=
  if exact < 2 ^ w then exact else Config.overflow w exact % 2 ^ w

/-- A signed figure of `w` bits: the exact value where it fits, and a free value where it does not
(notes/assumptions/12.md). -/
def fitSigned (w : Nat) (exact : Int) : Int :=
  if -(2 ^ (w - 1)) ≤ exact ∧ exact < 2 ^ (w - 1) then exact
  else ((Config.overflow w exact % 2 ^ w : Nat) : Int) - 2 ^ (w - 1)

/-- A figure as a field of `n` bytes of a reply. -/
def field (n v : Nat) : List Byte := be n (fit (8 * n) v)

/-- A flag as a field (R6). -/
def flagField (b : Bool) : List Byte := be 1 b.toNat

/-- The quotient's ceiling: "ceil". -/
def ceilDiv (a b : Nat) : Nat := (a + b - 1) / b

/-- "rounded half up", of a quotient that is not negative. -/
def roundHalfUp (a b : Nat) : Nat := (2 * a + b) / (2 * b)

/-- "rounded half up", of a signed dividend. -/
def roundHalfUpInt (a : Int) (b : Nat) : Int := (2 * a + b).fdiv (2 * b)

/-- "rounded half away from zero". -/
def roundHalfAway (a : Int) (b : Nat) : Int :=
  if 0 ≤ a then ((roundHalfUp a.toNat b : Nat) : Int) else -((roundHalfUp (-a).toNat b : Nat) : Int)

/-- A volume shown in litres (R88). -/
def litres (ml : Nat) : Nat := roundHalfUp ml 1000

/-- The day number of a clock value (section 1.6). -/
def dayOf (clock : BitVec 32) : Nat := clock.toNat / 86400

/-! ### Check codes -/

/-- One shift of the frame check register (R2). -/
def crcShift (r : BitVec 16) : BitVec 16 := if r.msb then (r <<< 1) ^^^ 0x1021 else r <<< 1

/-- One byte into the frame check register (R2). -/
def crcByte (r : BitVec 16) (b : Byte) : BitVec 16 :=
  (List.range 8).foldl (fun r _ => crcShift r) (r ^^^ (b.setWidth 16 <<< 8))

/-- The check of R2 over bytes in the order sent. -/
def crc (bytes : List Byte) : BitVec 16 := bytes.foldl crcByte 0xFFFF

/-- The check of a frame: over the address through the last body byte (R2). -/
def frameCheck (address tag kind : Byte) (body : List Byte) : BitVec 16 :=
  crc ([address, tag, kind, BitVec.ofNat 8 body.length] ++ body)

/-- One shift of the filter index register (R21). -/
def filterShift (r : BitVec 8) : BitVec 8 := if r.msb then (r <<< 1) ^^^ 0x07 else r <<< 1

/-- The filter index of a card number (R21). -/
def filterIndex (card : Nat) : Nat :=
  ((be 5 card).foldl (fun r b => (List.range 8).foldl (fun r _ => filterShift r) (r ^^^ b)) 0).toNat

/-! ### Timers -/

/-- Start a timer from zero with the time it is given, in milliseconds. -/
def Timer.start (ms : Nat) : Timer := { running := true, limit := ms, elapsed := 0 }

/-- One millisecond passes for a timer; a timer that has run its time stays there until it is taken. -/
def Timer.tick (t : Timer) : Timer :=
  if t.running && t.elapsed < t.limit then { t with elapsed := t.elapsed + 1 } else t

/-- A running timer has run its time: what an expiry says (notes/assumptions/5.md). -/
def Timer.runOut (t : Timer) : Timer := if t.running then { t with elapsed := t.limit } else t

/-- Whether a running timer has run its time. -/
def Timer.done (t : Timer) : Bool := t.running && t.limit ≤ t.elapsed

/-! ### Access -/

/-- Whether start-up is complete and RESET is not held: requests, records, pulses and timers are
taken (R1, R70, R79, R184). -/
def State.running (s : State) : Bool := s.backup.supply = .running

def State.arm (s : State) (n : ArmId) : Arm := s.arms.get n

def State.setArm (s : State) (n : ArmId) (a : Arm) : State := { s with arms := s.arms.set n a }

def State.updArm (s : State) (n : ArmId) (f : Arm → Arm) : State := s.setArm n (f (s.arm n))

def State.injector (s : State) (i : InjId) : Injector := s.injectors.get i

def State.setInjector (s : State) (i : InjId) (j : Injector) : State :=
  { s with injectors := s.injectors.set i j }

/-- The debounce record of an input. -/
def Monitor.input (m : Monitor) : Input → Debounce
  | .ground => m.ground
  | .overfill => m.overfill
  | .vapour => m.vapour
  | .estop => m.estop
  | .stow n => m.stow.get n
  | .coupler n => m.coupler.get n

def Monitor.setInput (m : Monitor) (i : Input) (d : Debounce) : Monitor :=
  match i with
  | .ground => { m with ground := d }
  | .overfill => { m with overfill := d }
  | .vapour => { m with vapour := d }
  | .estop => { m with estop := d }
  | .stow n => { m with stow := m.stow.set n d }
  | .coupler n => { m with coupler := m.coupler.set n d }

/-- The twelve inputs (section 7.2). -/
def inputs : List Input :=
  [.ground, .overfill, .vapour, .estop] ++ armIds.map .stow ++ armIds.map .coupler

/-- The arm that a number names: 1 to 4. -/
def armOf (n : Nat) : Option ArmId :=
  if h : 1 ≤ n ∧ n ≤ 4 then some ⟨n - 1, by omega⟩ else none

/-- The injector that a number names: 1 to 6. -/
def injectorOf (n : Nat) : Option InjId :=
  if h : 1 ≤ n ∧ n ≤ 6 then some ⟨n - 1, by omega⟩ else none

/-- The product table place that an index names: 1 to 8. -/
def productIndexOf (n : Nat) : Option (Fin 8) :=
  if h : 1 ≤ n ∧ n ≤ 8 then some ⟨n - 1, by omega⟩ else none

/-- The number of an arm in the manual. -/
def armNumber (n : ArmId) : Nat := n.val + 1

/-- The number of an injector in the manual. -/
def injectorNumber (i : InjId) : Nat := i.val + 1

/-- Do the same for every arm, in ascending arm number. -/
def forArms (f : ArmId → State → State) (s : State) : State := armIds.foldl (fun s n => f n s) s

/-- Do the same for every injector, in ascending injector number. -/
def forInjectors (f : InjId → State → State) (s : State) : State :=
  injIds.foldl (fun s i => f i s) s

/-! ### Open choices (notes/assumptions/13.md) -/

/-- The outcome of the next open choice among `k`. -/
def State.choice (s : State) (k : Nat) : Nat := Config.choice s.choices % k

/-- The next open choice has been taken. -/
def State.chosen (s : State) : State := { s with choices := s.choices + 1 }

/-! ### The event queue (R7) -/

/-- Post an event: it joins the queue behind the newest record, or is discarded with the overflow
flag set when the queue is full (R7). `arm` is 0 for none. -/
def post (kind : EventKind) (arm code value : Nat) (s : State) : State :=
  if s.port.events.length < Config.eventQueueSize then
    { s with
      port.events := s.port.events ++
        [{ kind := kind, arm := arm, code := code, value := value, clock := s.port.clock }] }
  else { s with port.overflow := true }

end Sys2Proof.Machine
end

