-- ==== Sys2Proof/Machine/Codes.lean ====
section
/-! DEFINITION. The numbers by which the manual codes its named values: statuses, deny reasons, event
kinds and the enumerations of sections 1.7.7, 6.5, 6.9, 7.1 and 8.1. -/

namespace Sys2Proof.Machine

/-- Section 1.2.1. -/
def Status.code : Status → Nat
  | .ok => 0x00
  | .unknownKind => 0x01
  | .badLength => 0x02
  | .badValue => 0x03
  | .wrongState => 0x04
  | .notFound => 0x05
  | .full => 0x06
  | .inUse => 0x07
  | .tooLate => 0x08
  | .notOldest => 0x09
  | .rackStopped => 0x0A
  | .denied => 0x0B

/-- Section 1.2.2. -/
def DenyReason.code : DenyReason → Nat
  | .cardUnknown => 0x01
  | .cardSuspended => 0x02
  | .cardExpired => 0x03
  | .dailyLimit => 0x04
  | .referralDenied => 0x05
  | .referralNoAnswer => 0x06
  | .noHost => 0x07
  | .bayBusy => 0x08
  | .noteStoreFull => 0x09
  | .vehicleUnknown => 0x0A
  | .vehicleExpired => 0x0B
  | .vehicleNotBound => 0x0C
  | .classNotAllowed => 0x0D
  | .compartmentClass => 0x0E
  | .compartmentFull => 0x0F
  | .noAllocation => 0x10
  | .accountHold => 0x11
  | .recipeUnknown => 0x12
  | .recipeArmMismatch => 0x13
  | .injectorUnavailable => 0x14
  | .armStowed => 0x15
  | .wrongCompartment => 0x16
  | .compartmentBusy => 0x17
  | .permissive => 0x18
  | .notConfigured => 0x19

/-- Section 1.4. -/
def EventKind.code : EventKind → Nat
  | .coldStart => 0x01
  | .powerRecovered => 0x02
  | .linkLost => 0x03
  | .linkRestored => 0x04
  | .cardRead => 0x10
  | .referralPending => 0x11
  | .identificationDenied => 0x12
  | .loadOpened => 0x13
  | .loadSealed => 0x14
  | .batchStarted => 0x20
  | .batchHeld => 0x21
  | .batchResumed => 0x22
  | .batchEnded => 0x23
  | .unbatchedFlow => 0x24
  | .meterFault => 0x25
  | .permissiveChange => 0x30
  | .couplerChange => 0x31
  | .rackStop => 0x32
  | .rackStopCleared => 0x33
  | .additiveFault => 0x40
  | .injectorCreep => 0x41
  | .proveShotDone => 0x42
  | .meterRunDone => 0x43

/-- Section 1.7.7, link state. -/
def LinkState.code : LinkState → Nat
  | .lost => 0
  | .up => 1

/-- Section 1.7.7, load state. -/
def LoadState.code : LoadState → Nat
  | .noLoad => 0
  | .referred => 1
  | .vehicleWait => 2
  | .opened => 3
  | .ending => 4

/-- Section 1.7.7, arm state. -/
def ArmState.code : ArmState → Nat
  | .idle => 0
  | .armed => 1
  | .starting => 2
  | .fullFlow => 3
  | .trim => 4
  | .closing => 5
  | .held => 6

/-- Section 1.7.7, identification source. -/
def IdSource.code : IdSource → Nat
  | .fromTable => 0
  | .referred => 1

/-- Section 1.7.7, end cause. -/
def EndCause.code : EndCause → Nat
  | .driver => 1
  | .host => 2
  | .idleTimeout => 3
  | .powerInterrupted => 4

/-- Section 1.7.7, outcome. -/
def BatchOutcome.code : BatchOutcome → Nat
  | .complete => 1
  | .stopped => 2
  | .allocation => 3
  | .aborted => 4
  | .interrupted => 5

/-- Section 1.7.7, component status. -/
def ComponentStatus.code : ComponentStatus → Nat
  | .ok => 0
  | .short => 1
  | .faulted => 2

/-- R28: the reason of a referral. -/
def ReferralReason.code : ReferralReason → Nat
  | .mode => 1
  | .filter => 2

/-- Section 1.7.7, authority mode. -/
def authorityModeOf : Nat → Option AuthorityMode
  | 0 => some .localMode
  | 1 => some .host
  | 2 => some .hostFallback
  | _ => none

/-- Section 1.7.7, preset basis. -/
def presetBasisOf : Nat → Option PresetBasis
  | 0 => some .gross
  | 1 => some .standard
  | _ => none

/-- Section 1.7.7, injector class. -/
def injectorClassOf : Nat → Option InjectorClass
  | 0 => some .mandatory
  | 1 => some .optional
  | _ => none

def InjectorClass.code : InjectorClass → Nat
  | .mandatory => 0
  | .optional => 1

/-- Section 1.7.7, injector scheme. -/
def schemeOf : Nat → Option Scheme
  | 0 => some .roundRobin
  | 1 => some .fixed
  | _ => none

def Scheme.code : Scheme → Nat
  | .roundRobin => 0
  | .fixed => 1

/-- A flag field (R6). -/
def flagOf : Nat → Option Bool
  | 0 => some false
  | 1 => some true
  | _ => none

/-- The causes END LOAD takes (section 1.7.7). -/
def endLoadCauseOf : Nat → Option EndCause
  | 1 => some .driver
  | 2 => some .host
  | _ => none

/-- Section 6.5, hold cause. -/
def HoldCause.code : HoldCause → Nat
  | .permissive => 1
  | .coupler => 2
  | .meterFault => 3
  | .overspeed => 4
  | .noFlow => 5
  | .additiveFault => 6

/-- R123, valve command. -/
def Valve.code : Valve → Nat
  | .closed => 0
  | .openStep => 1
  | .hold => 2
  | .closeStep => 3

/-- R140, injector state. -/
def InjectorState.code : InjectorState → Nat
  | .idle => 0
  | .shot _ => 1
  | .faulted => 2
  | .proving _ => 3

/-- R140, shot phase. -/
def ShotPhase.code : ShotPhase → Nat
  | .opened => 1
  | .tail => 2

/-- R167: the way the OPEN phase of a proving shot ended. -/
def ProveEnd.code : ProveEnd → Nat
  | .target => 1
  | .time => 2
  | .stopped => 3

/-- Section 3.1 and R41: remaining litres, 0xFFFFFFFF for UNLIMITED. -/
def Remaining.code : Remaining → Nat
  | .litres n => n
  | .unlimited => 0xFFFFFFFF

end Sys2Proof.Machine
end

