-- ==== Sys2Proof/Machine/Flags.lean ====
section
/-! DEFINITION. Flags and states read as conditions: batch state groups, class sets, the line flags
and the flag bytes of the replies. -/

namespace Sys2Proof.Machine

/-- The flowing states (section 6.1). -/
def ArmState.flowing : ArmState → Bool
  | .starting | .fullFlow | .trim => true
  | _ => false

/-- Beyond ARMED (section 6.1). -/
def ArmState.beyondArmed : ArmState → Bool
  | .idle | .armed => false
  | _ => true

def Arm.flowing (a : Arm) : Bool := a.control.state.flowing

def Arm.beyondArmed (a : Arm) : Bool := a.control.state.beyondArmed

/-- The meter run flag (section 9.1). -/
def Arm.inRun (a : Arm) : Bool := a.run.isSome

/-- A batch is in progress, and it is no meter run (sections 5.8 and 6.1). -/
def Arm.inBatch (a : Arm) : Bool := a.beyondArmed && !a.inRun

/-- Class `c` stands in a set of classes (R6). -/
def inClasses (c : ClassId) (set : BitVec 8) : Bool := set.getLsbD c.val

/-- The flags byte of a line (section 1.7.7). -/
def LineFlags.byte (f : LineFlags) : Nat :=
  f.tempSubstituted.toNat + 2 * f.correctionLimited.toNat + 4 * f.additiveShort.toNat
    + 8 * f.overAllocation.toNat + 16 * f.meterFault.toNat + 32 * f.couplerLost.toNat
    + 64 * f.permissiveHold.toNat + 128 * f.paced.toNat

/-- The flags of an arm so far: the engine's three and the arm's three; ADDITIVE_SHORT and
OVER_ALLOCATION are settled at the batch end alone (R123, R176). -/
def Arm.flagsSoFar (a : Arm) : LineFlags :=
  { tempSubstituted := a.figures.tempSubstituted, correctionLimited := a.figures.correctionLimited,
    additiveShort := false, overAllocation := false, meterFault := a.figures.meterFault,
    couplerLost := a.control.couplerLost, permissiveHold := a.control.permissiveHold,
    paced := a.control.paced }

/-- Whether an input has a candidate waiting out its window (R136). -/
def Debounce.settling (d : Debounce) : Bool := d.candidate.isSome

/-- The bay settling byte (R136). -/
def Monitor.baySettling (m : Monitor) : Nat :=
  m.ground.settling.toNat + 2 * m.overfill.settling.toNat + 4 * m.vapour.settling.toNat
    + 8 * m.estop.settling.toNat

/-- The settling byte of an arm (R136). -/
def Monitor.armSettling (m : Monitor) (n : ArmId) : Nat :=
  (m.stow.get n).settling.toNat + 2 * (m.coupler.get n).settling.toNat

/-- The accepted stow switch of an arm is DEPLOYED (R131, section 7.1). -/
def Monitor.deployed (m : Monitor) (n : ArmId) : Bool := (m.stow.get n).accepted == 1

/-- The accepted coupler code of an arm (R130). -/
def Monitor.couplerCode (m : Monitor) (n : ArmId) : Nat := (m.coupler.get n).accepted

/-- The accepted emergency stop is RELEASED (section 7.1). -/
def Monitor.released (m : Monitor) : Bool := m.estop.accepted == 0

/-- The bay permissive that the accepted inputs, the vapour-required flag and the latch give
(R128). -/
def bayPermissiveOf (m : Monitor) (vapourRequired : Bool) : Bool :=
  m.ground.accepted == 1 && m.overfill.accepted == 1
    && (m.vapour.accepted == 1 || !vapourRequired) && !m.rackStop

/-- An injector is FAULTED. -/
def InjectorState.isFaulted : InjectorState → Bool
  | .faulted => true
  | _ => false

/-- An injector is PROVING. -/
def InjectorState.isProving : InjectorState → Bool
  | .proving _ => true
  | _ => false

/-- An injector is IDLE. -/
def InjectorState.isIdle : InjectorState → Bool
  | .idle => true
  | _ => false

/-- The raw value that the levels of an input's pins give (R124): a grounded coupler contact counts
1, so the coupler code is the complement of the four levels. -/
def rawValue (i : Input) (levels : BitVec 4) : Nat :=
  match i with
  | .ground => (levels.getLsbD 0).toNat
  | .overfill => (levels.getLsbD 0).toNat + 2 * (levels.getLsbD 1).toNat
  | .vapour => (levels.getLsbD 0).toNat
  | .estop => (!levels.getLsbD 0).toNat
  | .stow _ => (!levels.getLsbD 0).toNat
  | .coupler _ => (~~~levels).toNat

/-- The start-up value of an input (R126): each has code 0. -/
def startUpValue (_ : Input) : Nat := 0

end Sys2Proof.Machine
end

