-- ==== Sys2Proof/Machine/Operands.lean ====
section
/-! DEFINITION. The operand forms: the fields of a request body with the length checks of R4, the
records of the console with the parse of R71, the answers, and the texts of the console line. -/

namespace Sys2Proof.Machine

/-! ### Answers (R5) -/

/-- The answer of an owning block: a status, the reason of DENIED, and the fields that follow. -/
structure Answer where
  status : Status
  reason : Option DenyReason
  fields : List Byte
  deriving DecidableEq, Repr

/-- OK with the reply fields of the kind. -/
def Answer.okWith (fields : List Byte) : Answer := { status := .ok, reason := none, fields := fields }

/-- OK alone. -/
def Answer.ok : Answer := .okWith []

/-- A status other than OK and DENIED, alone. -/
def Answer.refused (st : Status) : Answer := { status := st, reason := none, fields := [] }

/-- DENIED with its reason. -/
def Answer.denied (r : DenyReason) : Answer := { status := .denied, reason := some r, fields := [] }

/-- The body of the reply (R5, section 1.7.2). -/
def Answer.body (a : Answer) : List Byte :=
  be 1 a.status.code
    ++ (match a.reason with | some r => be 1 r.code | none => [])
    ++ a.fields

/-- What an owning block does with a request: it takes the state and gives the state after it and the
answer. -/
abbrev Owner := State → State × Answer

/-- The owner refuses: every record stays as it was (R4). -/
def refuse (a : Answer) : Owner := fun s => (s, a)

/-! ### The fields of a body (R4, R6) -/

/-- The numbers that a body holds in fields of the given sizes; none when the body's length is not
the sum of the sizes. -/
def readFields : List Nat → List Byte → Option (List Nat)
  | [], [] => some []
  | [], _ :: _ => none
  | w :: ws, b =>
    if b.length < w then none
    else (readFields ws (b.drop w)).map (beNat (b.take w) :: ·)

/-- A request of a fixed length: BAD LENGTH unless the body fits its fields (R4, step 2). -/
def fixedForm (widths : List Nat) (owner : List Nat → Owner) (body : List Byte) : Owner :=
  match readFields widths body with
  | some vs => owner vs
  | none => refuse (.refused .badLength)

/-- A request of variable length whose count field of `width` bytes stands at `offset` (R4, step 2):
a body too short for the count is BAD LENGTH, a count outside 1 to `most` BAD VALUE, and then a body
whose length differs from what `widths` of the count adds up to BAD LENGTH. -/
def countedForm (offset width most : Nat) (widths : Nat → List Nat) (owner : List Nat → Owner)
    (body : List Byte) : Owner :=
  if body.length < offset + width then refuse (.refused .badLength)
  else
    let n := beNat ((body.drop offset).take width)
    if n < 1 ∨ most < n then refuse (.refused .badValue)
    else fixedForm (widths n) owner body

/-- An optional field: 0 when absent (R6). -/
def optionalField (v : Nat) : Option Nat := if v = 0 then none else some v

/-- The fields that repeat, two at a time. -/
def pairs : List Nat → List (Nat × Nat)
  | a :: b :: rest => (a, b) :: pairs rest
  | _ => []

/-! ### Console records (section 4.8.1, R71) -/

/-- The seven console records with the values of their fields as read. -/
inductive ConsoleRequest where
  | card (card : Nat)
  | veh (vehicle : Nat)
  | plan (compartment recipe arm preset : Nat)
  | go (arm : Nat)
  | halt (arm : Nat)
  | again (arm : Nat)
  | done
  deriving DecidableEq, Repr

/-- The character codes of a text. -/
def ascii (t : String) : List Byte := t.toList.map fun c => BitVec.ofNat 8 c.toNat

/-- A character that a record may hold (R71). -/
def printable (c : Byte) : Bool := 0x20 ≤ c.toNat && c.toNat ≤ 0x7E

/-- The words of a text, cut at every space; a word is empty where two spaces meet. -/
def splitSpaces : List Byte → List (List Byte)
  | [] => [[]]
  | c :: cs =>
    if c = 0x20 then [] :: splitSpaces cs
    else
      match splitSpaces cs with
      | w :: ws => (c :: w) :: ws
      | [] => [[c]]

/-- A decimal digit. -/
def decDigit (c : Byte) : Option Nat :=
  if 0x30 ≤ c.toNat ∧ c.toNat ≤ 0x39 then some (c.toNat - 0x30) else none

/-- A hexadecimal digit: 0 to 9, A to F or a to f. -/
def hexDigit (c : Byte) : Option Nat :=
  if 0x30 ≤ c.toNat ∧ c.toNat ≤ 0x39 then some (c.toNat - 0x30)
  else if 0x41 ≤ c.toNat ∧ c.toNat ≤ 0x46 then some (c.toNat - 0x41 + 10)
  else if 0x61 ≤ c.toNat ∧ c.toNat ≤ 0x66 then some (c.toNat - 0x61 + 10)
  else none

/-- Digits read most significant first. -/
def readDigits (digit : Byte → Option Nat) (base : Nat) : Nat → List Byte → Option Nat
  | acc, [] => some acc
  | acc, c :: cs =>
    match digit c with
    | some d => readDigits digit base (acc * base + d) cs
    | none => none

/-- A decimal field: one to eight digits (R71). -/
def decimalField (w : List Byte) : Option Nat :=
  if w.length < 1 ∨ 8 < w.length then none else readDigits decDigit 10 0 w

/-- The hexadecimal field of CARD: exactly ten digits (R71). -/
def cardField (w : List Byte) : Option Nat :=
  if w.length ≠ 10 then none else readDigits hexDigit 16 0 w

/-- The decimal fields of a record. -/
def decimalFields : List (List Byte) → Option (List Nat)
  | [] => some []
  | w :: ws =>
    match decimalField w, decimalFields ws with
    | some n, some ns => some (n :: ns)
    | _, _ => none

/-- The keyword and the fields of a record as a request; none when it is malformed (R71). -/
def parseWords (keyword : List Byte) (fields : List (List Byte)) : Option ConsoleRequest :=
  if keyword = ascii "CARD" then
    match fields with
    | [w] => (cardField w).map .card
    | _ => none
  else
    match decimalFields fields with
    | none => none
    | some vs =>
      if keyword = ascii "VEH" then (match vs with | [v] => some (.veh v) | _ => none)
      else if keyword = ascii "PLAN" then
        (match vs with | [c, r, a, v] => some (.plan c r a v) | _ => none)
      else if keyword = ascii "GO" then (match vs with | [a] => some (.go a) | _ => none)
      else if keyword = ascii "HALT" then (match vs with | [a] => some (.halt a) | _ => none)
      else if keyword = ascii "AGAIN" then (match vs with | [a] => some (.again a) | _ => none)
      else if keyword = ascii "DONE" then (match vs with | [] => some .done | _ => none)
      else none

/-- The request that a console record spells; none when it is malformed (R71). -/
def parseRecord (record : List Byte) : Option ConsoleRequest :=
  if record.all printable then
    match splitSpaces record with
    | keyword :: fields => parseWords keyword (fields.filter (· ≠ []))
    | [] => none
  else none

/-! ### Texts of the console line (R72 to R74) -/

/-- The decimal digits of a number. -/
def decimalDigits : Nat → Nat → List Byte
  | 0, _ => []
  | fuel + 1, n =>
    (if n < 10 then [] else decimalDigits fuel (n / 10)) ++ [BitVec.ofNat 8 (0x30 + n % 10)]

/-- A number of at most ten digits as shown on the display. -/
def decimal (n : Nat) : List Byte := decimalDigits 10 n

/-- The name of a deny reason (section 1.2.2). -/
def DenyReason.name : DenyReason → String
  | .cardUnknown => "CARD_UNKNOWN"
  | .cardSuspended => "CARD_SUSPENDED"
  | .cardExpired => "CARD_EXPIRED"
  | .dailyLimit => "DAILY_LIMIT"
  | .referralDenied => "REFERRAL_DENIED"
  | .referralNoAnswer => "REFERRAL_NO_ANSWER"
  | .noHost => "NO_HOST"
  | .bayBusy => "BAY_BUSY"
  | .noteStoreFull => "NOTE_STORE_FULL"
  | .vehicleUnknown => "VEHICLE_UNKNOWN"
  | .vehicleExpired => "VEHICLE_EXPIRED"
  | .vehicleNotBound => "VEHICLE_NOT_BOUND"
  | .classNotAllowed => "CLASS_NOT_ALLOWED"
  | .compartmentClass => "COMPARTMENT_CLASS"
  | .compartmentFull => "COMPARTMENT_FULL"
  | .noAllocation => "NO_ALLOCATION"
  | .accountHold => "ACCOUNT_HOLD"
  | .recipeUnknown => "RECIPE_UNKNOWN"
  | .recipeArmMismatch => "RECIPE_ARM_MISMATCH"
  | .injectorUnavailable => "INJECTOR_UNAVAILABLE"
  | .armStowed => "ARM_STOWED"
  | .wrongCompartment => "WRONG_COMPARTMENT"
  | .compartmentBusy => "COMPARTMENT_BUSY"
  | .permissive => "PERMISSIVE"
  | .notConfigured => "NOT_CONFIGURED"

/-- The name of a status with its space written as an underscore (R72). -/
def Status.name : Status → String
  | .ok => "OK"
  | .unknownKind => "UNKNOWN_KIND"
  | .badLength => "BAD_LENGTH"
  | .badValue => "BAD_VALUE"
  | .wrongState => "WRONG_STATE"
  | .notFound => "NOT_FOUND"
  | .full => "FULL"
  | .inUse => "IN_USE"
  | .tooLate => "TOO_LATE"
  | .notOldest => "NOT_OLDEST"
  | .rackStopped => "RACK_STOPPED"
  | .denied => "DENIED"

/-- The word of a NO record. -/
def NoWord.text : NoWord → List Byte
  | .reason r => ascii r.name
  | .status s => ascii s.name
  | .form => ascii "FORM"

/-- The text of line 1 (R73). -/
def Line1.text : Line1 → List Byte
  | .blank => []
  | .presentCard => ascii "PRESENT CARD"
  | .waitForHost => ascii "WAIT FOR HOST"
  | .enterVehicle => ascii "ENTER VEHICLE"
  | .load n => ascii "LOAD " ++ decimal n
  | .ending n => ascii "ENDING " ++ decimal n

/-- The text of line 2 (R72). -/
def Line2.text : Line2 → List Byte
  | .blank => []
  | .granted n => ascii "GRANTED " ++ decimal n ++ ascii " L"
  | .refusal w => w.text

/-- The word of a prompt (R74). -/
def Prompt.text : Prompt → List Byte
  | .card => ascii "CARD"
  | .vehicle => ascii "VEH"
  | .plan => ascii "PLAN"

/-- The text after a SAY number: none when the line is cleared (R74). -/
def sayText (t : List Byte) : List Byte := if t = [] then [] else ascii " " ++ t

/-- A record as sent on the console line, with its carriage return (section 4.8, R72, R74). -/
def ConsoleRecord.bytes : ConsoleRecord → List Byte
  | .reply .ok => ascii "OK" ++ [0x0D]
  | .reply (.no w) => ascii "NO " ++ w.text ++ [0x0D]
  | .say1 t => ascii "SAY 1" ++ sayText t.text ++ [0x0D]
  | .say2 t => ascii "SAY 2" ++ sayText t.text ++ [0x0D]
  | .ask p => ascii "ASK " ++ p.text ++ [0x0D]

end Sys2Proof.Machine
end

