-- ==== Sys2Proof/Machine/Link.lean ====
section
/-! DEFINITION. The rack link: which frame is valid, what a valid frame does before its request is
classified, the reply, and the change of the load state that the display follows. -/

namespace Sys2Proof.Machine

/-- What a step answers. -/
abbrev Result := Host.Outcome State Fault Refusal

/-- The straps give an address on the link: 1 to 247 (R3). -/
def hasAddress (station : Byte) : Bool := 1 ≤ station.toNat && station.toNat ≤ 247

/-- The line speed in baud that the straps BAUD1 and BAUD0, bits 1 and 0 of `baud`, give (R3). -/
def lineSpeedOf (baud : BitVec 2) : Nat :=
  match baud with
  | 0 => 19200
  | 1 => 38400
  | 2 => 57600
  | 3 => 115200

/-- The line speed, held from the start-up that read the straps (R3). -/
def State.lineSpeed (s : State) : Nat := lineSpeedOf s.port.baud

/-- The receiver takes bytes: start-up is complete and LDIR is released (R1, R3). -/
def State.listening (s : State) : Bool := s.running && s.port.reply.isNone

/-- The collected frame is valid: the receiver takes bytes, the address is the part's, the body is
not above 240 bytes and the check is the one computed (R1, R2, R3). -/
def validFrame (s : State) (kind : Byte) (f : Frame) : Bool :=
  s.listening && hasAddress s.port.station && f.address == s.port.station
    && f.body.length ≤ 240 && f.check == frameCheck f.address f.tag kind f.body

/-- The receiver returns to HUNTING and nothing else changes (R1). -/
def receiverHunts (s : State) : State :=
  if s.running then { s with port.receiver := .hunting } else s

/-- The silence timer from zero under a limit in seconds; a limit of 0 stops it (R12, R14). -/
def silenceTimerFor (limit : Nat) : Timer :=
  if limit = 0 then .stopped else .start (limit * 1000)

/-- A valid frame restarts the silence timer, and raises a LOST link with LINK RESTORED (R12). -/
def linkUp (s : State) : State :=
  let t := { s with port.silence := silenceTimerFor s.port.silenceLimit }
  match s.port.link with
  | .up => t
  | .lost => post .linkRestored 0 0 0 { t with port.link := .up }

/-- What a valid frame does before its request is classified: the receiver returns to HUNTING and the
link is supervised (R1, R12). -/
def frameTaken (s : State) : State := linkUp { s with port.receiver := .hunting }

/-- The reply frame to a request (R5): the request's tag, its kind plus 0x80, the part's address and
a check over its own bytes. -/
def replyTo (station tag kind : Byte) (a : Answer) : Reply :=
  let k : Byte := BitVec.ofNat 8 (fit 8 (kind.toNat + 0x80))
  { address := station, tag := tag, kind := k, body := a.body,
    check := frameCheck station tag k a.body }

/-- The part sends its reply: LDIR is asserted (R3, R5). -/
def sendReply (kind tag : Byte) (a : Answer) (s : State) : State :=
  { s with port.reply := some (replyTo s.port.station tag kind a) }

/-- A frame of one kind: valid, it restarts the silence timer, goes to its owner and is answered; not
valid, it is discarded without a reply (R1, R4, R5, R12). -/
def takeRequest (kind : Byte) (owner : List Byte → Owner) (f : Frame) (s : State) : Result :=
  if validFrame s kind f then
    let r := owner f.body (frameTaken s)
    .next (sendReply kind f.tag r.2 r.1)
  else .next (receiverHunts s)

/-- The bytes of a reply on the line (section 1.7.1). -/
def Reply.bytes (r : Reply) : List Byte :=
  [0xA5, r.address, r.tag, r.kind, BitVec.ofNat 8 r.body.length] ++ r.body ++ be 2 r.check.toNat

/-! ### The display (R72, R73) -/

/-- Line 1 and the prompt that a load state calls for (R73). -/
def lineAndPrompt (l : LoadState) (note : Nat) : Line1 × Option Prompt :=
  match l with
  | .noLoad => (.presentCard, some .card)
  | .referred => (.waitForHost, none)
  | .vehicleWait => (.enterVehicle, some .vehicle)
  | .opened => (.load note, some .plan)
  | .ending => (.ending note, none)

/-- The display takes a load state just entered; entry to OPEN clears line 2 (R73). -/
def Console.show (c : Console) (l : LoadState) (note : Nat) : Console :=
  { c with
    line1 := (lineAndPrompt l note).1
    prompt := (lineAndPrompt l note).2
    line2 := if l = .opened then .blank else c.line2 }

/-- The note number of the open load, 0 when there is none. -/
def State.loadNote (s : State) : Nat := (s.load.record.map (·.note)).getD 0

/-- The load state becomes `l`; on a change the display follows (R50, R73). -/
def enterLoad (l : LoadState) (s : State) : State :=
  if s.load.state = l then s
  else { s with load.state := l, console := s.console.show l s.loadNote }

/-- Line 2 of the display takes a text (R72). -/
def setLine2 (t : Line2) (s : State) : State := { s with console.line2 := t }

end Sys2Proof.Machine
end

