-- ==== Sys2Proof/Machine/Account.lean ====
section
/-! DEFINITION. The Account Unit (chapter 3): reservations, the allocation check, release and charge,
and its four requests. -/

namespace Sys2Proof.Machine

/-- The account entry with a number. -/
def State.account (s : State) (number : Nat) : Option Account :=
  s.accounts.find? (·.number == number)

/-- Change one class of one account; an account without an entry leaves the table as it is. -/
def State.updAllocation (s : State) (number : Nat) (c : ClassId) (f : Allocation → Allocation) :
    State :=
  { s with
    accounts := s.accounts.map fun a =>
      if a.number = number then { a with classes := a.classes.set c (f (a.classes.get c)) } else a }

/-- An account is in use while an OPEN or ENDING load names it (R37). -/
def State.accountInUse (s : State) (number : Nat) : Bool :=
  (s.load.state = .opened || s.load.state = .ending)
    && (s.load.record.map (·.account) == some number)

/-- The reservation of a preset (R42). -/
def reservationOf (basis : PresetBasis) (p : Nat) : Nat :=
  match basis with
  | .standard => p
  | .gross => p + ceilDiv p 50

/-- The available litres of a class; none for without limit (R43, case 3). -/
def Allocation.available (a : Allocation) : Option Nat :=
  match a.remaining with
  | .litres n => some (n - a.reserved)
  | .unlimited => none

/-- The largest whole preset at or below the request whose reservation does not exceed the available
litres, or 0 (R43, case 3). For GROSS `p + ceil(p / 50) ≤ n` is `51 p ≤ 50 n`. -/
def allocationBound (basis : PresetBasis) (request : Nat) (available : Option Nat) : Nat :=
  match available with
  | none => request
  | some n =>
    match basis with
    | .standard => min request n
    | .gross => min request (50 * n / 51)

/-- The smaller of the request and the compartment room, or 0 when the room is below 0 (R43, case
3). -/
def roomBound (request : Nat) (room : Int) : Nat := min request room.toNat

/-- The allocation check: a granted preset or a deny reason (R43, R49). -/
def allocationCheck (account : Option Account) (c : ClassId) (basis : PresetBasis) (request : Nat)
    (room : Int) : Except DenyReason Nat :=
  match account with
  | none => .error .noAllocation
  | some a =>
    if a.hold then .error .accountHold
    else
      let ab := allocationBound basis request (a.classes.get c).available
      let rb := roomBound request room
      if min ab rb < 100 then
        if rb ≤ ab then .error .compartmentFull else .error .noAllocation
      else .ok (min ab rb)

/-- The reservation is added to the reserved total of the class (R44). -/
def reserve (number : Nat) (c : ClassId) (litres : Nat) (s : State) : State :=
  s.updAllocation number c fun a => { a with reserved := a.reserved + litres }

/-- A cancelled entry's reservation is subtracted from the reserved total (R45). -/
def release (number : Nat) (c : ClassId) (litres : Nat) (s : State) : State :=
  s.updAllocation number c fun a => { a with reserved := a.reserved - litres }

/-- The charge for `used` standard litres against a reservation of `r` litres, where the class's
reserved total `reserved` still includes `r` (R46); an UNLIMITED class is charged what was used
(R47). -/
def chargeOf (a : Allocation) (r used : Nat) : Nat :=
  match a.remaining with
  | .unlimited => used
  | .litres n => min used r + min (used - r) (n - a.reserved)

/-- The class after the charge (R46, R47). -/
def Allocation.charged (a : Allocation) (r used : Nat) : Allocation :=
  { remaining :=
      match a.remaining with
      | .unlimited => .unlimited
      | .litres n => .litres (n - chargeOf a r used)
    reserved := a.reserved - r }

/-- The over-allocation litres that a charge leaves (R46, R47); 0 for an account without an entry. -/
def overAllocationOf (account : Option Account) (c : ClassId) (r used : Nat) : Nat :=
  match account with
  | some a => used - chargeOf (a.classes.get c) r used
  | none => 0

/-- Charge a batch end to the account (R46). -/
def charge (number : Nat) (c : ClassId) (r used : Nat) (s : State) : State :=
  s.updAllocation number c (·.charged r used)

/-! ### Requests (section 3.2) -/

/-- A new account: nothing remaining, nothing reserved (R39). -/
def newAccount (number : Nat) (hold : Bool) : Account :=
  { number := number, hold := hold,
    classes := .replicate { remaining := .litres 0, reserved := 0 } }

/-- PUT ACCOUNT (R39). -/
def putAccount (number hold : Nat) : Owner := fun s =>
  match flagOf hold with
  | none => (s, .refused .badValue)
  | some h =>
    if number = 0 then (s, .refused .badValue)
    else if (s.account number).isSome then
      ({ s with
          accounts := s.accounts.map fun a =>
            if a.number = number then { a with hold := h } else a }, .ok)
    else if s.accounts.length < Config.accountTableSize then
      ({ s with accounts := s.accounts ++ [newAccount number h] }, .ok)
    else (s, .refused .full)

/-- A class number: 0 to 7. -/
def classOf (n : Nat) : Option ClassId := if h : n < 8 then some ⟨n, h⟩ else none

/-- The remaining litres that SET ALLOCATION takes: a number below the reserved total is clamped up
(R40). -/
def allocationTaken (value reserved : Nat) : Remaining :=
  if value = 0xFFFFFFFF then .unlimited else .litres (max value reserved)

/-- SET ALLOCATION (R40). -/
def setAllocation (number cls value : Nat) : Owner := fun s =>
  match classOf cls with
  | none => (s, .refused .badValue)
  | some c =>
    if number = 0 ∨ (99999999 < value ∧ value ≠ 0xFFFFFFFF) then (s, .refused .badValue)
    else
      match s.account number with
      | none => (s, .refused .notFound)
      | some a =>
        let taken := allocationTaken value (a.classes.get c).reserved
        (s.updAllocation number c (fun x => { x with remaining := taken }),
          .okWith (field 4 taken.code))

/-- The fields of GET ACCOUNT's reply (R41). -/
def accountFields (a : Account) : List Byte :=
  flagField a.hold
    ++ (a.classes.toList.map fun c => field 4 c.remaining.code ++ field 4 c.reserved).flatten

/-- GET ACCOUNT (R41). -/
def getAccount (number : Nat) : Owner := fun s =>
  if number = 0 then (s, .refused .badValue)
  else
    match s.account number with
    | none => (s, .refused .notFound)
    | some a => (s, .okWith (accountFields a))

/-- DROP ACCOUNT (R41). -/
def dropAccount (number : Nat) : Owner := fun s =>
  if number = 0 then (s, .refused .badValue)
  else
    match s.account number with
    | none => (s, .refused .notFound)
    | some a =>
      if s.accountInUse number || a.classes.toList.any (fun c => 0 < c.reserved) then
        (s, .refused .inUse)
      else ({ s with accounts := s.accounts.filter (·.number ≠ number) }, .ok)

def execPutAccount (f : Frame) (s : State) : Result :=
  takeRequest 0x20 (fixedForm [4, 1] fun
    | [account, hold] => putAccount account hold
    | _ => refuse (.refused .badLength)) f s

def execSetAllocation (f : Frame) (s : State) : Result :=
  takeRequest 0x21 (fixedForm [4, 1, 4] fun
    | [account, cls, value] => setAllocation account cls value
    | _ => refuse (.refused .badLength)) f s

def execGetAccount (f : Frame) (s : State) : Result :=
  takeRequest 0x22 (fixedForm [4] fun
    | [account] => getAccount account
    | _ => refuse (.refused .badLength)) f s

def execDropAccount (f : Frame) (s : State) : Result :=
  takeRequest 0x23 (fixedForm [4] fun
    | [account] => dropAccount account
    | _ => refuse (.refused .badLength)) f s

end Sys2Proof.Machine
end

