-- ==== Sys2Proof/Machine/Additive.lean ====
section
/-! DEFINITION. The Additive Controller (chapter 8): component records, the arbiter, shots, faults,
creep and closing, with the entry of an arm to HELD that an injector fault asks for. -/

namespace Sys2Proof.Machine

/-! ### Lookups -/

/-- The recipe with a code. -/
def State.recipe (s : State) (code : Nat) : Option Recipe := s.recipes.find? (·.code == code)

/-- The base product of a recipe. -/
def State.recipeProduct (s : State) (code : Nat) : Option Product :=
  (s.recipe code).bind fun r => s.products.get r.product

/-- The plan entries of the open load. -/
def State.plan (s : State) : List PlanEntry := ((s.load.record.map (·.plan)).getD [])

/-- The arms of an injector's plumbing set. -/
def InjectorConfig.reaches (c : InjectorConfig) (n : ArmId) : Bool :=
  c.firstArm == n || c.secondArm == some n

/-- The batch of an arm uses an injector (R138). -/
def Arm.uses (a : Arm) (i : InjId) : Bool := a.inBatch && a.components.any (·.injector == i)

/-- The cycle volume of a component (R141, R143). -/
def cycleOf (shotMl dose : Nat) : Nat := shotMl * 1000000 / dose

/-! ### An arm enters HELD (R115) -/

/-- The arm's records on entry to HELD (R93, R115). -/
def Arm.holdFor (cause : HoldCause) (a : Arm) : Arm :=
  { a with
    control.state := .held, control.holdCause := some cause, control.valve := .closed,
    control.pump := false, control.flowTarget := 0, control.noFlowTimer := .stopped,
    channel.overspeedCount := 0 }

/-- An arm in a flowing state enters HELD for a cause and BATCH HELD is posted; an arm in any other
state is left as it is (R115). -/
def enterHeld (cause : HoldCause) (n : ArmId) (s : State) : State :=
  if (s.arm n).flowing then
    post .batchHeld (armNumber n) cause.code (s.arm n).figures.gross
      (s.updArm n (Arm.holdFor cause))
  else s

/-! ### Component records -/

/-- Change the component records of an arm that stand on an injector. -/
def Arm.updComponents (i : InjId) (f : Component → Component) (a : Arm) : Arm :=
  { a with components := a.components.map fun c => if c.injector = i then f c else c }

/-- A component record at START ARM (R143). An injector without a configuration cannot stand in a
recipe (R141). -/
def newComponent (s : State) (c : RecipeComponent) : Component :=
  let j := s.injector c.injector
  { injector := c.injector
    additiveCode := (j.config.map (·.additiveCode)).getD 0
    dose := c.dose
    tolerance := (j.config.map (·.tolerance)).getD 0
    cycle := cycleOf ((j.config.map (·.shotMl)).getD 0) c.dose
    accumulated := 0, owed := 0, shots := 0, injected := 0
    status := if j.state.isFaulted then .faulted else .ok }

/-- The component records of a batch started on a recipe, in the recipe's order (R143). -/
def newComponents (s : State) (recipe : Nat) : List Component :=
  match s.recipe recipe with
  | some r => r.components.map (newComponent s)
  | none => []

/-- A sample's volume into a component (R144): each whole cycle earns an owed shot, up to 255, or is
lost while the injector is FAULTED or PROVING. -/
def Component.count (delta : Nat) (lost : Bool) (c : Component) : Component :=
  let v := c.accumulated + delta
  { c with
    accumulated := v % c.cycle
    owed := if lost then c.owed else min 255 (c.owed + v / c.cycle) }

/-- The injector earns no owed shot: FAULTED or PROVING (R144, R156). -/
def State.earnsNone (s : State) (i : InjId) : Bool :=
  (s.injector i).state.isFaulted || (s.injector i).state.isProving

/-- Cycle counting of an arm's batch (R144). -/
def countCycles (delta : Nat) (n : ArmId) (s : State) : State :=
  s.updArm n fun a =>
    { a with components := a.components.map fun c => c.count delta (s.earnsNone c.injector) }

/-! ### The arbiter (R145, R146) -/

/-- An arm waits on an injector (R145). -/
def waits (s : State) (i : InjId) (n : ArmId) : Bool :=
  let a := s.arm n
  (match (s.injector i).config with | some c => c.reaches n | none => false)
    && (a.flowing || a.control.state == .closing) && a.inBatch
    && a.components.any (fun c => c.injector == i && 1 ≤ c.owed) && s.monitor.permissiveOk

/-- The arm chosen when both arms of a set wait (R146). -/
def chooseBoth (c : InjectorConfig) (second : ArmId) (lastServed : Option ArmId) : ArmId :=
  let lower := if second < c.firstArm then second else c.firstArm
  match c.scheme, lastServed with
  | .fixed, _ => lower
  | .roundRobin, none => lower
  | .roundRobin, some l => if l = c.firstArm then second else c.firstArm

/-- The arm that the arbiter chooses, if any arm waits (R146). -/
def chooseArm (s : State) (i : InjId) (c : InjectorConfig) : Option ArmId :=
  let w1 := waits s i c.firstArm
  match c.secondArm with
  | none => if w1 then some c.firstArm else none
  | some b =>
    if w1 && waits s i b then some (chooseBoth c b (s.injector i).lastServed)
    else if w1 then some c.firstArm
    else if waits s i b then some b
    else none

/-- The target pulses of a shot (R146). -/
def targetPulses (c : InjectorConfig) : Nat := ceilDiv (c.shotMl * c.meterK) 1000

/-- A shot starts for a chosen arm (R146): one owed shot is spent, the diverter moves and the
solenoid opens. -/
def startShot (i : InjId) (c : InjectorConfig) (n : ArmId) (s : State) : State :=
  (s.updArm n (Arm.updComponents i fun k => { k with owed := k.owed - 1 })).setInjector i
    { s.injector i with
      diverter := n, lastServed := some n
      state := .shot
        { arm := n, phase := .opened, target := targetPulses c, pulses := 0,
          timer := .start c.shotTimeLimit } }

/-- An injector is offered work (R145): IDLE, with an arm that waits, it starts a shot. -/
def offer (i : InjId) (s : State) : State :=
  match (s.injector i).config, (s.injector i).state with
  | some c, .idle =>
    match chooseArm s i c with
    | some n => startShot i c n s
    | none => s
  | _, _ => s

/-- Every injector is offered work. -/
def offerAll (s : State) : State := forInjectors offer s

/-! ### Measuring and crediting (R148, R150) -/

/-- The millilitres that pulses measure (R148). -/
def measuredMl (c : InjectorConfig) (pulses : Nat) : Nat := pulses * 1000 / c.meterK

/-- A shot's volume into the component of the served arm's batch (R148). -/
def creditShot (i : InjId) (n : ArmId) (ml : Nat) (s : State) : State :=
  s.updArm n (Arm.updComponents i fun k =>
    { k with injected := fit 32 (k.injected + ml), shots := k.shots + 1 })

/-- A shot is GOOD (R148). -/
def shotGood (c : InjectorConfig) (pulses : Nat) : Bool :=
  pulses ≠ 0 && c.shotMl * (100 - c.tolerance) ≤ measuredMl c pulses * 100

/-- What a fault of a MANDATORY injector does to a batch (R151). -/
def mandatoryFault (i : InjId) (n : ArmId) (s : State) : State :=
  if (s.arm n).uses i then
    enterHeld .additiveFault n
      (s.updArm n fun a =>
        a.updComponents i fun k =>
          { k with status := .faulted, owed := if a.control.state = .closing then 0 else k.owed })
  else s

/-- What a fault of an OPTIONAL injector does to a batch (R152). -/
def optionalFault (i : InjId) (n : ArmId) (s : State) : State :=
  if (s.arm n).uses i then
    s.updArm n (Arm.updComponents i fun k => { k with status := .faulted, owed := 0 })
  else s

/-- An injector faults (R151, R152): ADDITIVE FAULT names the arm last served and the last
measure. -/
def faultInjector (i : InjId) (c : InjectorConfig) (n : ArmId) (ml : Nat) (s : State) : State :=
  let s := post .additiveFault (armNumber n) (injectorNumber i * 256 + c.injectorClass.code)
    (fit 32 ml) (s.setInjector i { s.injector i with state := .faulted })
  match c.injectorClass with
  | .mandatory => forArms (mandatoryFault i) s
  | .optional => forArms (optionalFault i) s

/-- The tail of a shot ends: it is measured, judged and credited, and the injector faults or becomes
IDLE and is offered work (R148). -/
def endShot (i : InjId) (c : InjectorConfig) (r : Shot) (s : State) : State :=
  let ml := measuredMl c r.pulses
  let bad := if shotGood c r.pulses then 0 else (s.injector i).badCount + 1
  let s := creditShot i r.arm ml (s.setInjector i { s.injector i with badCount := bad })
  if c.faultLimit ≤ bad then faultInjector i c r.arm ml s
  else offer i (s.setInjector i { s.injector i with state := .idle })

/-- The OPEN phase of a shot ends and the tail starts: 300 ms (R148). -/
def Shot.toTail (r : Shot) : Shot := { r with phase := .tail, timer := .start 300 }

/-! ### Proving shots (R167) -/

/-- The OPEN phase of a proving shot ends and the tail starts (R167). -/
def ProveShot.toTail (e : ProveEnd) (r : ProveShot) : ProveShot :=
  { r with phase := .tail, timer := .start 300, ended := some e }

/-- A proving shot ends: it is measured and PROVE SHOT DONE is posted with its mark (R167). -/
def endProveShot (i : InjId) (c : InjectorConfig) (p : ProvingRecord) (r : ProveShot)
    (mark : ProveEnd) (s : State) : State :=
  post .proveShotDone 0 (injectorNumber i * 256 + mark.code) (fit 32 (measuredMl c r.pulses))
    (s.setInjector i
      { s.injector i with
        state := .proving { p with shots := min 65535 (p.shots + 1), shot := none } })

/-! ### Rack stop and closing -/

/-- A rack stop at an injector: a shot for an arm beyond ARMED ends at once, credited and not judged
(R150); a proving shot ends at once with the STOPPED mark (R167). -/
def rackStopInjector (i : InjId) (s : State) : State :=
  match (s.injector i).config, (s.injector i).state with
  | some c, .shot r =>
    if (s.arm r.arm).beyondArmed then
      offer i ((creditShot i r.arm (measuredMl c r.pulses) s).setInjector i
        { s.injector i with state := .idle })
    else s
  | some c, .proving p =>
    match p.shot with
    | some r => endProveShot i c p r .stopped s
    | none => s
  | _, _ => s

/-- The trailing decision for a component (R156). -/
def Component.trail (lost : Bool) (c : Component) : Component :=
  if c.cycle ≤ c.accumulated * 2 then
    { c with accumulated := 0, owed := if lost then c.owed else min 255 (c.owed + 1) }
  else c

/-- Owed shots are discarded (R155). -/
def Component.discard (c : Component) : Component := { c with owed := 0 }

/-- The batch of an arm enters CLOSING (R155): the trailing decision for COMPLETE and ALLOCATION, owed
shots discarded for the other outcomes, and the trailing timer of 30 s for every outcome. A meter
run has no component records (R162). -/
def additivesClosing (outcome : BatchOutcome) (n : ArmId) (s : State) : State :=
  if (s.arm n).inRun then s
  else
    match outcome with
    | .complete | .allocation =>
      offerAll (s.updArm n fun a =>
        { a with
          components := a.components.map fun c => c.trail (s.earnsNone c.injector)
          trailingTimer := .start 30000 })
    | _ =>
      s.updArm n fun a =>
        { a with components := a.components.map Component.discard, trailingTimer := .start 30000 }

/-- The Additive Controller holds a shot in flight or an owed shot for the batch of an arm (R158). -/
def additivesPending (s : State) (n : ArmId) : Bool :=
  !(s.arm n).inRun
    && (injIds.any (fun i =>
          match (s.injector i).state with | .shot r => r.arm == n | _ => false)
        || (s.arm n).components.any (fun c => 0 < c.owed))

/-! ### Line figures (R159) -/

/-- The additive entry of a component for a line of `gross` mL (R159, R177). -/
def Component.entry (gross : Nat) (c : Component) : AdditiveEntry :=
  { code := c.additiveCode, injector := c.injector, target := gross * c.dose / 1000000,
    injected := c.injected, shots := c.shots, status := c.status }

/-- A component that sets ADDITIVE_SHORT (R159). -/
def Component.fellShort (gross : Nat) (c : Component) : Bool :=
  c.injected * 100 < gross * c.dose / 1000000 * (100 - c.tolerance) || c.status ≠ .ok

end Sys2Proof.Machine
end

