-- ==== Sys2Proof/Machine/Load.lean ====
section
/-! DEFINITION. The end of a batch and of a load: entry to CLOSING and return to IDLE (chapter 6),
cancellation, lines, sealing and END LOAD (chapter 4), and the identification timer's states. -/

namespace Sys2Proof.Machine

/-! ### Arms: CLOSING and IDLE -/

/-- The arm's records on entry to CLOSING (R93, R120). -/
def Arm.closeFor (outcome : BatchOutcome) (a : Arm) : Arm :=
  { a with
    control.state := .closing, control.outcome := some outcome, control.holdCause := none,
    control.closeGross := a.figures.gross, control.valve := .closed, control.pump := false,
    control.flowTarget := 0, control.noFlowTimer := .stopped, control.settle := 0,
    control.closingTimer := .start 60000, channel.overspeedCount := 0 }

/-- An arm enters CLOSING with an outcome, and the Additive Controller takes it (R120, R155). -/
def enterClosing (outcome : BatchOutcome) (n : ArmId) (s : State) : State :=
  additivesClosing outcome n (s.updArm n (Arm.closeFor outcome))

/-- STOP handed to an arm: a flowing or HELD arm enters CLOSING with outcome STOPPED (R65, R116). -/
def stopArmNow (n : ArmId) (s : State) : State :=
  if (s.arm n).flowing || (s.arm n).control.state = .held then enterClosing .stopped n s else s

/-- The arm returns to IDLE: its binding, outcome, hold cause and run record become absent, its
timers stop and its unbatched-since-idle figure becomes 0 (R93, R99, R103, R121, R163). -/
def Arm.toIdle (a : Arm) : Arm :=
  { a with
    control.state := .idle, control.binding := none, control.outcome := none,
    control.holdCause := none, control.valve := .closed, control.pump := false,
    control.flowTarget := 0, control.closingTimer := .stopped, control.noFlowTimer := .stopped,
    channel.overspeedCount := 0, channel.unbatched := 0, run := none, trailingTimer := .stopped }

/-! ### The plan -/

/-- The plan entry of an arm. -/
def State.entryOf (s : State) (n : ArmId) : Option PlanEntry := s.plan.find? (·.arm == n)

/-- The open load's plan is empty. -/
def State.planEmpty (s : State) : Bool := s.plan.isEmpty

/-- Change the open load record. -/
def State.updRecord (s : State) (f : OpenLoad → OpenLoad) : State :=
  { s with load.record := s.load.record.map f }

/-- The entry of an arm leaves the plan; the others keep their order (R55). -/
def OpenLoad.withoutArm (n : ArmId) (r : OpenLoad) : OpenLoad :=
  { r with plan := r.plan.filter (·.arm ≠ n) }

/-- The class of a recipe's base product (R38). -/
def State.recipeClass (s : State) (recipe : Nat) : Option ClassId :=
  (s.recipeProduct recipe).map (·.productClass)

/-- Release a plan entry's reservation (R45). -/
def releaseEntry (e : PlanEntry) (s : State) : State :=
  match s.load.record, s.recipeClass e.recipe with
  | some r, some c => release r.account c e.reservation s
  | _, _ => s

/-- Cancel the ARMED entry of an arm: the reservation is released, the entry leaves the plan and the
arm returns to IDLE (R45, R55, R103). -/
def cancelArmed (n : ArmId) (s : State) : State :=
  match s.entryOf n with
  | some e =>
    if e.state = .armed then
      ((releaseEntry e s).updRecord (OpenLoad.withoutArm n)).updArm n Arm.toIdle
    else s
  | none => s

/-- The idle timer starts from zero with the timeout in force (R62). -/
def startIdleTimer (s : State) : State :=
  { s with load.idleTimer := .start (s.load.idleTimeout * 60000) }

/-- The idle timer is set to zero and stands (R60, R62). -/
def stopIdleTimer (s : State) : State := { s with load.idleTimer := .stopped }

/-- A plan that has become empty in OPEN starts the idle timer (R61, R62, R67). -/
def planMayHaveEmptied (s : State) : State :=
  if s.load.state = .opened && s.planEmpty then startIdleTimer s else s

/-! ### Sealing (R68, R172) -/

/-- The note of an open load record (R68, R173). -/
def noteOf (r : OpenLoad) (cause : EndCause) (closed : BitVec 32) : Note :=
  { number := r.note, opened := r.opened, closed := closed, card := r.card, vehicle := r.vehicle,
    account := r.account, source := r.source, endCause := cause, lines := r.lines }

/-- The note joins the store, the open load record is discarded and the load state becomes NO_LOAD
with line 2 cleared (R68, R73, R172). -/
def storeNote (r : OpenLoad) (cause : EndCause) (s : State) : State :=
  let s := { s with
    store.notes := s.store.notes ++ [noteOf r cause s.port.clock]
    load.record := none, load.idleTimer := .stopped }
  setLine2 .blank (enterLoad .noLoad s)

/-- Seal the load: the note is stored and LOAD SEALED is posted (R68). -/
def sealLoad (s : State) : State :=
  match s.load.record with
  | some r =>
    match r.endCause with
    | some cause => post .loadSealed 0 cause.code r.note (storeNote r cause s)
    | none => s
  | none => s

/-- END LOAD in OPEN (R65), and the idle timer's expiry (R66): the cause is recorded, the idle timer
stops, the arms of the plan are cancelled or stopped in ascending number, and a plan then empty seals
the load at once. -/
def endOpenLoad (cause : EndCause) (s : State) : State :=
  let s := stopIdleTimer (s.updRecord fun r => { r with endCause := some cause })
  let s := forArms (fun n s =>
    match s.entryOf n with
    | some e => if e.state = .armed then cancelArmed n s else stopArmNow n s
    | none => s) s
  let s := enterLoad .ending s
  if s.planEmpty then sealLoad s else s

/-! ### Lines (R61, R174) -/

/-- The line of a batch, from its plan entry, the product of its recipe, the arm's figures and the
over-allocation litres (R174 to R177). -/
def lineOf (e : PlanEntry) (p : Product) (outcome : BatchOutcome) (beyond : Nat) (a : Arm) : Line :=
  { compartment := e.compartment, arm := e.arm, recipe := e.recipe, productCode := p.code,
    preset := e.preset, grossMl := a.figures.gross, grossL := litres a.figures.gross,
    standardMl := a.figures.standard, standardL := litres a.figures.standard,
    fwa := a.figures.fwa, ctl := a.figures.ctl, outcome := outcome,
    resumes := a.control.resumeCount
    flags :=
      { a.flagsSoFar with
        additiveShort := a.components.any (Component.fellShort a.figures.gross)
        overAllocation := 0 < beyond }
    overAllocation := beyond
    entries := a.components.map (Component.entry a.figures.gross) }

/-- A batch makes its line with an outcome: the account is charged, the line joins the open load
record, the entry leaves the plan and the standard totalizer advances (R46, R61, R97). -/
def makeLine (outcome : BatchOutcome) (n : ArmId) (s : State) : State :=
  match s.load.record, s.entryOf n with
  | some r, some e =>
    match s.recipeProduct e.recipe with
    | some p =>
      let a := s.arm n
      let used := litres a.figures.standard
      let beyond := overAllocationOf (s.account r.account) p.productClass e.reservation used
      let s := charge r.account p.productClass e.reservation used s
      let s := s.updRecord fun r =>
        OpenLoad.withoutArm n { r with lines := r.lines ++ [lineOf e p outcome beyond a] }
      s.updArm n fun a =>
        { a with totals.standard := fit 64 (a.totals.standard + a.figures.standard) }
    | none => s
  | _, _ => s

/-! ### Identification timer (R50, R51) -/

/-- Entry to REFERRED or VEHICLE_WAIT starts the identification timer from zero (R50). -/
def enterIdentifying (l : LoadState) (s : State) : State :=
  enterLoad l { s with load.identTimer := .start (s.load.identTimeout * 1000) }

/-- The load state returns to NO_LOAD from an identification; a state already NO_LOAD stays (R27,
R50). -/
def leaveIdentifying (s : State) : State :=
  enterLoad .noLoad { s with load.identTimer := .stopped }

end Sys2Proof.Machine
end

