-- ==== Sys2Proof/Machine/Metering.lean ====
section
/-! DEFINITION. The Metering Engine (chapter 5): the stages of a sample, pulse integrity, overspeed,
the fault capture record, totals, unbatched flow, and the engine's requests. -/

namespace Sys2Proof.Machine

/-! ### Stages (R80 to R87) -/

/-- Stage 3: the meter factor at a rate (R82). -/
def meterFactor : List CurvePoint → Nat → Nat
  | [], _ => 10000
  | [p], _ => p.factor
  | a :: b :: rest, rate =>
    if rate ≤ a.rate then a.factor
    else if rate ≤ b.rate then
      ((a.factor : Int)
        + (((b.factor : Int) - a.factor) * ((rate : Int) - a.rate)).tdiv ((b.rate : Int) - a.rate)).toNat
    else meterFactor (b :: rest) rate

/-- Stage 1: the numerator of the gross increment (R80). -/
def grossNum (pulses factor remainder : Nat) : Nat := fit 64 (pulses * factor * 100 + remainder)

/-- Stage 2: the window after a value has entered it (R81). -/
def windowWith (delta : Nat) (window : List Nat) : List Nat :=
  let w := window ++ [delta]
  w.drop (w.length - 10)

/-- Stage 2: the rate of a window, in L/min (R81). -/
def windowRate (window : List Nat) : Nat := window.sum * 6 / 100

/-- A probe reading is valid for a product (R83). -/
def readingValid (p : Product) (t : Int) : Bool :=
  (-4000 ≤ t && t ≤ 8000) && (p.lowLimit ≤ t && t ≤ p.highLimit)

/-- A valid reading, if the probe has delivered one (R83). -/
def validReading (p : Product) (probe : Option Int) : Option Int := probe.filter (readingValid p)

/-- Stage 4: the channel record with the sample's temperature settled (R83). The time since the last
valid reading is counted in samples of 100 ms (notes/assumptions/26.md). -/
def settleTemperature (p : Product) (probe : Option Int) (c : MeterChannel) : MeterChannel × Int :=
  match validReading p probe with
  | some t => ({ c with lastValid := some t, sinceValid := 0, substituting := false }, t)
  | none =>
    let since := c.sinceValid + 100
    match c.lastValid with
    | some t =>
      if since ≤ 10000 then ({ c with sinceValid := since }, t)
      else ({ c with sinceValid := since, substituting := true }, p.substitute)
    | none => ({ c with sinceValid := since, substituting := true }, p.substitute)

/-- Stage 5: the flow-weighted temperature (R85). -/
def fwaOf (sumTV : Int) (gross : Nat) (t : Int) : Int :=
  if gross = 0 then t else roundHalfAway sumTV gross

/-- Stage 6: CTL before it is limited (R86). -/
def rawCtl (p : Product) (fwa : Int) : Int :=
  let dT := fwa - p.baseTemp
  let term1 := (p.alpha : Int) * dT
  let term2 := ((p.beta : Int) * dT * dT).tdiv 10000
  roundHalfUpInt (1000000000 - term1 - term2) 10000

/-- Stage 6: CTL clamped to 90,000 to 110,000 (R86). -/
def limitedCtl (raw : Int) : Nat := (max 90000 (min 110000 raw)).toNat

/-- Stage 6: whether CTL was limited (R86). -/
def ctlLimited (raw : Int) : Bool := raw < 90000 || 110000 < raw

/-- Stage 7: standard mL (R87). -/
def standardOf (gross ctl : Nat) : Nat := fit 32 (roundHalfUp (gross * ctl) 100000)

/-- The running figures after a sample of a batch or meter run in progress (R83 to R87). -/
def Figures.sample (p : Product) (pulses pulsesB delta : Nat) (t : Int) (substituting : Bool)
    (f : Figures) : Figures :=
  let gross := fit 32 (f.gross + delta)
  let sumTV := fitSigned 64 (f.sumTV + t * delta)
  let fwa := fwaOf sumTV gross t
  let raw := rawCtl p fwa
  { gross := gross, sumTV := sumTV
    aTotal := fit 32 (f.aTotal + pulses), bTotal := fit 32 (f.bTotal + pulsesB)
    fwa := fwa, ctl := limitedCtl raw, standard := standardOf gross (limitedCtl raw)
    tempSubstituted := f.tempSubstituted || substituting
    correctionLimited := f.correctionLimited || ctlLimited raw
    meterFault := f.meterFault }

/-- The totals records after a sample, by the arm as it stands when its timer expires (R96). -/
def Totals.sample (a : Arm) (delta : Nat) (t : Totals) : Totals :=
  { t with
    gross := fit 64 (t.gross + delta)
    batched := if a.inBatch then fit 64 (t.batched + delta) else t.batched
    proving := if a.inRun then fit 64 (t.proving + delta) else t.proving
    unbatched := if a.inBatch || a.inRun then t.unbatched else fit 64 (t.unbatched + delta) }

/-- The unbatched-since-idle figure after a sample in IDLE or ARMED (R99). -/
def unbatchedWith (delta figure : Nat) : Nat := min 4294967295 (figure + delta)

/-- The addition carries the figure from below a multiple of 10,000 mL to or above it (R99). -/
def unbatchedCrosses (before after : Nat) : Bool := before / 10000 < after / 10000

/-- The difference of the pulse totals without regard to sign (R90). -/
def discrepancy (f : Figures) : Nat := (f.aTotal - f.bTotal) + (f.bTotal - f.aTotal)

/-- The states in which pulse integrity is checked (R90). -/
def ArmState.checksIntegrity : ArmState → Bool
  | .starting | .fullFlow | .trim | .closing => true
  | _ => false

/-- The overspeed count at a flowing sample (R93). -/
def overspeedCountWith (c : ArmConfig) (rate count : Nat) : Nat :=
  if c.overspeedRate < rate then count + 1 else 0

/-- What the engine hands over after a sample (R89, R91, R93). -/
structure SampleReport where
  /-- the arm as it stood when its timer expired -/
  before : Arm
  pulses : Nat
  delta : Nat
  factor : Nat
  /-- a meter fault, with the discrepancy found -/
  fault : Option Nat
  overspeed : Bool
  deriving DecidableEq, Repr

/-- The seven stages on an arm's records (R79 to R93, R96, R99), and the report of the sample. -/
def Arm.engine (c : ArmConfig) (p : Product) (probe : Option Int) (a : Arm) : Arm × SampleReport :=
  let factor := meterFactor a.curve a.channel.rate
  let num := grossNum a.channel.pulsesA factor a.channel.remainder
  let delta := num / c.kFactor
  let window := windowWith delta a.channel.window
  let rate := windowRate window
  let (ch, t) := settleTemperature p probe a.channel
  let inProgress := a.inBatch || a.inRun
  let figures :=
    if inProgress then
      a.figures.sample p a.channel.pulsesA a.channel.pulsesB delta t ch.substituting
    else a.figures
  let counted := overspeedCountWith c rate a.channel.overspeedCount
  let overspeed := a.flowing && 30 ≤ counted
  let faulted :=
    !c.singleChannel && inProgress && a.control.state.checksIntegrity && a.channel.integrityArmed
      && c.integrityLimit < discrepancy figures
  ({ a with
      sampleTimer := .start 100
      channel :=
        { ch with
          pulsesA := 0, pulsesB := 0, remainder := num % c.kFactor, window := window, rate := rate
          integrityArmed := a.channel.integrityArmed && !faulted
          overspeedCount :=
            if a.flowing then (if overspeed then 0 else counted) else a.channel.overspeedCount
          unbatched :=
            if inProgress then a.channel.unbatched else unbatchedWith delta a.channel.unbatched }
      figures := { figures with meterFault := figures.meterFault || faulted }
      totals := a.totals.sample a delta },
    { before := a, pulses := a.channel.pulsesA, delta := delta, factor := factor
      fault := if faulted then some (discrepancy figures) else none, overspeed := overspeed })

/-- A meter fault is offered to the capture record (R94). -/
def offerFault (n : ArmId) (s : State) : State :=
  { s with
    capture :=
      some (match s.capture with
        | none =>
          { arm := n, aCount := (s.arm n).figures.aTotal, bCount := (s.arm n).figures.bTotal,
            gross := (s.arm n).figures.gross, clock := s.port.clock, faultsSince := 0 }
        | some k => { k with faultsSince := min 255 (k.faultsSince + 1) }) }

/-- UNBATCHED FLOW at a crossing (R99). -/
def postUnbatched (n : ArmId) (before : Nat) (s : State) : State :=
  let after := (s.arm n).channel.unbatched
  if unbatchedCrosses before after then post .unbatchedFlow (armNumber n) 0 after s else s

/-- A meter fault is posted and offered (R91). -/
def postFault (n : ArmId) (fault : Option Nat) (s : State) : State :=
  match fault with
  | some d => offerFault n (post .meterFault (armNumber n) 1 d s)
  | none => s

/-- The engine's share of a sample (R79). -/
def engineSample (n : ArmId) (c : ArmConfig) (p : Product) (probe : Option Int) (s : State) :
    State × SampleReport :=
  let (a, r) := (s.arm n).engine c p probe
  (postFault n r.fault (postUnbatched n (s.arm n).channel.unbatched (s.setArm n a)), r)

/-! ### Start of a batch or run (R84) -/

/-- The running figures are cleared and the integrity check is armed (R84, R93); FWA and CTL, which R84
recomputes at the next sample, keep their old values until then (DEDUCED, notes/assumptions/39.md). -/
def Arm.clearFigures (a : Arm) : Arm :=
  { a with
    figures := { Figures.zero with fwa := a.figures.fwa, ctl := a.figures.ctl }
    channel.integrityArmed := true, channel.overspeedCount := 0 }

/-! ### Requests -/

/-- A product is in use (R75). -/
def State.productInUse (s : State) (i : Fin 8) : Bool :=
  s.arms.toList.any (fun a =>
      (a.config.map (·.product) == some i) && a.control.state != .idle)
    || s.plan.any (fun e => (s.recipe e.recipe).map (·.product) == some i)

/-- The product that PUT PRODUCT's fields give, when every field lies in its range (R75). -/
def productOf (code cls base alpha beta low high subst basis : Nat) : Option Product :=
  match classOf cls, presetBasisOf basis with
  | some c, some b =>
    let lo := signedOf 2 low
    let hi := signedOf 2 high
    let sub := signedOf 2 subst
    if code = 0 ∨ (base ≠ 1500 ∧ base ≠ 2000) ∨ 30000 < alpha ∨ 5000 < beta
        ∨ lo < -4000 ∨ 8000 < lo ∨ hi < -4000 ∨ 8000 < hi ∨ hi < lo ∨ sub < lo ∨ hi < sub then none
    else
      some { code := code, productClass := c, baseTemp := base, alpha := alpha, beta := beta,
             lowLimit := lo, highLimit := hi, substitute := sub, basis := b }
  | _, _ => none

/-- The code is held by the entry at another index (R75). -/
def State.codeElsewhere (s : State) (i : Fin 8) (code : Nat) : Bool :=
  (List.finRange 8).any fun k => k ≠ i && ((s.products.get k).map (·.code) == some code)

/-- PUT PRODUCT (R75). -/
def putProduct (index : Nat) (product : Option Product) : Owner := fun s =>
  match productIndexOf index, product with
  | some i, some p =>
    if s.codeElsewhere i p.code then (s, .refused .badValue)
    else if s.productInUse i then (s, .refused .inUse)
    else ({ s with products := s.products.set i (some p) }, .ok)
  | _, _ => (s, .refused .badValue)

/-- The rates of a curve ascend strictly (R78). -/
def ascending : List CurvePoint → Bool
  | a :: b :: rest => a.rate < b.rate && ascending (b :: rest)
  | _ => true

/-- The points of a curve lie in their ranges (R78). -/
def curveValid (points : List CurvePoint) : Bool :=
  points.all (fun p => p.rate ≤ 6000 && 9000 ≤ p.factor && p.factor ≤ 11000) && ascending points

/-- PUT METER CURVE (R78); the arm's run result is discarded (R165). -/
def putMeterCurve (arm : Nat) (points : List CurvePoint) : Owner := fun s =>
  match armOf arm with
  | none => (s, .refused .badValue)
  | some n =>
    if !curveValid points then (s, .refused .badValue)
    else if (s.arm n).beyondArmed then (s, .refused .inUse)
    else (s.updArm n fun a => { a with curve := points, result := none }, .ok)

/-- GET TOTALS (R98). -/
def getTotals (arm : Nat) : Owner := fun s =>
  match armOf arm with
  | none => (s, .refused .badValue)
  | some n =>
    let t := (s.arm n).totals
    (s, .okWith (field 8 t.gross ++ field 8 t.batched ++ field 8 t.proving ++ field 8 t.unbatched
      ++ field 8 t.standard))

/-- The fields of a captured fault (section 5.7). -/
def captureFields (k : Capture) : List Byte :=
  field 1 (armNumber k.arm) ++ field 1 1 ++ field 4 k.aCount ++ field 4 k.bCount ++ field 4 k.gross
    ++ field 4 k.clock.toNat ++ field 1 k.faultsSince

/-- READ METER FAULT (R95). -/
def readMeterFault : Owner := fun s =>
  match s.capture with
  | none => (s, .refused .notFound)
  | some k => ({ s with capture := none }, .okWith (captureFields k))

def execPutProduct (f : Frame) (s : State) : Result :=
  takeRequest 0x40 (fixedForm [1, 2, 1, 2, 2, 2, 2, 2, 2, 1] fun
    | [index, code, cls, base, alpha, beta, low, high, subst, basis] =>
      putProduct index (productOf code cls base alpha beta low high subst basis)
    | _ => refuse (.refused .badLength)) f s

def execPutMeterCurve (f : Frame) (s : State) : Result :=
  takeRequest 0x42 (countedForm 1 1 4 (fun n => [1, 1] ++ (List.replicate n [2, 2]).flatten) fun
    | arm :: _ :: points =>
      putMeterCurve arm ((pairs points).map fun p => { rate := p.1, factor := p.2 })
    | _ => refuse (.refused .badLength)) f s

def execGetTotals (f : Frame) (s : State) : Result :=
  takeRequest 0x44 (fixedForm [1] fun
    | [arm] => getTotals arm
    | _ => refuse (.refused .badLength)) f s

def execReadMeterFault (f : Frame) (s : State) : Result :=
  takeRequest 0x45 (fixedForm [] fun _ => readMeterFault) f s

/-- METER PULSE: a pulse on a configured arm's channel adds one to its counter; channel B of a
single-channel arm is not counted (R79). -/
def execMeterPulse (arm : ArmId) (channel : Channel) (s : State) : Result :=
  if s.running then
    match (s.arm arm).config, channel with
    | some _, .a => .next (s.updArm arm fun a => { a with channel.pulsesA := a.channel.pulsesA + 1 })
    | some c, .b =>
      if c.singleChannel then .next s
      else .next (s.updArm arm fun a => { a with channel.pulsesB := a.channel.pulsesB + 1 })
    | none, _ => .next s
  else .next s

end Sys2Proof.Machine
end

