-- ==== Sys2Proof/Machine/Batch.lean ====
section
/-! DEFINITION. The Arm Controller (chapter 6): configuration, start, the arm's share of the sample,
the end of a batch and of a meter run, stop and resume, and the commands of one arm. -/

namespace Sys2Proof.Machine

/-! ### The arm's share of the sample (R106 to R112) -/

/-- The preset in litres: the binding's, or the run volume (R106, R162). -/
def Arm.preset (a : Arm) : Nat :=
  match a.run, a.control.binding with
  | some r, _ => r.volume
  | none, some b => b.preset
  | none, none => 0

/-- The preset basis: the binding's, or GROSS for a meter run (R106, R162). -/
def Arm.basis (a : Arm) : PresetBasis :=
  match a.run, a.control.binding with
  | none, some b => b.basis
  | _, _ => .gross

/-- The batch's figure in the basis of its preset (R106, R122). -/
def Arm.figure (a : Arm) : Nat :=
  match a.basis with
  | .standard => a.figures.standard
  | .gross => a.figures.gross

/-- The remaining volume in mL; signed (R106). -/
def Arm.remaining (a : Arm) : Int := (a.preset : Int) * 1000 - a.figure

/-- The standard lead (R106). -/
def Arm.standardLead (a : Arm) : Nat := a.control.overrun * a.figures.ctl / 100000

/-- The close lead (R106). -/
def Arm.closeLead (a : Arm) : Nat :=
  match a.basis with
  | .gross => a.control.overrun
  | .standard => a.standardLead

/-- The allocation margin of a batch; a meter run has none (R106). -/
def Arm.allocationMargin (a : Arm) : Option Int :=
  match a.run, a.control.binding with
  | none, some b => some ((b.reservation : Int) * 1000 - a.figures.standard)
  | _, _ => none

/-- The close test: the outcome with which the arm enters CLOSING, if it does (R107). -/
def Arm.closeTest (a : Arm) : Option BatchOutcome :=
  if a.remaining ≤ a.closeLead then some .complete
  else
    match a.allocationMargin with
    | some m => if m ≤ a.standardLead then some .allocation else none
    | none => none

/-- The slowdown threshold in mL (R108). -/
def slowdownThreshold (c : ArmConfig) (pacing : Nat) : Nat :=
  if 0 < pacing then c.slowdownVolume * 1000 * 2 else c.slowdownVolume * 1000

/-- Stage progression (R108). -/
def nextStage (c : ArmConfig) (a : Arm) : ArmState :=
  let near := a.remaining ≤ slowdownThreshold c a.control.pacing
  match a.control.state with
  | .starting =>
    if (a.control.stageBase : Int) + c.startVolume * 1000 ≤ a.figures.gross then
      if near then .trim else .fullFlow
    else .starting
  | .fullFlow => if near then .trim else .fullFlow
  | st => st

/-- The debt-reduced flag from the owed counts read (R111). -/
def debtFlag (owed : List Nat) (before : Bool) : Bool :=
  if owed.any (2 < ·) then true else if owed.all (· ≤ 1) then false else before

/-- The flow target of an arm in a flowing state (R109). -/
def flowTarget (c : ArmConfig) (st : ArmState) (debt : Bool) (ceiling n : Nat) : Nat :=
  match st with
  | .fullFlow =>
    let wanted := if debt then c.lowTarget else c.highTarget
    if ceiling = 0 then wanted else min wanted (ceiling / n)
  | .starting | .trim => c.lowTarget
  | _ => 0

/-- The valve command from the rate against the target and the deadband (R110). -/
def valveCommand (target rate : Nat) : Valve :=
  let deadband := max 10 (target * 5 / 100)
  if rate + deadband < target then .openStep
  else if target + deadband < rate then .closeStep
  else .hold

/-- The meter run's figures at a sample taken in a flowing state (R162). A run has reached FULL_FLOW once a
sample has been taken in that state, and not at its entry (DESIGN CHOICE, notes/assumptions/43.md). -/
def MeterRun.sample (before : ArmState) (factor : Nat) (r : MeterRun) : MeterRun :=
  if before.flowing then
    { r with
      flowingMs := fit 32 (r.flowingMs + 100)
      mfUsed := if before = .fullFlow ∨ !r.reachedFullFlow then factor else r.mfUsed
      reachedFullFlow := r.reachedFullFlow || before = .fullFlow }
  else r

/-- The five steps of a flowing arm that the close test did not close (R108 to R112): stage, debt,
target, valve, and the no-flow timer. -/
def Arm.regulate (c : ArmConfig) (owed : List Nat) (ceiling others : Nat) (pulses : Nat) (a : Arm) :
    Arm :=
  let st := nextStage c a
  let debt := if a.inRun then a.control.debtReduced else debtFlag owed a.control.debtReduced
  let target := flowTarget c st debt ceiling (others + 1)
  { a with
    control.state := st, control.debtReduced := debt, control.flowTarget := target
    control.paced := a.control.paced || (st = .fullFlow && debt)
    control.valve := valveCommand target a.channel.rate
    control.noFlowTimer :=
      if 0 < pulses then .start (c.noFlowTimeout * 1000) else a.control.noFlowTimer }

/-- The arms other than `n` in FULL_FLOW. -/
def State.othersInFullFlow (s : State) (n : ArmId) : Nat :=
  ((armIds.filter (· ≠ n)).filter fun k => (s.arm k).control.state = .fullFlow).length

/-- The causes that the engine hands over with a sample, in the order in which the controller takes
them: when a sample finds both a meter fault and an overspeed the order is an open choice
(notes/assumptions/13.md). -/
def handedCause (r : SampleReport) (faultFirst : Bool) : Option HoldCause :=
  match r.fault.isSome, r.overspeed with
  | true, true => if faultFirst then some .meterFault else some .overspeed
  | true, false => some .meterFault
  | false, true => some .overspeed
  | false, false => none

/-- The controller's share of a sample of an arm in a flowing state (section 6.4): a cause handed by
the engine holds the arm, the close test may close it, and otherwise it is regulated. -/
def flowingShare (n : ArmId) (c : ArmConfig) (r : SampleReport) (cause : Option HoldCause)
    (owed : List Nat) (s : State) : State :=
  match cause with
  | some k => enterHeld k n s
  | none =>
    match (s.arm n).closeTest with
    | some o => enterClosing o n s
    | none => s.updArm n (Arm.regulate c owed s.bay.ceiling (s.othersInFullFlow n) r.pulses)

/-! ### The end of a batch and of a run (R121, R122, R163) -/

/-- Overrun learning (R122): the new estimate and the new pacing count. -/
def Arm.learn (c : ArmConfig) (a : Arm) : Arm :=
  let observed : Int := (a.figures.gross : Int) - a.control.closeGross
  let old : Int := a.control.overrun
  let estimate := old + (observed - old).tdiv 4
  let excess : Int := (a.figure : Int) - (a.preset : Int) * 1000
  { a with
    control.overrun := (max 0 (min 50000 estimate)).toNat
    control.pacing := if (c.lateClose : Int) < excess then 7 else a.control.pacing - 1 }

/-- The outcome with which a closing arm ends. -/
def Arm.endOutcome (a : Arm) : BatchOutcome := a.control.outcome.getD .stopped

/-- The batch of an arm ends (R121): the line, the charge, overrun learning, BATCH ENDED, IDLE, and
the sealing or the idle timer that the empty plan brings (R61, R62, R68). -/
def endBatch (n : ArmId) (c : ArmConfig) (s : State) : State :=
  let o := (s.arm n).endOutcome
  let s := makeLine o n s
  let s := if o = .complete then s.updArm n (Arm.learn c) else s
  let s := post .batchEnded (armNumber n) o.code (s.arm n).figures.gross s
  let s := s.updArm n Arm.toIdle
  if s.load.state = .ending && s.planEmpty then sealLoad s else planMayHaveEmptied s

/-- The average rate of a completed run, as METER RUN DONE reports it (R163). -/
def averageRate (gross flowingMs : Nat) : Nat := max 1 (gross * 60 / flowingMs)

/-- A meter run ends (R163). -/
def endRun (n : ArmId) (r : MeterRun) (s : State) : State :=
  let a := s.arm n
  let complete := a.endOutcome = .complete
  let code := if complete then fit 16 (averageRate a.figures.gross r.flowingMs) else 0
  let s := post .meterRunDone (armNumber n) code a.figures.gross s
  s.updArm n fun a =>
    { a.toIdle with
      result := if complete then some { gross := a.figures.gross, mfUsed := r.mfUsed } else a.result }

/-- The settle count after a sample in CLOSING (R121). -/
def settleWith (pulses settle : Nat) : Nat := if pulses = 0 then min 20 (settle + 1) else 0

/-- A closing batch or run may end at this sample (R121, R158). -/
def mayEnd (s : State) (n : ArmId) : Bool :=
  ((s.arm n).control.settle == 20 || (s.arm n).control.closingTimer.done) && !additivesPending s n

/-- The controller's share of a sample of an arm in CLOSING (R121). -/
def closingShare (n : ArmId) (c : ArmConfig) (pulses : Nat) (s : State) : State :=
  let s := s.updArm n fun a => { a with control.settle := settleWith pulses a.control.settle }
  if mayEnd s n then
    match (s.arm n).run with
    | some r => endRun n r s
    | none => endBatch n c s
  else s

/-! ### SAMPLE (R79) -/

/-- The owed counts of an arm's batch. -/
def Arm.owedCounts (a : Arm) : List Nat := a.components.map (·.owed)

/-- The Arm Controller and the Additive Controller act on a sample of a batch in a flowing state in an
order that R111 leaves open (notes/assumptions/15.md): choice 0, the owed counts are read before the
cycle counting; choice 1, after it and before the shots it starts; choice 2, after those shots. The
cycle counting always precedes the trailing decision (R144). -/
def flowingBatchSample (n : ArmId) (c : ArmConfig) (r : SampleReport) (cause : Option HoldCause)
    (s : State) : State :=
  let order := s.choice 3
  let counted := countCycles r.delta n s.chosen
  let ready := if order = 2 then offerAll counted else counted
  let owed := (if order = 0 then s.arm n else ready.arm n).owedCounts
  offerAll (flowingShare n c r cause owed ready)

/-- The controllers' shares of a sample, by the arm as it stood when its timer expired (R79). -/
def controllerSample (n : ArmId) (c : ArmConfig) (r : SampleReport) (s : State) : State :=
  let both := r.fault.isSome && r.overspeed
  let cause := handedCause r (s.choice 2 = 0)
  let s := if both then s.chosen else s
  if r.before.flowing then
    if r.before.inRun then
      flowingShare n c r cause []
        (s.updArm n fun a => { a with run := a.run.map (MeterRun.sample r.before.control.state r.factor) })
    else flowingBatchSample n c r cause s
  else if r.before.control.state = .closing then closingShare n c r.pulses s
  else s

/-- A sample of an arm (R79): an arm that is not configured has no sample timer. -/
def sampleArm (n : ArmId) (probe : Option Int) (s : State) : State :=
  match (s.arm n).config with
  | none => s
  | some c =>
    match s.products.get c.product with
    | none => s
    | some p =>
      let (t, r) := engineSample n c p probe s
      controllerSample n c r t

def execSample (arm : ArmId) (probe : Option Int) (s : State) : Result :=
  .next (if s.running then sampleArm arm probe s else s)

/-! ### Timers of an arm -/

/-- NO FLOW TIMER EXPIRY (R112): a flowing arm is held with cause NO_FLOW; a timer that does not run
does not expire. -/
def execNoFlowTimerExpiry (arm : ArmId) (s : State) : Result :=
  .next (if s.running && (s.arm arm).control.noFlowTimer.running then enterHeld .noFlow arm s else s)

/-- CLOSING TIMER EXPIRY (R121): the closing timer has run 60 s; the batch ends at a later sample. -/
def execClosingTimerExpiry (arm : ArmId) (s : State) : Result :=
  .next (if s.running then
    s.updArm arm fun a => { a with control.closingTimer := a.control.closingTimer.runOut }
  else s)

/-- TRAILING TIMER EXPIRY (R157): owed shots are discarded, and their components that were OK become
SHORT. -/
def execTrailingTimerExpiry (arm : ArmId) (s : State) : Result :=
  .next (if s.running && (s.arm arm).trailingTimer.running then
    s.updArm arm fun a =>
      { a with
        trailingTimer := a.trailingTimer.runOut
        components := a.components.map fun k =>
          if 0 < k.owed then
            { k with owed := 0, status := if k.status = .ok then .short else k.status }
          else k }
  else s)

/-! ### Configuration (R77, R101) -/

/-- A value in a range, or the default that a coding stands for. -/
def codedRange (low high coded default v : Nat) : Option Nat :=
  if v = coded then some default else if low ≤ v ∧ v ≤ high then some v else none

/-- The settings that PUT ARM's fields give, when every field lies in its range (R77, R101). -/
def armConfigOf (product k single low high start slow overspeed noFlow resume overrun late
    integrity : Nat) : Option ArmConfig :=
  match productIndexOf product, flagOf single, codedRange 5 120 0 30 noFlow,
      codedRange 0 15 255 3 resume, codedRange 0 200000 0xFFFFFFFF 10000 late,
      codedRange 2 100 0 10 integrity with
  | some p, some sc, some nf, some rl, some lc, some il =>
    if k < 1000 ∨ 100000000 < k ∨ overspeed < 200 ∨ 6000 < overspeed ∨ overspeed < high
        ∨ low < 50 ∨ 1000 < low ∨ high < 200 ∨ 5000 < high ∨ high < low
        ∨ start < 50 ∨ 2000 < start ∨ slow < 50 ∨ 2000 < slow ∨ 50000 < overrun then none
    else
      some { product := p, kFactor := k, singleChannel := sc, overspeedRate := overspeed,
             integrityLimit := il, lowTarget := low, highTarget := high, startVolume := start,
             slowdownVolume := slow, noFlowTimeout := nf, resumeLimit := rl, lateClose := lc }
  | _, _, _, _, _, _ => none

/-- The arm after an accepted PUT ARM (R77, R101, R165): the meter channel record is cleared but for
the integrity check, and the sample timer starts if it was not running. -/
def Arm.configure (c : ArmConfig) (overrun : Nat) (a : Arm) : Arm :=
  { a with
    config := some c, result := none
    sampleTimer := if a.sampleTimer.running then a.sampleTimer else .start 100
    channel := { MeterChannel.cleared with integrityArmed := a.channel.integrityArmed }
    control.overrun := overrun, control.pacing := 0 }

/-- PUT ARM (R77, R101). -/
def putArm (arm : Nat) (config : Option ArmConfig) (overrun : Nat) : Owner := fun s =>
  match armOf arm, config with
  | some n, some c =>
    if (s.arm n).control.state ≠ .idle then (s, .refused .inUse)
    else if (s.products.get c.product).isNone then (s, .refused .notFound)
    else (s.updArm n (Arm.configure c overrun), .ok)
  | _, _ => (s, .refused .badValue)

def execPutArm (f : Frame) (s : State) : Result :=
  takeRequest 0x41 (fixedForm [1, 1, 4, 1, 2, 2, 2, 2, 2, 1, 1, 2, 4, 1] fun
    | [arm, product, k, single, low, high, start, slow, overspeed, noFlow, resume, overrun, late,
        integrity] =>
      putArm arm (armConfigOf product k single low high start slow overspeed noFlow resume overrun
        late integrity) overrun
    | _ => refuse (.refused .badLength)) f s

/-! ### START ARM (R104, R105) -/

/-- The MANDATORY injectors of a recipe. -/
def State.mandatoryInjectors (s : State) (recipe : Nat) : List InjId :=
  ((s.recipe recipe).map fun r =>
    (r.components.map (·.injector)).filter fun i =>
      (s.injector i).config.map (·.injectorClass) == some .mandatory).getD []

/-- Every MANDATORY injector of a recipe is neither FAULTED nor PROVING (R104, check 7). -/
def State.injectorsReady (s : State) (recipe : Nat) : Bool :=
  (s.mandatoryInjectors recipe).all fun i => !s.earnsNone i

/-- No other arm beyond IDLE is bound to a compartment (R104, check 5). -/
def State.compartmentFree (s : State) (n : ArmId) (compartment : Nat) : Bool :=
  (armIds.filter (· ≠ n)).all fun k =>
    !((s.arm k).control.state != .idle
      && (s.arm k).control.binding.map (·.compartment) == some compartment)

/-- The checks of START ARM: the first that fails gives the answer (R104). -/
def startRefusal (s : State) (n : ArmId) (b : Binding) : Option Answer :=
  if s.monitor.rackStop then some (.refused .rackStopped)
  else if !s.monitor.deployed n then some (.denied .armStowed)
  else if s.monitor.couplerCode n ≠ b.compartment then some (.denied .wrongCompartment)
  else if !s.compartmentFree n b.compartment then some (.denied .compartmentBusy)
  else if !s.monitor.permissiveOk then some (.denied .permissive)
  else if !s.injectorsReady b.recipe then some (.denied .injectorUnavailable)
  else none

/-- The arm enters STARTING at the start of a batch or run (R105, R161). -/
def Arm.starting (c : ArmConfig) (a : Arm) : Arm :=
  { a.clearFigures with
    control.state := .starting, control.stageBase := 0, control.resumeCount := 0
    control.permissiveHold := false, control.couplerLost := false, control.paced := false
    control.debtReduced := false, control.flowTarget := c.lowTarget, control.valve := .hold
    control.pump := true, control.noFlowTimer := .start (c.noFlowTimeout * 1000) }

/-- The entry of an arm becomes ACTIVE (R55). -/
def OpenLoad.activate (n : ArmId) (r : OpenLoad) : OpenLoad :=
  { r with plan := r.plan.map fun e => if e.arm = n then { e with state := .active } else e }

/-- An accepted START ARM (R105). -/
def startBatch (n : ArmId) (c : ArmConfig) (b : Binding) (s : State) : State :=
  let components := newComponents s b.recipe
  post .batchStarted (armNumber n) b.compartment b.preset
    ((stopIdleTimer (s.updRecord (OpenLoad.activate n))).updArm n fun a =>
      { a.starting c with components := components })

/-- START ARM (R104). -/
def startArm (arm : Nat) : Owner := fun s =>
  match armOf arm with
  | none => (s, .refused .badValue)
  | some n =>
    match (s.arm n).control.state, (s.arm n).control.binding, (s.arm n).config with
    | .armed, some b, some c =>
      match startRefusal s n b with
      | some a => (s, a)
      | none => (startBatch n c b s, .ok)
    | _, _, _ => (s, .refused .wrongState)

/-! ### STOP ARM and RESUME ARM (R116 to R118) -/

/-- OK with the arm state as it stands. -/
def armStateReply (n : ArmId) (s : State) : State × Answer :=
  (s, .okWith (field 1 (s.arm n).control.state.code))

/-- STOP ARM (R116). -/
def stopArm (arm : Nat) : Owner := fun s =>
  match armOf arm with
  | none => (s, .refused .badValue)
  | some n =>
    match (s.arm n).control.state with
    | .starting | .fullFlow | .trim | .held => armStateReply n (stopArmNow n s)
    | .armed => armStateReply n (planMayHaveEmptied (cancelArmed n s))
    | .closing | .idle => (s, .refused .wrongState)

/-- The coupler code an arm must show to flow: its compartment, or 0 for a meter run (R117). -/
def Arm.wantedCode (a : Arm) : Nat :=
  if a.inRun then 0 else (a.control.binding.map (·.compartment)).getD 0

/-- The hold cause of an arm is cleared (section 6.5, R117). -/
def holdCleared (s : State) (n : ArmId) : Bool :=
  let a := s.arm n
  match a.control.holdCause with
  | some .permissive => s.monitor.permissiveOk
  | some .coupler => s.monitor.couplerCode n == a.wantedCode && s.monitor.deployed n
  | some .additiveFault =>
    (s.mandatoryInjectors ((a.control.binding.map (·.recipe)).getD 0)).all fun i =>
      !(s.injector i).state.isFaulted
  | some .meterFault | some .overspeed | some .noFlow => true
  | none => false

/-- Checks 4 to 7 of RESUME ARM (R117). -/
def resumeRefusal (s : State) (n : ArmId) : Option Answer :=
  let a := s.arm n
  if !s.monitor.permissiveOk then some (.denied .permissive)
  else if !s.monitor.deployed n then some (.denied .armStowed)
  else if s.monitor.couplerCode n ≠ a.wantedCode then some (.denied .wrongCompartment)
  else if !a.inRun && !s.injectorsReady ((a.control.binding.map (·.recipe)).getD 0) then
    some (.denied .injectorUnavailable)
  else none

/-- The B total is made equal to the A total and the integrity check is armed (R92); the B total of a
single-channel arm stays as it is, which is 0 (R90, notes/assumptions/40.md). -/
def Arm.align (c : ArmConfig) (a : Arm) : Arm :=
  { a with
    figures.bTotal := if c.singleChannel then a.figures.bTotal else a.figures.aTotal
    channel.integrityArmed := true }

/-- The arm enters STARTING again (R118). -/
def Arm.resumed (c : ArmConfig) (a : Arm) : Arm :=
  { a with
    control.state := .starting, control.holdCause := none
    control.resumeCount := a.control.resumeCount + 1, control.stageBase := a.figures.gross
    control.pump := true, control.flowTarget := c.lowTarget, control.valve := .hold
    control.noFlowTimer := .start (c.noFlowTimeout * 1000), channel.overspeedCount := 0 }

/-- An accepted resume under the resume limit (R118, R145). -/
def resumeBatch (n : ArmId) (c : ArmConfig) (s : State) : State :=
  let s := stopIdleTimer (s.updArm n fun a => (a.align c).resumed c)
  offerAll (post .batchResumed (armNumber n) (s.arm n).control.resumeCount (s.arm n).figures.gross s)

/-- RESUME ARM (R117, R118). -/
def resumeArm (arm : Nat) : Owner := fun s =>
  match armOf arm with
  | none => (s, .refused .badValue)
  | some n =>
    match (s.arm n).control.state, (s.arm n).config with
    | .held, some c =>
      if !holdCleared s n then (s, .refused .wrongState)
      else if (s.arm n).control.resumeCount = c.resumeLimit then
        armStateReply n (enterClosing .aborted n (s.updArm n (Arm.align c)))
      else
        match resumeRefusal s n with
        | some a => (s, a)
        | none => armStateReply n (resumeBatch n c s)
    | _, _ => (s, .refused .wrongState)

/-! ### GET ARM (R123) -/

/-- The fields of GET ARM's reply (R123). -/
def armFields (a : Arm) : List Byte :=
  let k := a.control
  field 1 k.state.code ++ flagField a.config.isSome ++ flagField a.inRun
    ++ field 1 ((k.binding.map (·.compartment)).getD 0)
    ++ field 2 ((k.binding.map (·.recipe)).getD 0) ++ field 2 a.preset
    ++ field 1 ((k.holdCause.map (·.code)).getD 0) ++ field 1 ((k.outcome.map (·.code)).getD 0)
    ++ field 1 k.resumeCount ++ field 1 k.valve.code ++ flagField k.pump ++ field 2 k.flowTarget
    ++ field 2 a.channel.rate ++ field 4 a.figures.gross ++ field 4 a.figures.standard
    ++ beSigned 2 a.figures.fwa ++ field 3 a.figures.ctl ++ field 1 a.flagsSoFar.byte
    ++ field 2 k.overrun ++ field 1 k.pacing
    ++ field 1 ((a.config.map fun c => c.product.val + 1).getD 0)

/-- GET ARM (R123). -/
def getArm (arm : Nat) : Owner := fun s =>
  match armOf arm with
  | none => (s, .refused .badValue)
  | some n => (s, .okWith (armFields (s.arm n)))

def execGetArm (f : Frame) (s : State) : Result :=
  takeRequest 0x43 (fixedForm [1] fun
    | [arm] => getArm arm
    | _ => refuse (.refused .badLength)) f s

end Sys2Proof.Machine
end

