-- ==== Sys2Proof/Machine/Permissive.lean ====
section
/-! DEFINITION. The Permissive Monitor (chapter 7): debounce, the bay permissive and its hand-over,
couplers and stow switches, the rack stop latch, and its commands with SET BAY. -/

namespace Sys2Proof.Machine

/-! ### The bay permissive (R113, R128) -/

/-- An arm meets a loss of the bay permissive: a flowing arm is held with cause PERMISSIVE, and a
flowing, closing or held arm has its PERMISSIVE_HOLD flag set (R113). -/
def losePermissive (n : ArmId) (s : State) : State :=
  if (s.arm n).beyondArmed then
    enterHeld .permissive n (s.updArm n fun a => { a with control.permissiveHold := true })
  else s

/-- The bay permissive is recomputed; a change takes the new value and is posted (R128). -/
def recomputed (s : State) : State :=
  let ok := bayPermissiveOf s.monitor s.bay.vapourRequired
  if ok = s.monitor.permissiveOk then s
  else post .permissiveChange 0 ok.toNat s.monitor.permissiveOk.toNat
    { s with monitor.permissiveOk := ok }

/-- The bay permissive is recomputed and a change is handed over: a loss to the Arm Controllers
(R113), a gain to the Additive Controller (R128, R145). -/
def recomputePermissive (s : State) : State :=
  let t := recomputed s
  if t.monitor.permissiveOk = s.monitor.permissiveOk then t
  else if t.monitor.permissiveOk then offerAll t
  else forArms losePermissive t

/-! ### Couplers and stow switches (R114) -/

/-- An arm meets a coupler or stow change away from its compartment: a flowing arm is held with cause
COUPLER and flagged, a closing arm is flagged, any other arm is left as it is (R114). The flag of a
flowing meter run is notes/assumptions/20.md. -/
def loseCoupler (n : ArmId) (s : State) : State :=
  if (s.arm n).flowing || (s.arm n).control.state = .closing then
    enterHeld .coupler n (s.updArm n fun a => { a with control.couplerLost := true })
  else s

/-! ### The rack stop (R67, R119, R132) -/

/-- An arm meets the rack stop: a flowing or held arm enters CLOSING with outcome ABORTED; an arm in
CLOSING has its outcome changed to ABORTED and its batch's owed counts made 0 (R119, R155). -/
def rackStopArm (n : ArmId) (s : State) : State :=
  if (s.arm n).flowing || (s.arm n).control.state = .held then enterClosing .aborted n s
  else if (s.arm n).control.state = .closing then
    s.updArm n fun a =>
      { a with
        control.outcome := some .aborted
        components := if a.inRun then a.components else a.components.map Component.discard }
  else s

/-- An arm takes the rack stop and, when the bay permissive was lost with it, that loss, in an order
that R132 leaves open for each arm (notes/assumptions/13.md). -/
def rackStopHandOver (lost : Bool) (n : ArmId) (s : State) : State :=
  if lost && (s.arm n).beyondArmed then
    if s.choice 2 = 0 then rackStopArm n (losePermissive n s.chosen)
    else losePermissive n (rackStopArm n s.chosen)
  else rackStopArm n s

/-- Every ARMED entry is cancelled, in ascending arm number; an OPEN load whose plan this empties
starts its idle timer (R67). -/
def rackStopCancel (s : State) : State :=
  let t := forArms cancelArmed s
  if !s.planEmpty then planMayHaveEmptied t else t

/-- The latch becomes set: RACK STOP is posted, the bay permissive is recomputed, and the change is
handed over (R132, R150). That the Arm Controllers take it before the Additive Controller, so that every
BATCH HELD stands before every PROVE SHOT DONE, is DESIGN CHOICE (notes/assumptions/45.md). -/
def setRackStop (s : State) : State :=
  let t := recomputed (post .rackStop 0 0 0 { s with monitor.rackStop := true })
  let lost := s.monitor.permissiveOk && !t.monitor.permissiveOk
  forInjectors rackStopInjector (forArms (rackStopHandOver lost) (rackStopCancel t))

/-! ### Accepted changes (R127, R130 to R133) -/

/-- The rule of an input takes an accepted change from `old` to `v`, which the monitor holds already. -/
def inputChanged (i : Input) (old v : Nat) (s : State) : State :=
  match i with
  | .ground => recomputePermissive (post .permissiveChange 0 (0x0100 + v) old s)
  | .overfill => recomputePermissive (post .permissiveChange 0 (0x0200 + v) old s)
  | .vapour => recomputePermissive (post .permissiveChange 0 (0x0300 + v) old s)
  | .estop =>
    if v = 0 then post .permissiveChange 0 0x0400 1 s
    else
      let s := post .permissiveChange 0 0x0401 0 s
      if s.monitor.rackStop then s else setRackStop s
  | .stow n =>
    let s := post .couplerChange (armNumber n) (0x0200 + v) old s
    if s.monitor.deployed n then s else loseCoupler n s
  | .coupler n =>
    let s := post .couplerChange (armNumber n) (0x0100 + v) old s
    if s.monitor.couplerCode n = (s.arm n).wantedCode then s else loseCoupler n s

/-! ### Debounce (R125) -/

/-- The debounce record at a change of the raw value to `v` (R125). -/
def Debounce.rawChange (v : Nat) (d : Debounce) : Debounce :=
  if v = d.accepted then { d with candidate := none, window := .stopped }
  else { d with candidate := some v, window := .start 200 }

/-- The record of an input whose pins take new levels: a change of the raw value is debounced once
start-up is complete (R124, R125, R126). -/
def Debounce.setLevels (i : Input) (levels : BitVec 4) (running : Bool) (d : Debounce) : Debounce :=
  let e := { d with levels := levels }
  if running && rawValue i levels ≠ rawValue i d.levels then e.rawChange (rawValue i levels) else e

/-- The candidate becomes the accepted value and the window stops (R125). -/
def Debounce.accept (v : Nat) (d : Debounce) : Debounce :=
  { d with accepted := v, candidate := none, window := .stopped }

/-- RAW INPUT CHANGE (R124, R125). -/
def execRawInputChange (input : Input) (levels : BitVec 4) (s : State) : Result :=
  .next { s with
    monitor := s.monitor.setInput input ((s.monitor.input input).setLevels input levels s.running) }

/-- DEBOUNCE WINDOW EXPIRY (R125): a window that does not run does not expire. -/
def execDebounceWindowExpiry (input : Input) (s : State) : Result :=
  let d := s.monitor.input input
  match d.candidate with
  | some v =>
    if s.running && d.window.running then
      .next (inputChanged input d.accepted v
        { s with monitor := s.monitor.setInput input (d.accept v) })
    else .next s
  | none => .next s

/-! ### Requests -/

/-- SET BAY (R102, R129). -/
def setBay (ceiling vapour : Nat) : Owner := fun s =>
  match flagOf vapour with
  | none => (s, .refused .badValue)
  | some v =>
    if ceiling = 0 ∨ (200 ≤ ceiling ∧ ceiling ≤ 20000) then
      (recomputePermissive { s with bay := { ceiling := ceiling, vapourRequired := v } }, .ok)
    else (s, .refused .badValue)

/-- The fields of GET PERMISSIVES' reply (R136). -/
def permissiveFields (m : Monitor) (vapourRequired : Bool) : List Byte :=
  flagField m.permissiveOk ++ flagField m.rackStop ++ flagField vapourRequired
    ++ field 1 m.ground.accepted ++ field 1 m.overfill.accepted ++ field 1 m.vapour.accepted
    ++ field 1 m.estop.accepted ++ field 1 m.baySettling
    ++ (armIds.map fun n =>
          field 1 (m.stow.get n).accepted ++ field 1 (m.coupler.get n).accepted
            ++ field 1 (m.armSettling n)).flatten

/-- GET PERMISSIVES (R136). -/
def getPermissives : Owner := fun s =>
  (s, .okWith (permissiveFields s.monitor s.bay.vapourRequired))

/-- CLEAR RACK STOP (R134). -/
def clearRackStop : Owner := fun s =>
  if !s.monitor.rackStop then (s, .refused .wrongState)
  else if !s.monitor.released then (s, .refused .wrongState)
  else
    (recomputePermissive (post .rackStopCleared 0 0 0 { s with monitor.rackStop := false }), .ok)

def execSetBay (f : Frame) (s : State) : Result :=
  takeRequest 0x46 (fixedForm [2, 1] fun
    | [ceiling, vapour] => setBay ceiling vapour
    | _ => refuse (.refused .badLength)) f s

def execGetPermissives (f : Frame) (s : State) : Result :=
  takeRequest 0x50 (fixedForm [] fun _ => getPermissives) f s

def execClearRackStop (f : Frame) (s : State) : Result :=
  takeRequest 0x51 (fixedForm [] fun _ => clearRackStop) f s

end Sys2Proof.Machine
end

