-- ==== Sys2Proof/Machine/Permit.lean ====
section
/-! DEFINITION. The Permit Unit (chapter 2): tables, filter, authority mode, identification, referral,
vehicle naming with the opening of a load (R54), daily counts, and its requests and timers. -/

namespace Sys2Proof.Machine

/-! ### Lookups and use -/

/-- The driver entry of a card. -/
def State.driver (s : State) (card : Nat) : Option Driver := s.permit.drivers.find? (·.card == card)

/-- The vehicle entry of a number. -/
def State.vehicle (s : State) (number : Nat) : Option Vehicle :=
  s.permit.vehicles.find? (·.number == number)

/-- The card of a pending referral. -/
def Referral.pendingCard : Referral → Option Nat
  | .pending c _ => some c
  | _ => none

/-- The card of the identification or load in progress (R17). -/
def State.currentCard (s : State) : Option Nat :=
  match s.load.state with
  | .noLoad => none
  | .referred => s.permit.referral.pendingCard
  | .vehicleWait => s.permit.held.map (·.card)
  | .opened | .ending => s.load.record.map (·.card)

/-- A driver is in use (R17). -/
def State.driverInUse (s : State) (card : Nat) : Bool := s.currentCard == some card

/-- A vehicle is in use (R19). -/
def State.vehicleInUse (s : State) (number : Nat) : Bool :=
  (s.load.state = .opened || s.load.state = .ending)
    && (s.load.record.map (·.vehicle) == some number)

/-- The day number of the rack clock. -/
def State.day (s : State) : Nat := dayOf s.port.clock

/-- A card number: 1 to 2^40 − 1 (section 2.1). -/
def cardInRange (card : Nat) : Bool := 1 ≤ card && card < 2 ^ 40

/-- A vehicle number: 1 to 999,999 (section 2.2). -/
def vehicleInRange (number : Nat) : Bool := 1 ≤ number && number ≤ 999999

/-! ### Driver and vehicle tables (R17 to R20) -/

/-- Loads today kept under a new daily limit (R17). -/
def loadsKept (limit loads : Nat) : Nat := if limit ≠ 0 ∧ limit < loads then limit else loads

/-- An entry takes the place of the one it replaces, or joins the table. -/
def replaceBy {α : Type} (same : α → Bool) (entry : α) (table : List α) : List α :=
  if table.any same then table.map fun e => if same e then entry else e else table ++ [entry]

/-- The driver entry that PUT DRIVER's fields give, when every field lies in its range (R17). -/
def driverOf (card suspended valid account classes bound limit : Nat) : Option Driver :=
  match flagOf suspended with
  | none => none
  | some b =>
    if !cardInRange card || account = 0 || 999999 < bound || 15 < limit then none
    else
      some { card := card, suspended := b, validUntil := valid, account := account,
             classes := BitVec.ofNat 8 classes, bound := optionalField bound, dailyLimit := limit,
             loadsToday := 0 }

/-- PUT DRIVER (R17). -/
def putDriver (driver : Option Driver) : Owner := fun s =>
  match driver with
  | none => (s, .refused .badValue)
  | some d =>
    let write (loads : Nat) : State × Answer :=
      ({ s with permit.drivers :=
          replaceBy (·.card == d.card) { d with loadsToday := loads } s.permit.drivers },
        .okWith (field 1 loads))
    match s.driver d.card with
    | some old =>
      if s.driverInUse d.card then (s, .refused .inUse)
      else write (loadsKept d.dailyLimit old.loadsToday)
    | none =>
      if s.permit.drivers.length < Config.driverTableSize then write 0 else (s, .refused .full)

/-- DROP DRIVER (R18). -/
def dropDriver (card : Nat) : Owner := fun s =>
  if !cardInRange card then (s, .refused .badValue)
  else
    match s.driver card with
    | none => (s, .refused .notFound)
    | some _ =>
      if s.driverInUse card then (s, .refused .inUse)
      else ({ s with permit.drivers := s.permit.drivers.filter (·.card ≠ card) }, .ok)

/-- The fields of GET DRIVER's reply (R18). -/
def driverFields (d : Driver) : List Byte :=
  flagField d.suspended ++ field 2 d.validUntil ++ field 4 d.account ++ field 1 d.classes.toNat
    ++ field 4 (d.bound.getD 0) ++ field 1 d.dailyLimit ++ field 1 d.loadsToday

/-- GET DRIVER (R18). -/
def getDriver (card : Nat) : Owner := fun s =>
  if !cardInRange card then (s, .refused .badValue)
  else
    match s.driver card with
    | none => (s, .refused .notFound)
    | some d => (s, .okWith (driverFields d))

/-- The vehicle entry that PUT VEHICLE's fields give, when every field lies in its range (R19). -/
def vehicleOf (number valid : Nat) (compartments : List (Nat × Nat)) : Option Vehicle :=
  if !vehicleInRange number || valid = 0
      || compartments.any (fun c => c.1 < 100 || 20000 < c.1) then none
  else
    some { number := number, validUntil := valid,
           compartments := compartments.map fun c =>
             { capacity := c.1, classes := BitVec.ofNat 8 c.2 } }

/-- PUT VEHICLE (R19). -/
def putVehicle (vehicle : Option Vehicle) : Owner := fun s =>
  match vehicle with
  | none => (s, .refused .badValue)
  | some v =>
    if s.vehicleInUse v.number then (s, .refused .inUse)
    else if (s.vehicle v.number).isSome || s.permit.vehicles.length < Config.vehicleTableSize then
      ({ s with permit.vehicles := replaceBy (·.number == v.number) v s.permit.vehicles }, .ok)
    else (s, .refused .full)

/-- DROP VEHICLE (R20). -/
def dropVehicle (number : Nat) : Owner := fun s =>
  if !vehicleInRange number then (s, .refused .badValue)
  else
    match s.vehicle number with
    | none => (s, .refused .notFound)
    | some _ =>
      if s.vehicleInUse number then (s, .refused .inUse)
      else ({ s with permit.vehicles := s.permit.vehicles.filter (·.number ≠ number) }, .ok)

/-- The fields of GET VEHICLE's reply (R20). -/
def vehicleFields (v : Vehicle) : List Byte :=
  field 2 v.validUntil ++ field 1 v.compartments.length
    ++ (v.compartments.map fun c => field 2 c.capacity ++ field 1 c.classes.toNat).flatten

/-- GET VEHICLE (R20). -/
def getVehicle (number : Nat) : Owner := fun s =>
  if !vehicleInRange number then (s, .refused .badValue)
  else
    match s.vehicle number with
    | none => (s, .refused .notFound)
    | some v => (s, .okWith (vehicleFields v))

/-! ### Filter and authority mode (R21 to R23) -/

/-- Filter bit `i` takes a value. -/
def writeFilterBit (i : Nat) (v : Bool) (filter : BitVec 256) : BitVec 256 :=
  if v then filter ||| (1#256 <<< i) else filter &&& ~~~(1#256 <<< i)

/-- The `k`-th bit of the run: from value byte `k / 8`, at bit `7 − k mod 8` (R22). -/
def runBit (values : List Nat) (k : Nat) : Bool := (values.getD (k / 8) 0).testBit (7 - k % 8)

/-- A run of `n` bits written from `start` on (R22). -/
def writeFilterRun (start n : Nat) (values : List Nat) (filter : BitVec 256) : BitVec 256 :=
  (List.range n).foldl (fun f k => writeFilterBit (start + k) (runBit values k) f) filter

/-- SET FILTER (R22). -/
def setFilter (start n : Nat) (values : List Nat) : Owner := fun s =>
  if 256 < start + n then (s, .refused .badValue)
  else ({ s with permit.filter := writeFilterRun start n values s.permit.filter }, .ok)

/-- A card hits the filter (R21). -/
def State.hitsFilter (s : State) (card : Nat) : Bool := s.permit.filter.getLsbD (filterIndex card)

/-- SET AUTHORITY (R23). -/
def setAuthority (mode timeout : Nat) : Owner := fun s =>
  match authorityModeOf mode with
  | none => (s, .refused .badValue)
  | some m =>
    if 5 ≤ timeout ∧ timeout ≤ 60 then
      ({ s with permit.mode := m, permit.referralTimeout := timeout }, .ok)
    else (s, .refused .badValue)

/-! ### Denial (R27) -/

/-- The four lower bytes of a card number. -/
def cardLow (card : Nat) : Nat := card % 2 ^ 32

/-- The most significant byte of a card number. -/
def cardHigh (card : Nat) : Nat := card / 2 ^ 32

/-- A denial ends the identification of a card (R27, R72). -/
def denyIdentification (reason : DenyReason) (card : Nat) (s : State) : State :=
  let s := post .identificationDenied 0 reason.code (cardLow card) s
  leaveIdentifying (setLine2 (.refusal (.reason reason)) { s with permit.held := none })

/-! ### Opening a load (R35, R54) -/

/-- Loads today after one more opening: not beyond the daily limit, or 15 without one (R35). -/
def countedLoads (d : Driver) : Nat :=
  let ceiling := if d.dailyLimit = 0 then 15 else d.dailyLimit
  if d.loadsToday < ceiling then d.loadsToday + 1 else d.loadsToday

/-- The daily count of a card's entry is advanced (R35). -/
def countLoad (card : Nat) (s : State) : State :=
  { s with permit.drivers := s.permit.drivers.map fun d =>
      if d.card = card then { d with loadsToday := countedLoads d } else d }

/-- The record of a load just opened (R53, R54). -/
def newLoad (p : Permit) (vehicle note : Nat) (clock : BitVec 32) : OpenLoad :=
  { note := note, source := p.source, card := p.card, vehicle := vehicle, account := p.account,
    classes := p.classes, opened := clock, endCause := none, plan := [], lines := [] }

/-- The note number after one is taken; held at 4,294,967,295 (R171). -/
def nextNoteAfter (next : Nat) : Nat := min Config.lastNoteNumber (next + 1)

/-- A load opens (R35, R54). -/
def openLoad (p : Permit) (vehicle : Nat) (s : State) : State :=
  let note := s.store.next
  let s := { s with
    store.next := nextNoteAfter note
    permit.held := none
    load.record := some (newLoad p vehicle note s.port.clock)
    load.identTimer := .stopped }
  post .loadOpened 0 p.source.code note (countLoad p.card (startIdleTimer (enterLoad .opened s)))

/-! ### Vehicle naming (R34) -/

/-- The checks of vehicle naming: the reason of the first that fails (R34). -/
def namingRefusal (s : State) (p : Permit) (number : Nat) : Option DenyReason :=
  match s.vehicle number with
  | none => some .vehicleUnknown
  | some v =>
    if v.validUntil < s.day then some .vehicleExpired
    else if p.bound.any (· ≠ number) then some .vehicleNotBound
    else none

/-- A vehicle is named for a held permit: the load opens, or the identification is denied (R34). -/
def nameFor (p : Permit) (number : Nat) (s : State) : State × Option DenyReason :=
  match namingRefusal s p number with
  | some r => (denyIdentification r p.card s, some r)
  | none => (openLoad p number s, none)

/-- NAME VEHICLE (R34). -/
def nameVehicle (number : Nat) : Owner := fun s =>
  if !vehicleInRange number then (s, .refused .badValue)
  else
    match s.load.state, s.permit.held with
    | .vehicleWait, some p =>
      if s.monitor.rackStop then (s, .refused .rackStopped)
      else
        match nameFor p number s with
        | (t, some r) => (t, .denied r)
        | (t, none) => (t, .okWith (field 4 s.store.next))
    | _, _ => (s, .refused .wrongState)

/-- The held permit is made and VEHICLE_WAIT entered (R26, R29). -/
def holdPermit (p : Permit) (s : State) : State :=
  enterIdentifying .vehicleWait { s with permit.held := some p }

/-! ### Identification (R24 to R28) -/

/-- The store can take the note of a new load (R181). -/
def State.storeTakes (s : State) : Bool :=
  s.store.notes.length < Config.noteStoreSize && s.store.next < Config.lastNoteNumber

/-- At least one product and one arm are configured (R24). -/
def State.configured (s : State) : Bool :=
  s.products.toList.any (·.isSome) && s.arms.toList.any (·.config.isSome)

/-- An arm is in a meter run. -/
def State.meterRun (s : State) : Bool := s.arms.toList.any (·.inRun)

/-- The admission checks: the answer of the first that fails (R24). -/
def admissionRefusal (s : State) : Option Answer :=
  if !s.configured then some (.denied .notConfigured)
  else if s.load.state ≠ .noLoad then some (.denied .bayBusy)
  else if s.monitor.rackStop then some (.refused .rackStopped)
  else if !s.storeTakes then some (.denied .noteStoreFull)
  else if s.meterRun then some (.refused .wrongState)
  else none

/-- Why a card needs a referral, if it does (R25). -/
def referralNeed (s : State) (card : Nat) : Option ReferralReason :=
  if s.permit.mode = .host ∨ (s.permit.mode = .hostFallback ∧ s.port.link = .up) then some .mode
  else if s.hitsFilter card then some .filter
  else none

/-- A referral opens (R28). -/
def openReferral (card : Nat) (reason : ReferralReason) (s : State) : State :=
  let s := { s with
    permit.referral := .pending card reason
    permit.referralTimer := .start (s.permit.referralTimeout * 1000) }
  post .referralPending 0 (reason.code * 256 + cardHigh card) (cardLow card)
    (enterIdentifying .referred s)

/-- The local checks: the driver entry, or the reason of the first that fails (R26). -/
def localCheck (s : State) (card : Nat) : Except DenyReason Driver :=
  match s.driver card with
  | none => .error .cardUnknown
  | some d =>
    if d.suspended then .error .cardSuspended
    else if d.validUntil ≠ 0 ∧ d.validUntil < s.day then .error .cardExpired
    else if d.dailyLimit ≠ 0 ∧ d.dailyLimit ≤ d.loadsToday then .error .dailyLimit
    else .ok d

/-- OK with the load state as it stands. -/
def loadStateReply (s : State) : State × Answer := (s, .okWith (field 1 s.load.state.code))

/-- The held permit of a driver entry (R26). -/
def permitOf (d : Driver) : Permit :=
  { source := .fromTable, card := d.card, account := d.account, classes := d.classes,
    bound := d.bound }

/-- A card that needs no referral (R26). -/
def identifyLocally (card : Nat) : Owner := fun s =>
  match localCheck s card with
  | .error r => (denyIdentification r card s, .denied r)
  | .ok d =>
    let t := holdPermit (permitOf d) s
    match d.bound with
    | none => loadStateReply t
    | some v =>
      match nameFor (permitOf d) v t with
      | (u, some r) => (u, .denied r)
      | (u, none) => loadStateReply u

/-- The referral decision (R25). -/
def decideCard (card : Nat) : Owner := fun s =>
  match referralNeed s card with
  | none => identifyLocally card s
  | some reason =>
    match s.port.link with
    | .lost => (denyIdentification .noHost card s, .denied .noHost)
    | .up => loadStateReply (openReferral card reason s)

/-- PRESENT CARD (R24). -/
def presentCard (card : Nat) : Owner := fun s =>
  if !cardInRange card then (s, .refused .badValue)
  else
    match admissionRefusal s with
    | some a => (s, a)
    | none => decideCard card (post .cardRead 0 (cardHigh card) (cardLow card) s)

/-! ### Referral (R29 to R32) -/

/-- The referral record becomes `r` and its timer stops. -/
def endReferral (r : Referral) (s : State) : State :=
  { s with permit.referral := r, permit.referralTimer := .stopped }

/-- A referral is allowed (R29). -/
def allowReferral (p : Permit) (s : State) : State :=
  let t := holdPermit p (endReferral .empty s)
  match p.bound with
  | some v => if t.monitor.rackStop then t else (nameFor p v t).1
  | none => t

/-- A referral is decided (R29). -/
def decideReferral (allow : Bool) (p : Permit) (s : State) : State :=
  if allow then allowReferral p s
  else denyIdentification .referralDenied p.card (endReferral .empty s)

/-- ANSWER REFERRAL (R29). -/
def answerReferral (card decision account classes bound : Nat) : Owner := fun s =>
  if !cardInRange card || 1 < decision || (decision = 1 && (account = 0 || 999999 < bound)) then
    (s, .refused .badValue)
  else
    match s.permit.referral with
    | .pending c _ =>
      if c = card then
        (decideReferral (decision = 1)
          { source := .referred, card := card, account := account,
            classes := BitVec.ofNat 8 classes, bound := optionalField bound } s, .ok)
      else (s, .refused .notFound)
    | .expired c => (s, .refused (if c = card then .tooLate else .notFound))
    | .empty => (s, .refused .notFound)

/-- The link has become LOST (R31). -/
def linkLost (s : State) : State :=
  match s.permit.referral with
  | .pending c _ => denyIdentification .noHost c (endReferral .empty s)
  | _ => s

/-- A pending referral times out (R30). -/
def expireReferral (s : State) : State :=
  match s.permit.referral with
  | .pending c _ => denyIdentification .referralNoAnswer c (endReferral (.expired c) s)
  | _ => s

/-- END LOAD abandons an identification (R32, R64). -/
def abandonIdentification (s : State) : State :=
  let r := match s.permit.referral with | .pending _ _ => .empty | r => r
  leaveIdentifying { endReferral r s with permit.held := none }

/-- REFERRAL TIMER EXPIRY (R30). -/
def execReferralTimerExpiry (s : State) : Result :=
  .next (if s.running && s.permit.referralTimer.running then expireReferral s else s)

/-- An identification times out (R30, R51). -/
def expireIdentification (s : State) : State :=
  match s.load.state, s.permit.held with
  | .referred, _ => expireReferral s
  | .vehicleWait, some p => denyIdentification .vehicleUnknown p.card s
  | _, _ => s

/-- IDENTIFICATION TIMER EXPIRY (R51). -/
def execIdentificationTimerExpiry (s : State) : Result :=
  .next (if s.running && s.load.identTimer.running then expireIdentification s else s)

/-! ### Daily counts (R36) -/

/-- A day change: every loads-today count becomes 0 and the count day the new day (R36). -/
def dayChange (s : State) : State :=
  { s with
    permit.drivers := s.permit.drivers.map fun d => { d with loadsToday := 0 }
    permit.countDay := s.day }

/-- The rack clock takes a value; a change of the day number is handed over (R15, R16). -/
def writeClock (clock : BitVec 32) (s : State) : State :=
  let t := { s with port.clock := clock }
  if t.day = s.day then t else dayChange t

/-! ### Requests -/

def execPutDriver (f : Frame) (s : State) : Result :=
  takeRequest 0x10 (fixedForm [5, 1, 2, 4, 1, 4, 1] fun
    | [card, suspended, valid, account, classes, bound, limit] =>
      putDriver (driverOf card suspended valid account classes bound limit)
    | _ => refuse (.refused .badLength)) f s

def execDropDriver (f : Frame) (s : State) : Result :=
  takeRequest 0x11 (fixedForm [5] fun
    | [card] => dropDriver card
    | _ => refuse (.refused .badLength)) f s

def execGetDriver (f : Frame) (s : State) : Result :=
  takeRequest 0x12 (fixedForm [5] fun
    | [card] => getDriver card
    | _ => refuse (.refused .badLength)) f s

def execPutVehicle (f : Frame) (s : State) : Result :=
  takeRequest 0x13 (countedForm 6 1 8 (fun n => [4, 2, 1] ++ (List.replicate n [2, 1]).flatten) fun
    | number :: valid :: _ :: compartments => putVehicle (vehicleOf number valid (pairs compartments))
    | _ => refuse (.refused .badLength)) f s

def execDropVehicle (f : Frame) (s : State) : Result :=
  takeRequest 0x14 (fixedForm [4] fun
    | [number] => dropVehicle number
    | _ => refuse (.refused .badLength)) f s

def execGetVehicle (f : Frame) (s : State) : Result :=
  takeRequest 0x15 (fixedForm [4] fun
    | [number] => getVehicle number
    | _ => refuse (.refused .badLength)) f s

def execSetFilter (f : Frame) (s : State) : Result :=
  takeRequest 0x16 (countedForm 1 2 256 (fun n => [1, 2] ++ List.replicate (ceilDiv n 8) 1) fun
    | start :: n :: values => setFilter start n values
    | _ => refuse (.refused .badLength)) f s

def execAnswerReferral (f : Frame) (s : State) : Result :=
  takeRequest 0x17 (fixedForm [5, 1, 4, 1, 4] fun
    | [card, decision, account, classes, bound] => answerReferral card decision account classes bound
    | _ => refuse (.refused .badLength)) f s

def execSetAuthority (f : Frame) (s : State) : Result :=
  takeRequest 0x18 (fixedForm [1, 1] fun
    | [mode, timeout] => setAuthority mode timeout
    | _ => refuse (.refused .badLength)) f s

end Sys2Proof.Machine
end

