-- ==== Sys2Proof/Machine/LoadRequests.lean ====
section
/-! DEFINITION. The Load Controller's requests (chapter 4): compartment planning, END LOAD, GET LOAD,
SET LOAD TIMES, and the idle timer. -/

namespace Sys2Proof.Machine

/-! ### PLAN COMPARTMENT (R56 to R60) -/

/-- The fields of PLAN COMPARTMENT lie in their ranges (R56); a console value too wide for its field
is out of range as well (R71). -/
def planInRange (compartment recipe preset : Nat) : Bool :=
  1 ≤ compartment && compartment ≤ 8 && 1 ≤ recipe && recipe ≤ 65535
    && 100 ≤ preset && preset ≤ 20000

/-- The compartment of a vehicle with a number from 1. -/
def Vehicle.compartment (v : Vehicle) (number : Nat) : Option Compartment :=
  v.compartments[number - 1]?

/-- The compartment room in litres; signed (R58). -/
def roomOf (c : Compartment) (compartment : Nat) (r : OpenLoad) : Int :=
  (c.capacity : Int)
    - ((r.lines.filter (·.compartment = compartment)).map fun l => (l.grossL : Int)).sum
    - ((r.plan.filter (·.compartment = compartment)).map fun e => (e.preset : Int)).sum

/-- Every injector of a recipe has the arm in its plumbing set (R57, check 4). -/
def State.plumbed (s : State) (r : Recipe) (n : ArmId) : Bool :=
  r.components.all fun c => (s.injector c.injector).config.any (·.reaches n)

/-- Checks 1 to 6 of a plan: the arm, the compartment and the recipe (R57); passed, they give the
compartment and the base product. -/
def planChecks (s : State) (load : OpenLoad) (n : ArmId) (compartment recipe : Nat) :
    Except Answer (Compartment × Product) :=
  if (s.arm n).control.state ≠ .idle then .error (.refused .wrongState)
  else
    match (s.vehicle load.vehicle).bind (·.compartment compartment) with
    | none => .error (.refused .badValue)
    | some c =>
      match s.recipe recipe with
      | none => .error (.denied .recipeUnknown)
      | some r =>
        if (s.arm n).config.map (·.product) ≠ some r.product || !s.plumbed r n then
          .error (.denied .recipeArmMismatch)
        else
          match s.products.get r.product with
          | none => .error (.denied .recipeArmMismatch)
          | some p =>
            if !inClasses p.productClass load.classes then .error (.denied .classNotAllowed)
            else if !inClasses p.productClass c.classes then .error (.denied .compartmentClass)
            else .ok (c, p)

/-- Checks 8 and 9 of a plan (R59). -/
def planPlace (load : OpenLoad) (compartment : Nat) : Option Answer :=
  if Config.linesPerLoad ≤ load.plan.length + load.lines.length then some (.refused .full)
  else if load.plan.any (·.compartment = compartment) then some (.denied .compartmentBusy)
  else none

/-- The nine checks of a plan: the answer of the first that fails, or the granted preset and the base
product (R57 to R59). -/
def planGrant (s : State) (load : OpenLoad) (n : ArmId) (compartment recipe request : Nat) :
    Except Answer (Nat × Product) :=
  match planChecks s load n compartment recipe with
  | .error a => .error a
  | .ok (c, p) =>
    match allocationCheck (s.account load.account) p.productClass p.basis request
        (roomOf c compartment load) with
    | .error r => .error (.denied r)
    | .ok preset =>
      match planPlace load compartment with
      | some a => .error a
      | none => .ok (preset, p)

/-- The arm becomes ARMED with its binding (R103). -/
def Arm.arm (b : Binding) (a : Arm) : Arm :=
  { a with control.state := .armed, control.binding := some b }

/-- An accepted plan (R60). -/
def acceptPlan (load : OpenLoad) (n : ArmId) (compartment recipe preset : Nat) (p : Product)
    (s : State) : State :=
  let r := reservationOf p.basis preset
  let e : PlanEntry :=
    { compartment := compartment, recipe := recipe, arm := n, preset := preset, reservation := r,
      state := .armed }
  let b : Binding :=
    { compartment := compartment, recipe := recipe, preset := preset, basis := p.basis,
      reservation := r }
  let s := s.updRecord fun l => { l with plan := l.plan ++ [e] }
  stopIdleTimer ((reserve load.account p.productClass r s).updArm n (Arm.arm b))

/-- PLAN COMPARTMENT (R56). -/
def planCompartment (compartment recipe arm request : Nat) : Owner := fun s =>
  match armOf arm with
  | none => (s, .refused .badValue)
  | some n =>
    if !planInRange compartment recipe request then (s, .refused .badValue)
    else
      match s.load.state, s.load.record with
      | .opened, some load =>
        if s.monitor.rackStop then (s, .refused .rackStopped)
        else
          match planGrant s load n compartment recipe request with
          | .error a => (s, a)
          | .ok (preset, p) =>
            (acceptPlan load n compartment recipe preset p s, .okWith (field 2 preset))
      | _, _ => (s, .refused .wrongState)

/-! ### END LOAD (R64 to R66) -/

/-- END LOAD (R64). -/
def endLoad (cause : Nat) : Owner := fun s =>
  match endLoadCauseOf cause with
  | none => (s, .refused .badValue)
  | some c =>
    match s.load.state with
    | .noLoad | .ending => (s, .refused .wrongState)
    | .referred | .vehicleWait => loadStateReply (abandonIdentification s)
    | .opened => loadStateReply (endOpenLoad c s)

/-- IDLE TIMER EXPIRY (R63, R66): a timer that does not run does not expire. -/
def execIdleTimerExpiry (s : State) : Result :=
  .next (if s.running && s.load.idleTimer.running && s.load.state = .opened then
    endOpenLoad .idleTimeout s
  else s)

/-! ### GET LOAD (R69) -/

/-- The seconds that a timer has left; whether a part second is rounded up is a free value
(notes/assumptions/14.md). -/
def secondsLeft (t : Timer) : Nat :=
  if t.running then
    let ms := t.limit - t.elapsed
    if Config.timerLeftRoundsUp then ceilDiv ms 1000 else ms / 1000
  else 0

/-- The field "timer left" (R69). -/
def State.timerLeft (s : State) : Nat :=
  match s.load.state with
  | .referred | .vehicleWait => secondsLeft s.load.identTimer
  | .opened => secondsLeft s.load.idleTimer
  | .noLoad | .ending => 0

/-- The nine bytes of a plan entry (R69). -/
def PlanEntry.bytes (e : PlanEntry) : List Byte :=
  field 1 e.compartment ++ field 2 e.recipe ++ field 1 (armNumber e.arm) ++ field 2 e.preset
    ++ field 2 e.reservation ++ field 1 (match e.state with | .armed => 1 | .active => 2)

/-- The fields from the note number to the end cause: all 0 (R69). -/
def noLoadFields : List Byte :=
  field 4 0 ++ field 1 0 ++ field 5 0 ++ field 4 0 ++ field 4 0 ++ field 1 0 ++ field 4 0
    ++ field 1 0

/-- The fields from the note number to the end cause, of an open or ending load (R69). -/
def openLoadFields (ending : Bool) (r : OpenLoad) : List Byte :=
  field 4 r.note ++ field 1 r.source.code ++ field 5 r.card ++ field 4 r.vehicle
    ++ field 4 r.account ++ field 1 r.classes.toNat ++ field 4 r.opened.toNat
    ++ field 1 (if ending then (r.endCause.map (·.code)).getD 0 else 0)

/-- The fields from the note number to the end cause, of an identification in VEHICLE_WAIT (R69). -/
def permitFields (p : Permit) : List Byte :=
  field 4 0 ++ field 1 p.source.code ++ field 5 p.card ++ field 4 (p.bound.getD 0)
    ++ field 4 p.account ++ field 1 p.classes.toNat ++ field 4 0 ++ field 1 0

/-- The fields from the note number to the end cause (R69). -/
def State.loadFields (s : State) : List Byte :=
  match s.load.state with
  | .noLoad => noLoadFields
  | .referred =>
    field 4 0 ++ field 1 0 ++ field 5 (s.permit.referral.pendingCard.getD 0) ++ field 4 0
      ++ field 4 0 ++ field 1 0 ++ field 4 0 ++ field 1 0
  | .vehicleWait => (s.permit.held.map permitFields).getD noLoadFields
  | .opened => (s.load.record.map (openLoadFields false)).getD noLoadFields
  | .ending => (s.load.record.map (openLoadFields true)).getD noLoadFields

/-- The lines of the open load. -/
def State.lines (s : State) : List Line := (s.load.record.map (·.lines)).getD []

/-- GET LOAD (R69). -/
def getLoad : Owner := fun s =>
  (s, .okWith (field 1 s.load.state.code ++ s.loadFields ++ field 2 s.timerLeft
    ++ field 1 s.lines.length ++ field 1 s.plan.length
    ++ (s.plan.map PlanEntry.bytes).flatten))

/-! ### SET LOAD TIMES (R52) -/

/-- SET LOAD TIMES (R52). -/
def setLoadTimes (ident idle : Nat) : Owner := fun s =>
  if 10 ≤ ident ∧ ident ≤ 300 ∧ 1 ≤ idle ∧ idle ≤ 60 then
    ({ s with load.identTimeout := ident, load.idleTimeout := idle }, .ok)
  else (s, .refused .badValue)

def execGetLoad (f : Frame) (s : State) : Result :=
  takeRequest 0x34 (fixedForm [] fun _ => getLoad) f s

def execSetLoadTimes (f : Frame) (s : State) : Result :=
  takeRequest 0x35 (fixedForm [2, 1] fun
    | [ident, idle] => setLoadTimes ident idle
    | _ => refuse (.refused .badLength)) f s

end Sys2Proof.Machine
end

