-- ==== Sys2Proof/Machine/LinkRequests.lean ====
section
/-! DEFINITION. The Rack Link Port's own requests (POLL, NEXT EVENT, LINK RESET, SET CLOCK, SET LINK),
frames that are no request, the receiver's bytes, the end of a reply, the silence timer and the rack
clock (chapter 1). -/

namespace Sys2Proof.Machine

/-- The twelve bytes of an event record (section 1.7.3). -/
def Event.bytes (e : Event) : List Byte :=
  field 1 e.kind.code ++ field 1 e.arm ++ field 2 e.code ++ field 4 e.value
    ++ field 4 e.clock.toNat

/-- The fields of POLL's reply (R10). -/
def pollFields (s : State) : List Byte :=
  field 1 s.port.events.length ++ flagField s.port.overflow ++ field 1 s.port.link.code
    ++ flagField s.monitor.rackStop ++ field 1 s.store.notes.length ++ field 1 s.load.state.code
    ++ (armIds.map fun n => field 1 (s.arm n).control.state.code).flatten

/-- POLL (R10). -/
def poll : Owner := fun s =>
  ({ s with port.overflow := false }, .okWith (pollFields s))

/-- NEXT EVENT (R9). -/
def nextEvent : Owner := fun s =>
  match s.port.events with
  | [] => (s, .okWith (field 1 0))
  | e :: rest => ({ s with port.events := rest }, .okWith (field 1 rest.length ++ e.bytes))

/-- LINK RESET (R11, R95). -/
def linkReset : Owner := fun s =>
  ({ s with port.events := [], port.overflow := false, capture := none }, .ok)

/-- SET CLOCK (R16). -/
def setClock (seconds : Nat) : Owner := fun s => (writeClock (BitVec.ofNat 32 seconds) s, .ok)

/-- SET LINK (R14). -/
def setLink (limit : Nat) : Owner := fun s =>
  if 60 < limit then (s, .refused .badValue)
  else ({ s with port.silenceLimit := limit, port.silence := silenceTimerFor limit }, .ok)

def execPoll (f : Frame) (s : State) : Result :=
  takeRequest 0x01 (fixedForm [] fun _ => poll) f s

def execNextEvent (f : Frame) (s : State) : Result :=
  takeRequest 0x02 (fixedForm [] fun _ => nextEvent) f s

def execLinkReset (f : Frame) (s : State) : Result :=
  takeRequest 0x03 (fixedForm [] fun _ => linkReset) f s

def execSetClock (f : Frame) (s : State) : Result :=
  takeRequest 0x04 (fixedForm [4] fun
    | [seconds] => setClock seconds
    | _ => refuse (.refused .badLength)) f s

def execSetLink (f : Frame) (s : State) : Result :=
  takeRequest 0x05 (fixedForm [1] fun
    | [limit] => setLink limit
    | _ => refuse (.refused .badLength)) f s

/-! ### Frames that are no request (R1, R4) -/

/-- The kinds of the request catalogue (section 1.3). -/
def catalogue : List Nat :=
  [0x01, 0x02, 0x03, 0x04, 0x05,
   0x10, 0x11, 0x12, 0x13, 0x14, 0x15, 0x16, 0x17, 0x18,
   0x20, 0x21, 0x22, 0x23,
   0x30, 0x31, 0x32, 0x33, 0x34, 0x35,
   0x40, 0x41, 0x42, 0x43, 0x44, 0x45, 0x46, 0x48, 0x49, 0x4A,
   0x50, 0x51,
   0x60, 0x61, 0x62, 0x63, 0x64, 0x68, 0x69, 0x6A, 0x6B, 0x6C, 0x6D,
   0x70, 0x71]

/-- A kind stands in the catalogue. -/
def inCatalogue (kind : Byte) : Bool := catalogue.contains kind.toNat

/-- UNKNOWN KIND: a frame of a kind outside the catalogue, answered UNKNOWN KIND when it is valid
(R4, step 1). A kind of the catalogue contradicts the command (notes/assumptions/30.md). -/
def execUnknownKind (kind : Byte) (f : Frame) (s : State) : Result :=
  if inCatalogue kind then .fault .kindInCatalogue
  else takeRequest kind (fun _ => refuse (.refused .unknownKind)) f s

/-- DISCARDED FRAME: a frame collected whole whose address is not the part's or whose check is not
the one computed is discarded, and the receiver returns to HUNTING (R1). A frame that is valid is not
discarded, so the event does not occur (notes/assumptions/6.md). -/
def execDiscardedFrame (kind : Byte) (f : Frame) (s : State) : Result :=
  .next (if validFrame s kind f then s else receiverHunts s)

/-- INTER BYTE GAP: the frame is abandoned (R1). -/
def execInterByteGap (s : State) : Result := .next (receiverHunts s)

/-- FRAMING ERROR: the frame is abandoned (R1). -/
def execFramingError (s : State) : Result := .next (receiverHunts s)

/-- BODY LENGTH ABOVE 240: the frame is abandoned (R1). -/
def execBodyLengthAbove240 (s : State) : Result := .next (receiverHunts s)

/-- LEAD BYTE RECEIVED: a receiver that takes bytes enters COLLECTING (R1, R3). -/
def execLeadByteReceived (s : State) : Result :=
  .next (if s.listening then { s with port.receiver := .collecting } else s)

/-- REPLY END: LDIR falls and the receiver takes bytes again (R3). -/
def execReplyEnd (s : State) : Result := .next { s with port.reply := none }

/-! ### Timers (R13, R15) -/

/-- The link becomes LOST (R13). -/
def loseLink (s : State) : State :=
  linkLost (post .linkLost 0 0 s.port.silenceLimit
    { s with port.link := .lost, port.silence := .stopped })

/-- SILENCE TIMER EXPIRY (R13): a timer that does not run does not expire. -/
def execSilenceTimerExpiry (s : State) : Result :=
  .next (if s.running && s.port.silence.running && s.port.link = .up then loseLink s else s)

/-- CLOCK ADVANCE (R15): the clock advances by one second and hands over a day change. On battery it
advances alone, as long as the marker is good (section 1.6, notes/assumptions/34.md). -/
def execClockAdvance (s : State) : Result :=
  .next (if s.running then writeClock (s.port.clock + 1) s
    else if s.backup.markerGood then { s with port.clock := s.port.clock + 1 }
    else s)

end Sys2Proof.Machine
end

