-- ==== Sys2Proof/Machine/Injectors.lean ====
section
/-! DEFINITION. The Additive Controller's requests and events (chapter 8): injectors, recipes, pulses
with creep, and the timers of shots. -/

namespace Sys2Proof.Machine

/-! ### Use (R138, R141) -/

/-- A recipe has a component on an injector. -/
def Recipe.names (i : InjId) (r : Recipe) : Bool := r.components.any (·.injector == i)

/-- An injector is in use (R138). -/
def State.injectorInUse (s : State) (i : InjId) : Bool :=
  (s.injector i).state.isProving
    || s.plan.any (fun e => (s.recipe e.recipe).any (·.names i))

/-- A recipe is in use (R141). -/
def State.recipeInUse (s : State) (code : Nat) : Bool := s.plan.any (·.recipe == code)

/-! ### PUT INJECTOR, GET INJECTOR, CLEAR INJECTOR FAULT (R139, R140, R153) -/

/-- The second arm of a plumbing set: absent for 0; none for a value outside the range (R139). -/
def secondArmOf (v first : Nat) : Option (Option ArmId) :=
  if v = 0 then some none else if v = first then none else (armOf v).map some

/-- The configuration that PUT INJECTOR's fields give, when every field lies in its range (R139). -/
def injectorConfigOf (code k shot limit tolerance fault cls first second scheme creep : Nat) :
    Option InjectorConfig :=
  match injectorClassOf cls, armOf first, secondArmOf second first, schemeOf scheme with
  | some c, some a, some b, some h =>
    if code = 0 ∨ k < 100 ∨ 100000 < k ∨ shot < 1 ∨ 500 < shot ∨ limit < 200 ∨ 10000 < limit
        ∨ tolerance < 1 ∨ 50 < tolerance ∨ 10 < fault ∨ (1000 < creep ∧ creep ≠ 0xFFFF) then none
    else
      some { additiveCode := code, meterK := k, shotMl := shot, shotTimeLimit := limit,
             tolerance := tolerance, faultLimit := if fault = 0 then 3 else fault,
             injectorClass := c, firstArm := a, secondArm := b, scheme := h,
             creepLimit := if creep = 0xFFFF then 20 else creep }
  | _, _, _, _ => none

/-- A recipe of the table would have a cycle volume below 5,000 mL on an injector with a shot volume
(R139). -/
def State.cyclesTooShort (s : State) (i : InjId) (shotMl : Nat) : Bool :=
  s.recipes.any fun r => r.components.any fun c => c.injector == i && cycleOf shotMl c.dose < 5000

/-- The injector after an accepted PUT INJECTOR (R139). -/
def Injector.configure (c : InjectorConfig) (j : Injector) : Injector :=
  { j with config := some c, lastServed := none, diverter := c.firstArm, creep := 0 }

/-- PUT INJECTOR (R139). -/
def putInjector (injector : Nat) (config : Option InjectorConfig) : Owner := fun s =>
  match injectorOf injector, config with
  | some i, some c =>
    if s.injectorInUse i then (s, .refused .inUse)
    else if s.cyclesTooShort i c.shotMl then (s, .refused .badValue)
    else (s.setInjector i ((s.injector i).configure c), .ok)
  | _, _ => (s, .refused .badValue)

/-- The 18 bytes of a configuration, in the sizes and order of PUT INJECTOR (R140). -/
def InjectorConfig.bytes (c : InjectorConfig) : List Byte :=
  field 2 c.additiveCode ++ field 4 c.meterK ++ field 2 c.shotMl ++ field 2 c.shotTimeLimit
    ++ field 1 c.tolerance ++ field 1 c.faultLimit ++ field 1 c.injectorClass.code
    ++ field 1 (armNumber c.firstArm) ++ field 1 ((c.secondArm.map armNumber).getD 0)
    ++ field 1 c.scheme.code ++ field 2 c.creepLimit

/-- Shot arm, shot phase and shot pulses (R140). -/
def InjectorState.shotFields : InjectorState → List Byte
  | .shot r => field 1 (armNumber r.arm) ++ field 1 r.phase.code ++ field 4 r.pulses
  | .proving { shot := some r, .. } => field 1 0 ++ field 1 r.phase.code ++ field 4 r.pulses
  | _ => field 1 0 ++ field 1 0 ++ field 4 0

/-- The fields of GET INJECTOR's reply (R140): an injector that is not configured has every field
0. -/
def injectorFields (j : Injector) : List Byte :=
  match j.config with
  | none => be 31 0
  | some c =>
    field 1 1 ++ field 1 j.state.code ++ c.bytes ++ field 1 j.badCount
      ++ field 1 ((j.lastServed.map armNumber).getD 0) ++ field 1 (armNumber j.diverter)
      ++ field 2 j.creep ++ j.state.shotFields

/-- GET INJECTOR (R140). -/
def getInjector (injector : Nat) : Owner := fun s =>
  match injectorOf injector with
  | none => (s, .refused .badValue)
  | some i => (s, .okWith (injectorFields (s.injector i)))

/-- CLEAR INJECTOR FAULT (R153). -/
def clearInjectorFault (injector : Nat) : Owner := fun s =>
  match injectorOf injector with
  | none => (s, .refused .badValue)
  | some i =>
    match (s.injector i).config, (s.injector i).state with
    | some _, .faulted =>
      (offer i (s.setInjector i
        { s.injector i with state := .idle, badCount := 0, creep := 0 }), .ok)
    | _, _ => (s, .refused .wrongState)

/-! ### Recipes (R141, R142) -/

/-- The components that PUT RECIPE's fields give, when every field lies in its range (R141). -/
def componentsOf : List (Nat × Nat) → Option (List RecipeComponent)
  | [] => some []
  | (injector, dose) :: rest =>
    match injectorOf injector, componentsOf rest with
    | some i, some cs =>
      if dose < 10 ∨ 5000 < dose ∨ cs.any (·.injector == i) then none
      else some ({ injector := i, dose := dose } :: cs)
    | _, _ => none

/-- The recipe that PUT RECIPE's fields give, when every field lies in its range (R141). -/
def recipeOf (code product : Nat) (components : List (Nat × Nat)) : Option Recipe :=
  match productIndexOf product, componentsOf components with
  | some p, some cs => if code = 0 then none else some { code := code, product := p, components := cs }
  | _, _ => none

/-- The base product stands in its table and every injector of the recipe is configured (R141). -/
def State.recipeFound (s : State) (r : Recipe) : Bool :=
  (s.products.get r.product).isSome
    && r.components.all fun c => (s.injector c.injector).config.isSome

/-- Every cycle volume of a recipe is 5,000 mL or more (R141). -/
def State.cyclesLongEnough (s : State) (r : Recipe) : Bool :=
  r.components.all fun c =>
    (s.injector c.injector).config.all fun j => 5000 ≤ cycleOf j.shotMl c.dose

/-- PUT RECIPE (R141). -/
def putRecipe (recipe : Option Recipe) : Owner := fun s =>
  match recipe with
  | none => (s, .refused .badValue)
  | some r =>
    if !s.recipeFound r then (s, .refused .notFound)
    else if !s.cyclesLongEnough r then (s, .refused .badValue)
    else if (s.recipe r.code).isSome && s.recipeInUse r.code then (s, .refused .inUse)
    else if (s.recipe r.code).isSome || s.recipes.length < Config.recipeTableSize then
      ({ s with recipes := replaceBy (·.code == r.code) r s.recipes }, .ok)
    else (s, .refused .full)

/-- DROP RECIPE (R142). -/
def dropRecipe (code : Nat) : Owner := fun s =>
  if code = 0 then (s, .refused .badValue)
  else
    match s.recipe code with
    | none => (s, .refused .notFound)
    | some _ =>
      if s.recipeInUse code then (s, .refused .inUse)
      else ({ s with recipes := s.recipes.filter (·.code ≠ code) }, .ok)

def execPutInjector (f : Frame) (s : State) : Result :=
  takeRequest 0x60 (fixedForm [1, 2, 4, 2, 2, 1, 1, 1, 1, 1, 1, 2] fun
    | [injector, code, k, shot, limit, tolerance, fault, cls, first, second, scheme, creep] =>
      putInjector injector
        (injectorConfigOf code k shot limit tolerance fault cls first second scheme creep)
    | _ => refuse (.refused .badLength)) f s

def execPutRecipe (f : Frame) (s : State) : Result :=
  takeRequest 0x61 (countedForm 3 1 3 (fun n => [2, 1, 1] ++ (List.replicate n [1, 2]).flatten) fun
    | code :: product :: _ :: components => putRecipe (recipeOf code product (pairs components))
    | _ => refuse (.refused .badLength)) f s

def execGetInjector (f : Frame) (s : State) : Result :=
  takeRequest 0x62 (fixedForm [1] fun
    | [injector] => getInjector injector
    | _ => refuse (.refused .badLength)) f s

def execClearInjectorFault (f : Frame) (s : State) : Result :=
  takeRequest 0x63 (fixedForm [1] fun
    | [injector] => clearInjectorFault injector
    | _ => refuse (.refused .badLength)) f s

def execDropRecipe (f : Frame) (s : State) : Result :=
  takeRequest 0x64 (fixedForm [2] fun
    | [code] => dropRecipe code
    | _ => refuse (.refused .badLength)) f s

/-! ### Pulses (R147, R154, R166) -/

/-- A pulse of a shot (R147, R148): the target pulse ends the OPEN phase. -/
def Shot.pulse (r : Shot) : Shot :=
  let r := { r with pulses := r.pulses + 1 }
  if r.phase = .opened ∧ r.target ≤ r.pulses then r.toTail else r

/-- A pulse of a proving shot (R166, R167): the target pulse ends the OPEN phase. -/
def ProveShot.pulse (r : ProveShot) : ProveShot :=
  let r := { r with pulses := r.pulses + 1 }
  if r.phase = .opened ∧ r.target ≤ r.pulses then r.toTail .target else r

/-- A pulse of a proving injector (R166). -/
def ProvingRecord.pulse (p : ProvingRecord) : ProvingRecord :=
  { p with pulseTotal := min 4294967295 (p.pulseTotal + 1), shot := p.shot.map ProveShot.pulse }

/-- The creep count has passed its limit (R154): the volume is credited to the batch at the diverter
that uses the injector, and INJECTOR CREEP is posted. -/
def creepFound (i : InjId) (c : InjectorConfig) (count : Nat) (s : State) : State :=
  let n := (s.injector i).diverter
  let ml := measuredMl c count
  let credited := (s.arm n).uses i
  let s := if credited then
      s.updArm n (Arm.updComponents i fun k => { k with injected := fit 32 (k.injected + ml) })
    else s
  let s := post .injectorCreep (if credited then armNumber n else 0) (injectorNumber i) (fit 32 ml) s
  s.setInjector i { s.injector i with creep := 0 }

/-- A pulse of an IDLE injector (R154). -/
def idlePulse (i : InjId) (c : InjectorConfig) (s : State) : State :=
  if c.creepLimit = 0 then s
  else
    let count := (s.injector i).creep + 1
    if c.creepLimit < count then creepFound i c count s
    else s.setInjector i { s.injector i with creep := count }

/-- A pulse on an injector's AM input, by the injector's state (R147). -/
def takePulse (i : InjId) (s : State) : State :=
  match (s.injector i).config, (s.injector i).state with
  | some c, .idle => idlePulse i c s
  | some _, .shot r => s.setInjector i { s.injector i with state := .shot r.pulse }
  | some _, .proving p => s.setInjector i { s.injector i with state := .proving p.pulse }
  | some _, .faulted => s
  | none, _ => s

/-- ADDITIVE PULSE (R147). -/
def execAdditivePulse (injector : InjId) (s : State) : Result :=
  .next (if s.running then takePulse injector s else s)

/-! ### Timers of shots (R148, R167) -/

/-- The shot time limit is reached (R148, R167). -/
def shotTimeOut (i : InjId) (s : State) : State :=
  match (s.injector i).state with
  | .shot r =>
    if r.phase = .opened ∧ r.timer.running then
      s.setInjector i { s.injector i with state := .shot r.toTail }
    else s
  | .proving p =>
    match p.shot with
    | some r =>
      if r.phase = .opened ∧ r.timer.running then
        s.setInjector i
          { s.injector i with state := .proving { p with shot := some (r.toTail .time) } }
      else s
    | none => s
  | _ => s

/-- SHOT TIMER EXPIRY (R148, R167): a timer that does not run does not expire. -/
def execShotTimerExpiry (injector : InjId) (s : State) : Result :=
  .next (if s.running then shotTimeOut injector s else s)

/-- The tail of a shot for an arm ends (R148). -/
def tailTimeOut (i : InjId) (s : State) : State :=
  match (s.injector i).config, (s.injector i).state with
  | some c, .shot r =>
    if r.phase = .tail ∧ r.timer.running then endShot i c r s else s
  | _, _ => s

/-- TAIL TIMER EXPIRY (R148): the tail of a shot for an arm. -/
def execTailTimerExpiry (injector : InjId) (s : State) : Result :=
  .next (if s.running then tailTimeOut injector s else s)

/-- The tail of a proving shot ends (R167). -/
def proveTailTimeOut (i : InjId) (s : State) : State :=
  match (s.injector i).config, (s.injector i).state with
  | some c, .proving p =>
    match p.shot with
    | some r =>
      if r.phase = .tail ∧ r.timer.running then endProveShot i c p r (r.ended.getD .time) s else s
    | none => s
  | _, _ => s

/-- PROVE SHOT DONE (R167): the tail of a proving shot ends. -/
def execProveShotDone (injector : InjId) (s : State) : Result :=
  .next (if s.running then proveTailTimeOut injector s else s)

end Sys2Proof.Machine
end

