-- ==== Sys2Proof/Machine/Proving.lean ====
section
/-! DEFINITION. Proving (chapter 9): meter runs and their result, injector proving, and its six
requests. -/

namespace Sys2Proof.Machine

/-! ### Meter runs (R160, R161, R164) -/

/-- The checks of BEGIN METER RUN: the answer of the first that fails (R160). -/
def runRefusal (s : State) (n : ArmId) : Option Answer :=
  if s.load.state ≠ .noLoad then some (.refused .wrongState)
  else if s.meterRun then some (.refused .wrongState)
  else if (s.arm n).control.state ≠ .idle then some (.refused .wrongState)
  else if s.monitor.rackStop then some (.refused .rackStopped)
  else if !s.monitor.deployed n then some (.denied .armStowed)
  else if s.monitor.couplerCode n ≠ 0 then some (.denied .wrongCompartment)
  else if !s.monitor.permissiveOk then some (.denied .permissive)
  else none

/-- The arm at the start of a run (R161). -/
def Arm.beginRun (c : ArmConfig) (volume : Nat) (a : Arm) : Arm :=
  { a.starting c with
    result := none
    run := some { volume := volume, flowingMs := 0, mfUsed := 10000, reachedFullFlow := false } }

/-- BEGIN METER RUN (R160, R161). -/
def beginMeterRun (arm volume : Nat) : Owner := fun s =>
  match armOf arm with
  | none => (s, .refused .badValue)
  | some n =>
    if volume < 100 ∨ 5000 < volume then (s, .refused .badValue)
    else
      match (s.arm n).config with
      | none => (s, .refused .wrongState)
      | some c =>
        match runRefusal s n with
        | some a => (s, a)
        | none =>
          (post .batchStarted (armNumber n) 0 volume (s.updArm n (Arm.beginRun c volume)), .ok)

/-- The distance of two numbers. -/
def distance (a b : Nat) : Nat := (a - b) + (b - a)

/-- A new meter factor is accepted (R164). -/
def factorAccepted (new used : Nat) : Bool :=
  distance new used ≤ 50 && 9000 ≤ new && new ≤ 11000

/-- The new meter factor of a run result for a prover reading (R164). -/
def newFactor (r : RunResult) (proverMl : Nat) : Nat :=
  roundHalfUp (fit 64 (r.mfUsed * proverMl)) r.gross

/-- BAD VALUE with further fields (R164, R168). -/
def Answer.badValueWith (fields : List Byte) : Answer :=
  { status := .badValue, reason := none, fields := fields }

/-- A point of the curve takes a new factor (R164). -/
def Arm.setFactor (point factor : Nat) (a : Arm) : Arm :=
  { a with
    curve := a.curve.modify (point - 1) fun p => { p with factor := factor }
    result := none }

/-- METER RESULT (R164). -/
def meterResult (arm point proverMl : Nat) : Owner := fun s =>
  match armOf arm with
  | none => (s, .refused .badValue)
  | some n =>
    if point < 1 ∨ 4 < point ∨ proverMl = 0 then (s, .refused .badValue)
    else if s.load.state ≠ .noLoad then (s, .refused .wrongState)
    else
      match (s.arm n).result with
      | none => (s, .refused .wrongState)
      | some r =>
        if (s.arm n).curve.length < point then (s, .refused .badValue)
        else
          let new := newFactor r proverMl
          if factorAccepted new r.mfUsed then
            (s.updArm n (Arm.setFactor point new), .okWith (field 2 new))
          else (s, .badValueWith (field 2 (min 0xFFFF new) ++ field 2 r.mfUsed))

/-! ### Injector proving (R166 to R169) -/

/-- A batch in progress uses an injector (R166). -/
def State.batchUses (s : State) (i : InjId) : Bool := s.arms.toList.any (·.uses i)

/-- BEGIN INJECTOR PROVING (R166). -/
def beginInjectorProving (injector : Nat) : Owner := fun s =>
  match injectorOf injector with
  | none => (s, .refused .badValue)
  | some i =>
    if (s.injector i).config.isNone || s.earnsNone i then (s, .refused .wrongState)
    else if s.batchUses i then (s, .refused .inUse)
    else
      (s.setInjector i
        { s.injector i with
          state := .proving { shots := 0, pulseTotal := 0, shot := none }, creep := 0 }, .ok)

/-- A proving shot just opened (R167). -/
def newProveShot (c : InjectorConfig) : ProveShot :=
  { phase := .opened, target := targetPulses c, pulses := 0, timer := .start c.shotTimeLimit,
    ended := none }

/-- PROVE SHOT (R167). -/
def proveShot (injector : Nat) : Owner := fun s =>
  match injectorOf injector with
  | none => (s, .refused .badValue)
  | some i =>
    match (s.injector i).config, (s.injector i).state with
    | some c, .proving p =>
      if p.shot.isSome then (s, .refused .wrongState)
      else if s.monitor.rackStop then (s, .refused .rackStopped)
      else
        (s.setInjector i
          { s.injector i with state := .proving { p with shot := some (newProveShot c) } }, .ok)
    | _, _ => (s, .refused .wrongState)

/-- A new meter K is accepted (R168). -/
def meterKAccepted (new old : Nat) : Bool :=
  distance new old * 10 ≤ old && 100 ≤ new && new ≤ 100000

/-- The new meter K of a proving record for a measured total (R168). -/
def newMeterK (p : ProvingRecord) (totalMl : Nat) : Nat :=
  roundHalfUp (fit 64 (p.pulseTotal * 1000)) totalMl

/-- INJECTOR RESULT (R168). -/
def injectorResult (injector totalMl : Nat) : Owner := fun s =>
  match injectorOf injector with
  | none => (s, .refused .badValue)
  | some i =>
    if totalMl = 0 then (s, .refused .badValue)
    else
      match (s.injector i).config, (s.injector i).state with
      | some c, .proving p =>
        if p.shot.isSome || p.shots = 0 then (s, .refused .wrongState)
        else
          let new := newMeterK p totalMl
          if meterKAccepted new c.meterK then
            (s.setInjector i
              { s.injector i with
                config := some { c with meterK := new }
                state := .proving { p with shots := 0, pulseTotal := 0 } },
              .okWith (field 4 new))
          else (s, .badValueWith (field 4 (min 0xFFFFFFFF new)))
      | _, _ => (s, .refused .wrongState)

/-- END PROVING for an arm's meter (R169). -/
def endMeterProving (n : ArmId) : Owner := fun s =>
  if (s.arm n).inRun then (s, .refused .wrongState)
  else
    match (s.arm n).result with
    | none => (s, .refused .notFound)
    | some _ => (s.updArm n fun a => { a with result := none }, .ok)

/-- END PROVING for an injector (R169). -/
def endInjectorProving (i : InjId) : Owner := fun s =>
  match (s.injector i).state with
  | .proving p =>
    if p.shot.isSome then (s, .refused .wrongState)
    else (offer i (s.setInjector i { s.injector i with state := .idle, creep := 0 }), .ok)
  | _ => (s, .refused .wrongState)

/-- END PROVING (R169): subject 0 is METER, 1 INJECTOR. -/
def endProving (subject number : Nat) : Owner := fun s =>
  match subject, armOf number, injectorOf number with
  | 0, some n, _ => endMeterProving n s
  | 1, _, some i => endInjectorProving i s
  | _, _, _ => (s, .refused .badValue)

def execBeginMeterRun (f : Frame) (s : State) : Result :=
  takeRequest 0x68 (fixedForm [1, 2] fun
    | [arm, volume] => beginMeterRun arm volume
    | _ => refuse (.refused .badLength)) f s

def execMeterResult (f : Frame) (s : State) : Result :=
  takeRequest 0x69 (fixedForm [1, 1, 4] fun
    | [arm, point, prover] => meterResult arm point prover
    | _ => refuse (.refused .badLength)) f s

def execBeginInjectorProving (f : Frame) (s : State) : Result :=
  takeRequest 0x6A (fixedForm [1] fun
    | [injector] => beginInjectorProving injector
    | _ => refuse (.refused .badLength)) f s

def execProveShot (f : Frame) (s : State) : Result :=
  takeRequest 0x6B (fixedForm [1] fun
    | [injector] => proveShot injector
    | _ => refuse (.refused .badLength)) f s

def execInjectorResult (f : Frame) (s : State) : Result :=
  takeRequest 0x6C (fixedForm [1, 4] fun
    | [injector, total] => injectorResult injector total
    | _ => refuse (.refused .badLength)) f s

def execEndProving (f : Frame) (s : State) : Result :=
  takeRequest 0x6D (fixedForm [1, 1] fun
    | [subject, number] => endProving subject number
    | _ => refuse (.refused .badLength)) f s

end Sys2Proof.Machine
end

