-- ==== Sys2Proof/Machine/Notes.lean ====
section
/-! DEFINITION. The Note Store's requests (chapter 10): the sections of a note, READ NOTE and RELEASE
NOTE. -/

namespace Sys2Proof.Machine

/-- The 28 bytes of a note header (section 1.7.4). -/
def Note.headerBytes (t : Note) : List Byte :=
  field 4 t.number ++ field 4 t.opened.toNat ++ field 4 t.closed.toNat ++ field 5 t.card
    ++ field 4 t.vehicle ++ field 4 t.account ++ field 1 t.source.code ++ field 1 t.endCause.code
    ++ field 1 t.lines.length

/-- The 14 bytes of an additive entry (section 1.7.6). -/
def AdditiveEntry.bytes (e : AdditiveEntry) : List Byte :=
  field 2 e.code ++ field 1 (injectorNumber e.injector) ++ field 4 e.target ++ field 4 e.injected
    ++ field 2 e.shots ++ field 1 e.status.code

/-- The outcome in the upper four bits and the resume count in the lower four (section 1.7.5). -/
def Line.outcomeByte (l : Line) : Nat := l.outcome.code * 16 + l.resumes

/-- The bytes of a line section (section 1.7.5). -/
def Line.bytes (l : Line) : List Byte :=
  field 1 l.compartment ++ field 1 (armNumber l.arm) ++ field 2 l.recipe ++ field 2 l.productCode
    ++ field 2 l.preset ++ field 4 l.grossMl ++ field 3 l.grossL ++ field 4 l.standardMl
    ++ field 3 l.standardL ++ beSigned 2 l.fwa ++ field 3 l.ctl ++ field 1 l.outcomeByte
    ++ field 1 l.flags.byte ++ field 3 l.overAllocation ++ field 1 l.entries.length
    ++ (l.entries.map AdditiveEntry.bytes).flatten

/-- A section of a note: 0 is the header, 1 to 8 the lines; none above the line count. -/
def Note.section (t : Note) : Nat → Option (List Byte)
  | 0 => some t.headerBytes
  | n + 1 => t.lines[n]?.map Line.bytes

/-- READ NOTE (R178). -/
def readNote (index : Nat) : Owner := fun s =>
  if 8 < index then (s, .refused .badValue)
  else
    match s.store.notes with
    | [] => (s, .refused .notFound)
    | t :: _ =>
      match t.section index with
      | none => (s, .refused .badValue)
      | some bytes => (s, .okWith bytes)

/-- RELEASE NOTE (R179). -/
def releaseNote (number : Nat) : Owner := fun s =>
  if number = 0 then (s, .refused .badValue)
  else
    match s.store.notes with
    | [] => (s, .refused .notFound)
    | t :: rest =>
      if t.number = number then ({ s with store.notes := rest }, .ok)
      else (s, .refused .notOldest)

def execReadNote (f : Frame) (s : State) : Result :=
  takeRequest 0x70 (fixedForm [1] fun
    | [index] => readNote index
    | _ => refuse (.refused .badLength)) f s

def execReleaseNote (f : Frame) (s : State) : Result :=
  takeRequest 0x71 (fixedForm [4] fun
    | [number] => releaseNote number
    | _ => refuse (.refused .badLength)) f s

end Sys2Proof.Machine
end

