-- ==== Sys2Proof/Machine/Console.lean ====
section
/-! DEFINITION. The Console Port (section 4.8): records and their answers, characters, output, and the
seven requests that reach the part from the host and from the console. -/

namespace Sys2Proof.Machine

/-! ### Answers (R72) -/

/-- The word of a refusal (R72). -/
def Answer.word (a : Answer) : NoWord :=
  match a.reason with
  | some r => .reason r
  | none => .status a.status

/-- The record that answers a console request (R72). -/
def Answer.consoleReply (a : Answer) : ConsoleReply :=
  if a.status = .ok then .ok else .no a.word

/-- A reply waits to be sent (R72, R74). -/
def addReply (r : ConsoleReply) (s : State) : State :=
  { s with console.replies := s.console.replies ++ [r] }

/-- The answer to a console request: its record waits, and a refusal sets line 2 to its word (R72). -/
def answerConsole (a : Answer) (s : State) : State :=
  let t := addReply a.consoleReply s
  if a.status = .ok then t else setLine2 (.refusal a.word) t

/-- The answer to a console PLAN: once accepted, line 2 shows the granted preset (R72). -/
def answerPlan (a : Answer) (s : State) : State :=
  let t := answerConsole a s
  if a.status = .ok then setLine2 (.granted (beNat a.fields)) t else t

/-- NO FORM (R70, R71): line 2 shows the word as for every refusal (notes/assumptions/11.md). -/
def answerForm (s : State) : State :=
  setLine2 (.refusal .form) (addReply (.no .form) s)

/-! ### Records (R70, R71, R74) -/

/-- The buffer is emptied at the moment its record is taken (R70). -/
def emptyBuffer (s : State) : State := { s with console.buffer := [] }

/-- Four replies wait (R74). -/
def State.repliesFull (s : State) : Bool := Config.consoleReplySize ≤ s.console.replies.length

/-- A carriage return now takes a record: the port reads characters and its buffer is not empty
(R70). -/
def State.recordReady (s : State) : Bool :=
  s.running && !s.console.dropping && !s.console.buffer.isEmpty

/-- The request that the record in the buffer spells, when a carriage return now turns it into one
(R70, R71, R74). -/
def State.consoleRequest (s : State) : Option ConsoleRequest :=
  if s.recordReady && !s.repliesFull then parseRecord s.console.buffer else none

/-- A console record's request goes to its owner, and its answer back to the console (R71, R72). -/
def runConsole (owner : Owner) (s : State) : State :=
  let r := owner (emptyBuffer s)
  answerConsole r.2 r.1

/-- A console PLAN (R71, R72). -/
def runConsolePlan (owner : Owner) (s : State) : State :=
  let r := owner (emptyBuffer s)
  answerPlan r.2 r.1

/-- The request of a console record (section 4.8.1). -/
def runRequest : ConsoleRequest → State → State
  | .card c => runConsole (presentCard c)
  | .veh v => runConsole (nameVehicle v)
  | .plan c r a v => runConsolePlan (planCompartment c r a v)
  | .go a => runConsole (startArm a)
  | .halt a => runConsole (stopArm a)
  | .again a => runConsole (resumeArm a)
  | .done => runConsole (endLoad 1)

/-- A carriage return takes the record in the buffer (R70, R71, R74). -/
def takeRecord (s : State) : State :=
  if s.repliesFull then emptyBuffer s
  else
    match parseRecord s.console.buffer with
    | some q => runRequest q s
    | none => answerForm (emptyBuffer s)

/-- The carriage return that ends a record whose characters were dropped (R70): NO FORM, unless four
replies wait (R74, notes/assumptions/10.md). -/
def endDropping (s : State) : State :=
  let t := { s with console.dropping := false }
  if t.repliesFull then t else answerForm t

/-- A character of the console line (R70). -/
def takeCharacter (c : Byte) (s : State) : State :=
  if c = 0x0A then s
  else if s.console.dropping then (if c = 0x0D then endDropping s else s)
  else if c = 0x0D then (if s.console.buffer.isEmpty then s else takeRecord s)
  else if s.console.buffer.length < Config.consoleBufferSize then
    { s with console.buffer := s.console.buffer ++ [c] }
  else { s with console.buffer := [], console.dropping := true }

/-- CONSOLE CHARACTER (R70). -/
def execConsoleCharacter (character : Byte) (s : State) : Result :=
  .next (if s.running then takeCharacter character s else s)

/-- A character that neither ends a record nor is dropped everywhere. -/
def ordinary (c : Byte) : Bool := c ≠ 0x0A && c ≠ 0x0D

/-- CONSOLE RECORD OVERFLOW (R70): the forty-first character, the characters dropped after it, and the
carriage return that ends them (notes/assumptions/10.md). -/
def execConsoleRecordOverflow (character : Byte) (rest : List Byte) (s : State) : Result :=
  .next (if s.running && !s.console.dropping
      && Config.consoleBufferSize ≤ s.console.buffer.length && ordinary character
      && rest.all (· ≠ 0x0D) then
    endDropping (emptyBuffer s)
  else s)

/-- CONSOLE MALFORMED RECORD (R71). -/
def execConsoleMalformedRecord (s : State) : Result :=
  .next (if s.recordReady && !s.repliesFull && (parseRecord s.console.buffer).isNone then
    answerForm (emptyBuffer s)
  else s)

/-- RECORD WHILE FOUR REPLIES WAIT (R74): the record is taken, turned into no request and not
answered. -/
def execRecordWhileFourRepliesWait (s : State) : Result :=
  .next (if s.recordReady && s.repliesFull then emptyBuffer s else s)

/-! ### Output (R74) -/

/-- The records of one console output, in their order (R74). -/
def Console.output (c : Console) : List ConsoleRecord :=
  c.replies.map .reply
    ++ (if c.sent1 = some c.line1 then [] else [.say1 c.line1])
    ++ (if c.sent2 = some c.line2 then [] else [.say2 c.line2])
    ++ (match c.prompt with
        | some p => if c.sentPrompt = some p then [] else [.ask p]
        | none => [])

/-- The port after its output: nothing waits, and the display is as sent; a prompt set to none leaves
the prompt last sent (R74). That one step sends the whole of it is DESIGN CHOICE
(notes/assumptions/42.md). -/
def Console.afterOutput (c : Console) : Console :=
  { c with
    replies := [], sent1 := some c.line1, sent2 := some c.line2
    sentPrompt := match c.prompt with | some p => some p | none => c.sentPrompt
    sent := c.output }

/-- CONSOLE OUTPUT (R74): the whole of what waits, in one step (DESIGN CHOICE, notes/assumptions/42.md). -/
def execConsoleOutput (s : State) : Result :=
  .next (if s.running then { s with console := s.console.afterOutput } else s)

/-! ### The requests that the console can make (section 4.8.1) -/

/-- PRESENT CARD, from the host or as CARD (R24, R71). -/
def execPresentCard (src : Source) (s : State) : Result :=
  match src with
  | .host f =>
    takeRequest 0x30 (fixedForm [5] fun
      | [card] => presentCard card
      | _ => refuse (.refused .badLength)) f s
  | .console =>
    match s.consoleRequest with
    | some (.card c) => .next (runConsole (presentCard c) s)
    | _ => .next s

/-- NAME VEHICLE, from the host or as VEH (R34, R71). -/
def execNameVehicle (src : Source) (s : State) : Result :=
  match src with
  | .host f =>
    takeRequest 0x31 (fixedForm [4] fun
      | [number] => nameVehicle number
      | _ => refuse (.refused .badLength)) f s
  | .console =>
    match s.consoleRequest with
    | some (.veh v) => .next (runConsole (nameVehicle v) s)
    | _ => .next s

/-- PLAN COMPARTMENT, from the host or as PLAN (R56, R71). -/
def execPlanCompartment (src : Source) (s : State) : Result :=
  match src with
  | .host f =>
    takeRequest 0x32 (fixedForm [1, 2, 1, 2] fun
      | [compartment, recipe, arm, preset] => planCompartment compartment recipe arm preset
      | _ => refuse (.refused .badLength)) f s
  | .console =>
    match s.consoleRequest with
    | some (.plan c r a v) => .next (runConsolePlan (planCompartment c r a v) s)
    | _ => .next s

/-- END LOAD, from the host or as DONE with cause DRIVER (R64, R71). -/
def execEndLoad (src : Source) (s : State) : Result :=
  match src with
  | .host f =>
    takeRequest 0x33 (fixedForm [1] fun
      | [cause] => endLoad cause
      | _ => refuse (.refused .badLength)) f s
  | .console =>
    match s.consoleRequest with
    | some .done => .next (runConsole (endLoad 1) s)
    | _ => .next s

/-- START ARM, from the host or as GO (R104, R71). -/
def execStartArm (src : Source) (s : State) : Result :=
  match src with
  | .host f =>
    takeRequest 0x48 (fixedForm [1] fun
      | [arm] => startArm arm
      | _ => refuse (.refused .badLength)) f s
  | .console =>
    match s.consoleRequest with
    | some (.go a) => .next (runConsole (startArm a) s)
    | _ => .next s

/-- STOP ARM, from the host or as HALT (R116, R71). -/
def execStopArm (src : Source) (s : State) : Result :=
  match src with
  | .host f =>
    takeRequest 0x49 (fixedForm [1] fun
      | [arm] => stopArm arm
      | _ => refuse (.refused .badLength)) f s
  | .console =>
    match s.consoleRequest with
    | some (.halt a) => .next (runConsole (stopArm a) s)
    | _ => .next s

/-- RESUME ARM, from the host or as AGAIN (R117, R71). -/
def execResumeArm (src : Source) (s : State) : Result :=
  match src with
  | .host f =>
    takeRequest 0x4A (fixedForm [1] fun
      | [arm] => resumeArm arm
      | _ => refuse (.refused .badLength)) f s
  | .console =>
    match s.consoleRequest with
    | some (.again a) => .next (runConsole (resumeArm a) s)
    | _ => .next s

end Sys2Proof.Machine
end

