-- ==== Sys2Proof/Machine/StartUp.lean ====
section
/-! DEFINITION. Supply, the backup memory and start-up (chapter 11): loss of supply, RESET, the
validity marker, cold start, warm start with its close-out, and what follows the start-up event; and
the output pins as the state drives them. -/

namespace Sys2Proof.Machine

/-! ### Loss of supply and RESET (R183, R184) -/

/-- The arm's valve is CLOSED and its pump permissive off (R100, R184). -/
def Arm.shut (a : Arm) : Arm := { a with control.valve := .closed, control.pump := false }

/-- Work stops where it is: every valve CLOSED, every pump permissive off, no reply on the line (R100,
R183, R184). The solenoids are off while the part does not run (`State.inj`). That a reply being sent is
dropped, so that LDIR falls at once and a frame begun is lost, is DESIGN CHOICE
(notes/assumptions/41.md). -/
def stopWork (supply : Supply) (s : State) : State :=
  { s with
    arms := s.arms.map Arm.shut
    port.reply := none, port.receiver := .hunting
    backup.supply := supply }

/-- POWER FAIL (R183). -/
def execPowerFail (s : State) : Result := .next (stopWork .off s)

/-- RESET ASSERTED (R184): without supply there is nothing to hold. -/
def execResetAsserted (s : State) : Result :=
  .next (if s.backup.supply = .off then s else stopWork .reset s)

/-- MARKER LOST (R184): VDD keeps the memory while it is present. -/
def execMarkerLost (s : State) : Result :=
  .next (if s.backup.supply = .off then { s with backup.markerGood := false } else s)

/-! ### What follows the start-up event (R74, R79, R126) -/

/-- The input at its start-up value, its pin levels as they are (R126). -/
def Debounce.restart (i : Input) (d : Debounce) : Debounce := .at d.levels (startUpValue i)

/-- The comparison with the raw value once the start-up event has been posted (R126). -/
def Debounce.compare (i : Input) (d : Debounce) : Debounce :=
  if rawValue i d.levels = d.accepted then d else d.rawChange (rawValue i d.levels)

/-- Change the record of every input. -/
def Monitor.mapInputs (f : Input → Debounce → Debounce) (m : Monitor) : Monitor :=
  inputs.foldl (fun m i => m.setInput i (f i (m.input i))) m

/-- The monitor at start-up, its pin levels as they are (R126, R128, R135). -/
def Monitor.restart (m : Monitor) : Monitor :=
  { m.mapInputs Debounce.restart with permissiveOk := false, rackStop := false }

/-- The sample timer of a configured arm starts from zero (R79). -/
def Arm.startSampling (a : Arm) : Arm :=
  { a with sampleTimer := if a.config.isSome then .start 100 else .stopped }

/-- After the start-up event has been posted: inputs are compared and sample timers start (R79,
R126). -/
def afterStartUp (s : State) : State :=
  { s with
    monitor := s.monitor.mapInputs Debounce.compare
    arms := s.arms.map Arm.startSampling }

/-! ### Cold start (R185) -/

/-- A cold start: every retained record takes its default, the marker is made good, and COLD START is
posted; the straps are read (R3, R185). -/
def coldStart (address : Byte) (baud : BitVec 2) (s : State) : State :=
  afterStartUp (post .coldStart 0 0 0
    { State.cold with
      port.station := address, port.baud := baud
      monitor := s.monitor.restart
      choices := s.choices, pending := s.pending })

/-! ### Warm start (R186) -/

/-- The arm's transient records take their start-up values, and owed counts become 0 (R100, R186). Stage base
and close gross, to which no rule gives one, stay (DESIGN CHOICE, notes/assumptions/37.md). -/
def Arm.warm (a : Arm) : Arm :=
  { a with
    sampleTimer := .stopped, trailingTimer := .stopped, result := none
    channel := { MeterChannel.cleared with remainder := a.channel.remainder }
    control.valve := .closed, control.pump := false, control.flowTarget := 0
    control.settle := 0, control.debtReduced := false
    control.closingTimer := .stopped, control.noFlowTimer := .stopped
    components := a.components.map Component.discard }

/-- The injector after a warm start: its configuration and start-up values (R138). -/
def Injector.warm (j : Injector) : Injector :=
  { Injector.cold with
    config := j.config, diverter := (j.config.map (·.firstArm)).getD Injector.cold.diverter }

/-- The load state of an interrupted identification becomes NO_LOAD (R50, R186). -/
def LoadState.warm : LoadState → LoadState
  | .referred | .vehicleWait => .noLoad
  | l => l

/-- Every transient record takes its start-up value, and the count day is compared (R36, R186). -/
def warmReset (address : Byte) (baud : BitVec 2) (s : State) : State :=
  let t := { s with
    port := { RackPort.cold with
      station := address, baud := baud, silenceLimit := s.port.silenceLimit, clock := s.port.clock }
    console := Console.started
    permit.referral := .empty, permit.referralTimer := .stopped, permit.held := none
    load.state := s.load.state.warm
    load.identTimer := .stopped, load.idleTimer := .stopped
    capture := none
    arms := s.arms.map Arm.warm
    monitor := s.monitor.restart
    injectors := s.injectors.map Injector.warm
    backup.supply := .running }
  if t.day = t.permit.countDay then t else dayChange t

/-- An arm in a batch, not a run, beyond ARMED: it makes an INTERRUPTED line (R187). -/
def Arm.interrupted (a : Arm) : Bool := a.inBatch

/-- The close-out of one arm (R187): every arm ends IDLE. The line of a batch cut before its first
sample takes FWA and CTL as they stood (DEDUCED, notes/assumptions/39.md). -/
def closeOutArm (n : ArmId) (s : State) : State :=
  let t :=
    if (s.arm n).interrupted then makeLine .interrupted n s
    else if (s.arm n).inRun then s
    else cancelArmed n s
  t.updArm n Arm.toIdle

/-- An OPEN or ENDING load is sealed with end cause POWER_INTERRUPTED; its LOAD SEALED is posted later
(R187). Either way the load state is NO_LOAD and no record stands. -/
def closeOutLoad (s : State) : State :=
  let t :=
    match s.load.record with
    | some r => storeNote { r with endCause := some .powerInterrupted } .powerInterrupted s
    | none => s
  { t with load.state := .noLoad, console := Console.started }

/-- BATCH ENDED for an INTERRUPTED line (R187). -/
def postInterrupted (n : ArmId) (s : State) : State :=
  post .batchEnded (armNumber n) BatchOutcome.interrupted.code (s.arm n).figures.gross s

/-- LOAD SEALED of a warm start, when a load was sealed (R187). -/
def postSealed (r : Option OpenLoad) (s : State) : State :=
  match r with
  | some r => post .loadSealed 0 EndCause.powerInterrupted.code r.note s
  | none => s

/-- A warm start: transient records, close-out, events, and what follows them (R186, R187). -/
def warmStart (address : Byte) (baud : BitVec 2) (s : State) : State :=
  let w := warmReset address baud s
  let cut := armIds.filter fun n => (w.arm n).interrupted
  let c := closeOutLoad (forArms closeOutArm w)
  afterStartUp (postSealed w.load.record
    (cut.foldl (fun s n => postInterrupted n s) (post .powerRecovered 0 0 cut.length c)))

/-- START UP (R184): a warm start with a good marker, a cold start with a bad one. It is taken from
any state of the supply (notes/assumptions/24.md). -/
def execStartUp (address : Byte) (baud : BitVec 2) (s : State) : Result :=
  .next (if s.backup.markerGood then warmStart address baud s else coldStart address baud s)

/-! ### Output pins (00_scope.md "Pins by function") -/

/-- ATTN (R8). That it is released from the loss of supply or RESET on, with records still in the queue, is
DESIGN CHOICE (notes/assumptions/44.md). -/
def State.attn (s : State) : Bool := s.running && !s.port.events.isEmpty

/-- LDIR (R3). -/
def State.ldir (s : State) : Bool := s.running && s.port.reply.isSome

/-- VOPN of an arm (R110, R184). -/
def State.vopn (s : State) (n : ArmId) : Bool := s.running && (s.arm n).control.valve = .openStep

/-- VCLS of an arm: driven by CLOSE_STEP and CLOSED, and while the part does not run (R100, R110,
R184). -/
def State.vcls (s : State) (n : ArmId) : Bool :=
  !s.running || (s.arm n).control.valve = .closeStep || (s.arm n).control.valve = .closed

/-- PMP of an arm (R110, R184). -/
def State.pmp (s : State) (n : ArmId) : Bool := s.running && (s.arm n).control.pump

/-- The solenoid of an injector is open: in the OPEN phase of a shot or a proving shot (R146, R148,
R167). -/
def InjectorState.solenoid : InjectorState → Bool
  | .shot r => r.phase = .opened
  | .proving p => p.shot.any (·.phase = .opened)
  | _ => false

/-- INJ of an injector (R138, R146, R184). -/
def State.inj (s : State) (i : InjId) : Bool := s.running && (s.injector i).state.solenoid

/-- DIV of an injector: high when its diverter stands at the second arm of its set, and low when it stands
at the first, with one arm in the set, and when not configured, at all times (R138). That the diverter
keeps its position while the part does not run is DEDUCED (notes/assumptions/38.md). -/
def State.div (s : State) (i : InjId) : Bool :=
  match (s.injector i).config with
  | some c => c.secondArm == some (s.injector i).diverter
  | none => false

end Sys2Proof.Machine
end

