-- ==== Sys2Proof/Machine/Tick.lean ====
section
/-! DEFINITION. A millisecond in which no command comes: the running timers advance (section 1.6,
notes/assumptions/4.md). -/

namespace Sys2Proof.Machine

/-- A millisecond at an arm. -/
def Arm.tick (a : Arm) : Arm :=
  { a with
    sampleTimer := a.sampleTimer.tick, trailingTimer := a.trailingTimer.tick
    control.closingTimer := a.control.closingTimer.tick
    control.noFlowTimer := a.control.noFlowTimer.tick }

/-- A millisecond at an input. -/
def Debounce.tick (d : Debounce) : Debounce := { d with window := d.window.tick }

/-- A millisecond at an injector. -/
def InjectorState.tick : InjectorState → InjectorState
  | .shot r => .shot { r with timer := r.timer.tick }
  | .proving p => .proving { p with shot := p.shot.map fun r => { r with timer := r.timer.tick } }
  | st => st

/-- A millisecond passes: every running timer advances, and nothing else changes; a timer that has run
its time waits for the command that says so. While the part does not run no timer does. -/
def State.tick (s : State) : State :=
  if s.running then
    { s with
      port.silence := s.port.silence.tick
      permit.referralTimer := s.permit.referralTimer.tick
      load.identTimer := s.load.identTimer.tick, load.idleTimer := s.load.idleTimer.tick
      arms := s.arms.map Arm.tick
      monitor := s.monitor.mapInputs fun _ => Debounce.tick
      injectors := s.injectors.map fun j => { j with state := j.state.tick } }
  else s

end Sys2Proof.Machine
end

