-- ==== Sys2Proof/Machine/Dispatch.lean ====
section
/-! DEFINITION. The meaning of every command: one arm per constructor of `Instr`. -/

namespace Sys2Proof.Machine

def exec (i : Instr) (s : State) : Host.Outcome State Fault Refusal :=
  match i with
  | .poll f => Sys2Proof.Machine.execPoll f s
  | .nextEvent f => Sys2Proof.Machine.execNextEvent f s
  | .linkReset f => Sys2Proof.Machine.execLinkReset f s
  | .setClock f => Sys2Proof.Machine.execSetClock f s
  | .setLink f => Sys2Proof.Machine.execSetLink f s
  | .putDriver f => Sys2Proof.Machine.execPutDriver f s
  | .dropDriver f => Sys2Proof.Machine.execDropDriver f s
  | .getDriver f => Sys2Proof.Machine.execGetDriver f s
  | .putVehicle f => Sys2Proof.Machine.execPutVehicle f s
  | .dropVehicle f => Sys2Proof.Machine.execDropVehicle f s
  | .getVehicle f => Sys2Proof.Machine.execGetVehicle f s
  | .setFilter f => Sys2Proof.Machine.execSetFilter f s
  | .answerReferral f => Sys2Proof.Machine.execAnswerReferral f s
  | .setAuthority f => Sys2Proof.Machine.execSetAuthority f s
  | .putAccount f => Sys2Proof.Machine.execPutAccount f s
  | .setAllocation f => Sys2Proof.Machine.execSetAllocation f s
  | .getAccount f => Sys2Proof.Machine.execGetAccount f s
  | .dropAccount f => Sys2Proof.Machine.execDropAccount f s
  | .presentCard src => Sys2Proof.Machine.execPresentCard src s
  | .nameVehicle src => Sys2Proof.Machine.execNameVehicle src s
  | .planCompartment src => Sys2Proof.Machine.execPlanCompartment src s
  | .endLoad src => Sys2Proof.Machine.execEndLoad src s
  | .getLoad f => Sys2Proof.Machine.execGetLoad f s
  | .setLoadTimes f => Sys2Proof.Machine.execSetLoadTimes f s
  | .putProduct f => Sys2Proof.Machine.execPutProduct f s
  | .putArm f => Sys2Proof.Machine.execPutArm f s
  | .putMeterCurve f => Sys2Proof.Machine.execPutMeterCurve f s
  | .getArm f => Sys2Proof.Machine.execGetArm f s
  | .getTotals f => Sys2Proof.Machine.execGetTotals f s
  | .readMeterFault f => Sys2Proof.Machine.execReadMeterFault f s
  | .setBay f => Sys2Proof.Machine.execSetBay f s
  | .startArm src => Sys2Proof.Machine.execStartArm src s
  | .stopArm src => Sys2Proof.Machine.execStopArm src s
  | .resumeArm src => Sys2Proof.Machine.execResumeArm src s
  | .getPermissives f => Sys2Proof.Machine.execGetPermissives f s
  | .clearRackStop f => Sys2Proof.Machine.execClearRackStop f s
  | .putInjector f => Sys2Proof.Machine.execPutInjector f s
  | .putRecipe f => Sys2Proof.Machine.execPutRecipe f s
  | .getInjector f => Sys2Proof.Machine.execGetInjector f s
  | .clearInjectorFault f => Sys2Proof.Machine.execClearInjectorFault f s
  | .dropRecipe f => Sys2Proof.Machine.execDropRecipe f s
  | .beginMeterRun f => Sys2Proof.Machine.execBeginMeterRun f s
  | .meterResult f => Sys2Proof.Machine.execMeterResult f s
  | .beginInjectorProving f => Sys2Proof.Machine.execBeginInjectorProving f s
  | .proveShot f => Sys2Proof.Machine.execProveShot f s
  | .injectorResult f => Sys2Proof.Machine.execInjectorResult f s
  | .endProving f => Sys2Proof.Machine.execEndProving f s
  | .readNote f => Sys2Proof.Machine.execReadNote f s
  | .releaseNote f => Sys2Proof.Machine.execReleaseNote f s
  | .unknownKind kind f => Sys2Proof.Machine.execUnknownKind kind f s
  | .discardedFrame kind f => Sys2Proof.Machine.execDiscardedFrame kind f s
  | .interByteGap => Sys2Proof.Machine.execInterByteGap s
  | .silenceTimerExpiry => Sys2Proof.Machine.execSilenceTimerExpiry s
  | .clockAdvance => Sys2Proof.Machine.execClockAdvance s
  | .referralTimerExpiry => Sys2Proof.Machine.execReferralTimerExpiry s
  | .identificationTimerExpiry => Sys2Proof.Machine.execIdentificationTimerExpiry s
  | .idleTimerExpiry => Sys2Proof.Machine.execIdleTimerExpiry s
  | .meterPulse arm channel => Sys2Proof.Machine.execMeterPulse arm channel s
  | .sample arm probe => Sys2Proof.Machine.execSample arm probe s
  | .noFlowTimerExpiry arm => Sys2Proof.Machine.execNoFlowTimerExpiry arm s
  | .closingTimerExpiry arm => Sys2Proof.Machine.execClosingTimerExpiry arm s
  | .rawInputChange input levels => Sys2Proof.Machine.execRawInputChange input levels s
  | .debounceWindowExpiry input => Sys2Proof.Machine.execDebounceWindowExpiry input s
  | .additivePulse injector => Sys2Proof.Machine.execAdditivePulse injector s
  | .shotTimerExpiry injector => Sys2Proof.Machine.execShotTimerExpiry injector s
  | .tailTimerExpiry injector => Sys2Proof.Machine.execTailTimerExpiry injector s
  | .trailingTimerExpiry arm => Sys2Proof.Machine.execTrailingTimerExpiry arm s
  | .proveShotDone injector => Sys2Proof.Machine.execProveShotDone injector s
  | .consoleRecordOverflow character rest => Sys2Proof.Machine.execConsoleRecordOverflow character rest s
  | .consoleMalformedRecord => Sys2Proof.Machine.execConsoleMalformedRecord s
  | .consoleOutput => Sys2Proof.Machine.execConsoleOutput s
  | .powerFail => Sys2Proof.Machine.execPowerFail s
  | .markerLost => Sys2Proof.Machine.execMarkerLost s
  | .resetAsserted => Sys2Proof.Machine.execResetAsserted s
  | .startUp address baud => Sys2Proof.Machine.execStartUp address baud s
  | .leadByteReceived => Sys2Proof.Machine.execLeadByteReceived s
  | .framingError => Sys2Proof.Machine.execFramingError s
  | .bodyLengthAbove240 => Sys2Proof.Machine.execBodyLengthAbove240 s
  | .replyEnd => Sys2Proof.Machine.execReplyEnd s
  | .consoleCharacter character => Sys2Proof.Machine.execConsoleCharacter character s
  | .recordWhileFourRepliesWait => Sys2Proof.Machine.execRecordWhileFourRepliesWait s

end Sys2Proof.Machine
end

