-- ==== Sys2Proof/WellFormed.lean ====
section
/-! DEFINITION. Which commands can come: the forms that the outside can supply (section 1.7.1, R4,
R70, section 7.1). -/

namespace Sys2Proof

/-- A frame's body has 0 to 240 bytes (section 1.7.1). -/
def Frame.wellFormed (f : Frame) : Bool := f.body.length ≤ 240

/-- A request comes in a frame, or stands in the console buffer. -/
def Source.wellFormed : Source → Bool
  | .host f => f.wellFormed
  | .console => true

/-- The number of pins of an input (R124). -/
def Input.pins : Input → Nat
  | .ground | .vapour | .estop | .stow _ => 1
  | .overfill => 2
  | .coupler _ => 4

/-- The kinds that the request catalogue of section 1.3 gives, by their high four bits. -/
def definedKind (kind : Byte) : Bool :=
  let low := kind.toNat % 16
  match kind.toNat / 16 with
  | 0 => 1 ≤ low && low ≤ 5
  | 1 => low ≤ 8
  | 2 => low ≤ 3
  | 3 => low ≤ 5
  | 4 => low ≤ 6 || (8 ≤ low && low ≤ 10)
  | 5 => low ≤ 1
  | 6 => low ≤ 4 || (8 ≤ low && low ≤ 13)
  | 7 => low ≤ 1
  | _ => false

/-- A command in a form that the outside can supply: a frame has a length the format allows, an
unknown kind is not a defined one, an input has no level where it has no pin, and the characters of an
overflowing record are not those that end a record or are dropped (R1, R4, R70, R124). -/
def Instr.wellFormed : Instr → Bool
  | .poll f | .nextEvent f | .linkReset f | .setClock f | .setLink f => f.wellFormed
  | .putDriver f | .dropDriver f | .getDriver f | .putVehicle f | .dropVehicle f => f.wellFormed
  | .getVehicle f | .setFilter f | .answerReferral f | .setAuthority f => f.wellFormed
  | .putAccount f | .setAllocation f | .getAccount f | .dropAccount f => f.wellFormed
  | .presentCard src | .nameVehicle src | .planCompartment src | .endLoad src => src.wellFormed
  | .getLoad f | .setLoadTimes f | .putProduct f | .putArm f | .putMeterCurve f => f.wellFormed
  | .getArm f | .getTotals f | .readMeterFault f | .setBay f => f.wellFormed
  | .startArm src | .stopArm src | .resumeArm src => src.wellFormed
  | .getPermissives f | .clearRackStop f | .putInjector f | .putRecipe f => f.wellFormed
  | .getInjector f | .clearInjectorFault f | .dropRecipe f | .beginMeterRun f => f.wellFormed
  | .meterResult f | .beginInjectorProving f | .proveShot f | .injectorResult f => f.wellFormed
  | .endProving f | .readNote f | .releaseNote f => f.wellFormed
  | .unknownKind kind f => f.wellFormed && !definedKind kind
  | .discardedFrame _ f => f.wellFormed
  | .rawInputChange input levels => levels.toNat < 2 ^ input.pins
  | .consoleRecordOverflow character rest =>
    (character != 0x0A && character != 0x0D) && rest.all (· != 0x0D)
  | .interByteGap | .silenceTimerExpiry | .clockAdvance | .referralTimerExpiry => true
  | .identificationTimerExpiry | .idleTimerExpiry => true
  | .meterPulse _ _ | .sample _ _ | .noFlowTimerExpiry _ | .closingTimerExpiry _ => true
  | .debounceWindowExpiry _ | .additivePulse _ | .shotTimerExpiry _ | .tailTimerExpiry _ => true
  | .trailingTimerExpiry _ | .proveShotDone _ => true
  | .consoleMalformedRecord | .consoleOutput | .powerFail | .markerLost | .resetAsserted => true
  | .startUp _ _ | .leadByteReceived | .framingError | .bodyLengthAbove240 | .replyEnd => true
  | .consoleCharacter _ | .recordWhileFourRepliesWait => true

end Sys2Proof
end

