-- ==== Sys2Proof/Safety.lean ====
section
/-! DEFINITION. What counts as a sound state, and the forms of the requests, in the terms that the
statements use. -/

namespace Sys2Proof.Machine

/-! ### Requests as the catalogue lists them (section 1.3) -/

/-- The step answers a request with a reply frame and the state after it (R5). -/
def answered (kind : Byte) (f : Frame) (a : Answer) (t : State) : Result :=
  .next (sendReply kind f.tag a t)

/-- A request of fixed length: its kind, its command, and the sizes of its fields. -/
structure FixedRequest where
  kind : Byte
  command : Frame → Instr
  sizes : List Nat

/-- A request of variable length: its kind, its command, where its count field stands, how wide it is,
the most it may hold, and the sizes of the fields that a count requires. -/
structure CountedRequest where
  kind : Byte
  command : Frame → Instr
  offset : Nat
  width : Nat
  most : Nat
  sizes : Nat → List Nat

/-- The requests of fixed length (section 1.3). -/
def fixedRequests : List FixedRequest :=
  [⟨0x01, .poll, []⟩, ⟨0x02, .nextEvent, []⟩, ⟨0x03, .linkReset, []⟩, ⟨0x04, .setClock, [4]⟩,
   ⟨0x05, .setLink, [1]⟩, ⟨0x10, .putDriver, [5, 1, 2, 4, 1, 4, 1]⟩, ⟨0x11, .dropDriver, [5]⟩,
   ⟨0x12, .getDriver, [5]⟩, ⟨0x14, .dropVehicle, [4]⟩, ⟨0x15, .getVehicle, [4]⟩,
   ⟨0x17, .answerReferral, [5, 1, 4, 1, 4]⟩, ⟨0x18, .setAuthority, [1, 1]⟩,
   ⟨0x20, .putAccount, [4, 1]⟩, ⟨0x21, .setAllocation, [4, 1, 4]⟩, ⟨0x22, .getAccount, [4]⟩,
   ⟨0x23, .dropAccount, [4]⟩, ⟨0x30, fun f => .presentCard (.host f), [5]⟩,
   ⟨0x31, fun f => .nameVehicle (.host f), [4]⟩,
   ⟨0x32, fun f => .planCompartment (.host f), [1, 2, 1, 2]⟩,
   ⟨0x33, fun f => .endLoad (.host f), [1]⟩, ⟨0x34, .getLoad, []⟩, ⟨0x35, .setLoadTimes, [2, 1]⟩,
   ⟨0x40, .putProduct, [1, 2, 1, 2, 2, 2, 2, 2, 2, 1]⟩,
   ⟨0x41, .putArm, [1, 1, 4, 1, 2, 2, 2, 2, 2, 1, 1, 2, 4, 1]⟩, ⟨0x43, .getArm, [1]⟩,
   ⟨0x44, .getTotals, [1]⟩, ⟨0x45, .readMeterFault, []⟩, ⟨0x46, .setBay, [2, 1]⟩,
   ⟨0x48, fun f => .startArm (.host f), [1]⟩, ⟨0x49, fun f => .stopArm (.host f), [1]⟩,
   ⟨0x4A, fun f => .resumeArm (.host f), [1]⟩, ⟨0x50, .getPermissives, []⟩,
   ⟨0x51, .clearRackStop, []⟩, ⟨0x60, .putInjector, [1, 2, 4, 2, 2, 1, 1, 1, 1, 1, 1, 2]⟩,
   ⟨0x62, .getInjector, [1]⟩, ⟨0x63, .clearInjectorFault, [1]⟩, ⟨0x64, .dropRecipe, [2]⟩,
   ⟨0x68, .beginMeterRun, [1, 2]⟩, ⟨0x69, .meterResult, [1, 1, 4]⟩,
   ⟨0x6A, .beginInjectorProving, [1]⟩, ⟨0x6B, .proveShot, [1]⟩, ⟨0x6C, .injectorResult, [1, 4]⟩,
   ⟨0x6D, .endProving, [1, 1]⟩, ⟨0x70, .readNote, [1]⟩, ⟨0x71, .releaseNote, [4]⟩]

/-- The requests of variable length (section 1.3). -/
def countedRequests : List CountedRequest :=
  [⟨0x13, .putVehicle, 6, 1, 8, fun n => [4, 2, 1] ++ (List.replicate n [2, 1]).flatten⟩,
   ⟨0x16, .setFilter, 1, 2, 256, fun n => [1, 2] ++ List.replicate (ceilDiv n 8) 1⟩,
   ⟨0x42, .putMeterCurve, 1, 1, 4, fun n => [1, 1] ++ (List.replicate n [2, 2]).flatten⟩,
   ⟨0x61, .putRecipe, 3, 1, 3, fun n => [2, 1, 1] ++ (List.replicate n [1, 2]).flatten⟩]

/-! ### Flow (R110, R113, R114, R128) -/

/-- The arm commands nothing: the valve CLOSED, the pump permissive off, the flow target 0 (R109,
R110). -/
def Arm.atRest (a : Arm) : Prop :=
  a.control.valve = .closed ∧ a.control.pump = false ∧ a.control.flowTarget = 0

/-- The bay allows an arm to flow: the bay permissive is OK, the arm is DEPLOYED and its coupler code
is the one wanted (R110, R117). -/
def flowAllowed (s : State) (n : ArmId) : Prop :=
  s.monitor.permissiveOk = true ∧ s.monitor.deployed n = true
    ∧ s.monitor.couplerCode n = (s.arm n).wantedCode

/-- Flow is safe: the bay permissive is the one its terms give, an arm outside the flowing states
commands nothing, an arm in a flowing state is allowed to flow, and an arm in a meter run is beyond
ARMED (R110, R113, R114, R128). -/
def FlowSafe (s : State) : Prop :=
  s.monitor.permissiveOk = bayPermissiveOf s.monitor s.bay.vapourRequired
    ∧ ∀ n : ArmId,
        ((s.arm n).flowing = false → (s.arm n).atRest)
          ∧ ((s.arm n).flowing = true → flowAllowed s n)
          ∧ ((s.arm n).inRun = true → (s.arm n).beyondArmed = true)

/-! ### Accounts (R38) -/

/-- The reserved total does not exceed the remaining allocation (R38). -/
def Allocation.sound (a : Allocation) : Prop :=
  match a.remaining with
  | .litres n => a.reserved ≤ n
  | .unlimited => True

/-- No two entries have the same number, and no class has more reserved than remains (section 3.1,
R38). -/
def AccountsSound (s : State) : Prop :=
  (s.accounts.map (·.number)).Nodup ∧ ∀ a ∈ s.accounts, ∀ c : ClassId, (a.classes.get c).sound

/-- The litres that plan entries reserve in a class: the sum of the reservations of the entries whose
recipe's base product is of the class (R38). -/
def State.reservedBy (s : State) (plan : List PlanEntry) (c : ClassId) : Nat :=
  ((plan.filter fun e => s.recipeClass e.recipe = some c).map (·.reservation)).sum

/-- The reserved total of a class of an account is the sum of the reservations of the open load's plan
entries charged to it, and 0 for an account that the open load does not name (R38); a load with plan
entries names an account of the table. -/
def ReservedSound (s : State) : Prop :=
  (∀ a ∈ s.accounts, ∀ c : ClassId, (a.classes.get c).reserved =
      match s.load.record with
      | some r => if r.account = a.number then s.reservedBy r.plan c else 0
      | none => 0)
    ∧ ∀ r, s.load.record = some r → r.plan ≠ [] → (s.account r.account).isSome = true

/-- The accounts of `u` are those of `s` after the reservations of some plan entries charged to one
account have been released (R45): each class of that account has so much less reserved, and nothing
else of any account has changed. -/
def Released (s u : State) (account : Nat) (entries : List PlanEntry) : Prop :=
  u.accounts.length = s.accounts.length
    ∧ ∀ (k : Nat) (a b : Account), s.accounts[k]? = some a → u.accounts[k]? = some b →
        b.number = a.number ∧ b.hold = a.hold
          ∧ ∀ c : ClassId, (b.classes.get c).remaining = (a.classes.get c).remaining
              ∧ (b.classes.get c).reserved
                = (a.classes.get c).reserved
                    - (if a.number = account then s.reservedBy entries c else 0)

/-! ### Metering (R90, R96) -/

/-- The gross totalizer of each arm is batched, proving and unbatched gross together (R96). -/
def TotalsSound (s : State) : Prop :=
  ∀ n : ArmId, (s.arm n).totals.gross
    = (s.arm n).totals.batched + (s.arm n).totals.proving + (s.arm n).totals.unbatched

/-- The gross increment of an arm's next sample (R80). -/
def Arm.nextIncrement (a : Arm) : Nat :=
  match a.config with
  | some c =>
    grossNum a.channel.pulsesA (meterFactor a.curve a.channel.rate) a.channel.remainder / c.kFactor
  | none => 0

/-- A single-channel arm has no channel B pulses, and its B total is 0 in a batch or run (R79,
R90). -/
def SingleChannelSound (s : State) : Prop :=
  ∀ (n : ArmId) (c : ArmConfig), (s.arm n).config = some c → c.singleChannel = true →
    (s.arm n).channel.pulsesB = 0
      ∧ ((s.arm n).beyondArmed = true → (s.arm n).figures.bTotal = 0)

/-! ### Link and console (R3, R7, R13, R70, R74) -/

/-- At most 32 events wait, the receiver is HUNTING while LDIR is asserted, and the silence timer
does not run while the link is LOST (R3, R7, R13). -/
def PortSound (s : State) : Prop :=
  s.port.events.length ≤ 32
    ∧ (s.port.reply.isSome = true → s.port.receiver = .hunting)
    ∧ (s.port.link = .lost → s.port.silence.running = false)

/-- At most 40 characters stand in the buffer and none while characters are dropped, and at most four
replies wait (R70, R74). -/
def ConsoleSound (s : State) : Prop :=
  s.console.buffer.length ≤ 40 ∧ (s.console.dropping = true → s.console.buffer = [])
    ∧ s.console.replies.length ≤ 4

/-! ### Load, plan and notes (R50, R55, R170, R171) -/

/-- The open load record stands in OPEN and ENDING alone, and a referral is pending in REFERRED alone
(R28, R50, R53). -/
def LoadStateSound (s : State) : Prop :=
  (s.load.record.isSome = true ↔ s.load.state = .opened ∨ s.load.state = .ending)
    ∧ (s.permit.referral.pendingCard.isSome = true → s.load.state = .referred)

/-- The notes stand in strictly ascending number below the next note number, the open load's number is
the next one less one and above every stored number, and the notes with the load in progress are at
most 16 (R170, R171). -/
def NotesSound (s : State) : Prop :=
  (s.store.notes.map (·.number)).Pairwise (· < ·)
    ∧ (∀ t ∈ s.store.notes, t.number < s.store.next)
    ∧ (∀ r, s.load.record = some r →
        r.note + 1 = s.store.next ∧ ∀ t ∈ s.store.notes, t.number < r.note)
    ∧ s.store.notes.length + (if s.load.state = .noLoad then 0 else 1) ≤ Config.noteStoreSize
    ∧ (s.load.state = .referred ∨ s.load.state = .vehicleWait →
        s.store.next < Config.lastNoteNumber)

/-- The state of a plan entry and of its arm agree (R55). -/
def EntryAgrees (s : State) (e : PlanEntry) : Prop :=
  match e.state with
  | .armed => (s.arm e.arm).control.state = .armed
  | .active => (s.arm e.arm).beyondArmed = true

/-- Arms and plan entries are bound one to one: an arm is IDLE exactly when it has no plan entry and
no meter run, no arm and no compartment has two entries, an entry's arm is in no meter run and in the
state the entry says, a meter run stands in NO_LOAD alone, and every entry's recipe and base product
stand in their tables (R55, R75, R141). -/
def PlanSound (s : State) : Prop :=
  (s.plan.map (·.arm)).Nodup ∧ (s.plan.map (·.compartment)).Nodup
    ∧ (∀ n : ArmId, (s.arm n).control.state = .idle ↔
        ((s.arm n).inRun = false ∧ ∀ e ∈ s.plan, e.arm ≠ n))
    ∧ (∀ e ∈ s.plan, (s.arm e.arm).inRun = false ∧ EntryAgrees s e
        ∧ (s.recipeProduct e.recipe).isSome = true)
    ∧ (s.meterRun = true → s.load.state = .noLoad)

/-! ### Injectors and their shots (R103, R139, R143, R146) -/

/-- A shot in flight serves an arm of the injector's plumbing set whose batch uses the injector; the
diverter stands at that arm, it is the arm last served, and the target pulses are those of the shot
volume (R146). -/
def ShotSound (s : State) (i : InjId) (c : InjectorConfig) (r : Shot) : Prop :=
  c.reaches r.arm = true ∧ (s.arm r.arm).uses i = true ∧ (s.injector i).diverter = r.arm
    ∧ (s.injector i).lastServed = some r.arm ∧ r.target = targetPulses c

/-- The arm of a plan entry carries the entry in its binding, and an ACTIVE entry's batch has the
component records of its recipe's injectors, in order (R103, R143). -/
def EntryBound (s : State) (e : PlanEntry) : Prop :=
  (∃ basis, (s.arm e.arm).control.binding = some
      { compartment := e.compartment, recipe := e.recipe, preset := e.preset, basis := basis,
        reservation := e.reservation })
    ∧ (e.state = .active → ∀ r, s.recipe e.recipe = some r →
        (s.arm e.arm).components.map (·.injector) = r.components.map (·.injector))

/-- An injector that is not configured is IDLE, a configured one has a shot volume and a meter K in
their ranges, every shot in flight is the one the arbiter started, and every plan entry is bound to its
arm (R103, R138, R139, R143, R146). -/
def InjectorsSound (s : State) : Prop :=
  (∀ i, (s.injector i).config = none → (s.injector i).state = .idle)
    ∧ (∀ i c, (s.injector i).config = some c →
        1 ≤ c.shotMl ∧ c.shotMl ≤ 500 ∧ 100 ≤ c.meterK ∧ c.meterK ≤ 100000)
    ∧ (∀ i c r, (s.injector i).config = some c → (s.injector i).state = .shot r →
        ShotSound s i c r)
    ∧ ∀ e ∈ s.plan, EntryBound s e

end Sys2Proof.Machine
end

