-- ==== Sys2Proof/Certificates/Slice0/Obligations.lean ====
section
/-! DEFINITION. The statements for the provers. A statement about an accepted request says the whole
state after it, as an update of `frameTaken s` (the state in which a valid frame leaves the part,
statement `FramesEventsAndReplies`): whatever it does not name is unchanged. -/

open Sys2Proof Sys2Proof.Machine

/-! ### Reset and the step -/

/-- What reset leaves (R100, R185, R186); that State.reset stands after a first cold start with COLD
START posted is notes/assumptions/1.md, and that stage base and close gross are 0 in `ArmControl.cold`
notes/assumptions/37.md. -/
def Obligations.ResetLeavesColdStart : Prop :=
  State.reset.port.events = [{ kind := .coldStart, arm := 0, code := 0, value := 0, clock := 0 }]
    ∧ State.reset.port.overflow = false ∧ State.reset.port.link = .lost
    ∧ State.reset.port.silenceLimit = 10 ∧ State.reset.port.clock = 0
    ∧ State.reset.permit.drivers = [] ∧ State.reset.permit.vehicles = []
    ∧ State.reset.permit.filter = 0 ∧ State.reset.permit.mode = .localMode
    ∧ State.reset.permit.referralTimeout = 20 ∧ State.reset.permit.countDay = 0
    ∧ State.reset.accounts = [] ∧ State.reset.load.state = .noLoad
    ∧ State.reset.load.record = none ∧ State.reset.load.identTimeout = 60
    ∧ State.reset.load.idleTimeout = 20
    ∧ (∀ i, State.reset.products.get i = none) ∧ State.reset.recipes = []
    ∧ (∀ n, (State.reset.arm n).config = none ∧ (State.reset.arm n).curve = []
        ∧ (State.reset.arm n).totals = .zero ∧ (State.reset.arm n).figures = .zero
        ∧ (State.reset.arm n).channel.remainder = 0 ∧ (State.reset.arm n).control = .cold)
    ∧ (∀ i, State.reset.injector i = .cold)
    ∧ State.reset.bay = { ceiling := 0, vapourRequired := true }
    ∧ State.reset.store.notes = [] ∧ State.reset.store.next = 1
    ∧ State.reset.capture = none ∧ State.reset.monitor.permissiveOk = false
    ∧ State.reset.monitor.rackStop = false ∧ State.reset.pending = []

/-- A step takes the command at the front of the queue and executes it with the queue's rest. On an
empty queue a millisecond passes (notes/assumptions/4.md): a running timer below its time advances, and
the records, the clock and the events stay. -/
def Obligations.StepRunsFrontCommandOrIdles : Prop :=
  (∀ (c : Instr) (rest : List Instr) (s : State),
     s.pending = c :: rest → step s = exec c { s with pending := rest })
    ∧ ((∀ s : State, s.pending = [] → step s = .next s.tick)
         ∧ (∀ s : State, s.running = true →
             s.tick.port.silence = s.port.silence.tick
               ∧ s.tick.load.idleTimer = s.load.idleTimer.tick
               ∧ s.tick.load.identTimer = s.load.identTimer.tick
               ∧ s.tick.permit.referralTimer = s.permit.referralTimer.tick
               ∧ ∀ n, (s.tick.arm n).control.closingTimer = (s.arm n).control.closingTimer.tick
                   ∧ (s.tick.arm n).control.noFlowTimer = (s.arm n).control.noFlowTimer.tick
                   ∧ (s.tick.arm n).trailingTimer = (s.arm n).trailingTimer.tick)
         ∧ (∀ t : Timer, t.running = true → t.elapsed < t.limit →
             t.tick = { t with elapsed := t.elapsed + 1 })
         ∧ (∀ s : State, s.tick.port.events = s.port.events ∧ s.tick.port.clock = s.port.clock
             ∧ s.tick.permit.drivers = s.permit.drivers ∧ s.tick.accounts = s.accounts
             ∧ s.tick.load.record = s.load.record ∧ s.tick.load.state = s.load.state
             ∧ s.tick.recipes = s.recipes ∧ s.tick.store = s.store ∧ s.tick.pending = s.pending
             ∧ ∀ n, (s.tick.arm n).figures = (s.arm n).figures
                 ∧ (s.tick.arm n).control.state = (s.arm n).control.state
                 ∧ (s.tick.arm n).components = (s.arm n).components)
         ∧ (∀ s : State, s.running = false → s.tick = s))

/-- The invariants hold after reset. -/
def Obligations.InvariantsHoldAtReset : Prop :=
  FlowSafe State.reset ∧ AccountsSound State.reset ∧ PortSound State.reset
    ∧ ConsoleSound State.reset ∧ LoadStateSound State.reset ∧ NotesSound State.reset
    ∧ PlanSound State.reset ∧ ReservedSound State.reset ∧ TotalsSound State.reset
    ∧ SingleChannelSound State.reset ∧ InjectorsSound State.reset

/-! ### The rack link -/

/-- What a valid frame does before its request is classified (R1, R12), the whole of it; posting (R7):
below 32 records the record joins behind the newest with the clock, at 32 it is discarded and the
overflow flag set; and the reply (R5): station address, the request's tag, its kind plus 0x80, the
status first, the reason after DENIED, and a check over its own bytes. -/
def Obligations.FramesEventsAndReplies : Prop :=
  ((∀ s : State, s.port.link = .up →
       frameTaken s = { s with
         port.receiver := .hunting, port.silence := silenceTimerFor s.port.silenceLimit })
     ∧ (∀ s : State, s.port.link = .lost →
         frameTaken s = post .linkRestored 0 0 0 { s with
           port.receiver := .hunting, port.silence := silenceTimerFor s.port.silenceLimit,
           port.link := .up }))
    ∧ (∀ (k : EventKind) (arm code value : Nat) (s : State),
         (s.port.events.length < 32 →
           post k arm code value s = { s with
             port.events := s.port.events ++
               [{ kind := k, arm := arm, code := code, value := value, clock := s.port.clock }] })
         ∧ (32 ≤ s.port.events.length →
             post k arm code value s = { s with port.overflow := true }))
    ∧ (∀ (kind tag : Byte) (a : Answer) (s : State),
         (sendReply kind tag a s = { s with port.reply := (sendReply kind tag a s).port.reply })
         ∧ ∃ r : Reply, (sendReply kind tag a s).port.reply = some r
             ∧ r.address = s.port.station ∧ r.tag = tag
             ∧ (kind.toNat < 128 → r.kind.toNat = kind.toNat + 128)
             ∧ r.body.head? = some (BitVec.ofNat 8 a.status.code)
             ∧ (∀ d, a.reason = some d →
                 r.body = BitVec.ofNat 8 a.status.code :: BitVec.ofNat 8 d.code :: a.fields)
             ∧ (a.reason = none → r.body = BitVec.ofNat 8 a.status.code :: a.fields)
             ∧ r.check = frameCheck r.address r.tag r.kind r.body)

/-- R1 and R4: a frame that is not valid is discarded without a reply; a valid frame of a kind outside
the catalogue is UNKNOWN KIND; a body of the wrong fixed length, or too short for its count, or of
another length than its count requires, is BAD LENGTH, and a count outside its range BAD VALUE; every
record stays as it was. UNKNOWN KIND stops only when its kind stands in the catalogue, which contradicts
it (notes/assumptions/30.md). -/
def Obligations.FramesAreCheckedBeforeTheOwner : Prop :=
  ((∀ r ∈ fixedRequests, ∀ (f : Frame) (s : State),
       validFrame s r.kind f = false → exec (r.command f) s = .next (receiverHunts s))
     ∧ (∀ r ∈ countedRequests, ∀ (f : Frame) (s : State),
         validFrame s r.kind f = false → exec (r.command f) s = .next (receiverHunts s)))
    ∧ (∀ r ∈ fixedRequests, ∀ (f : Frame) (s : State),
         validFrame s r.kind f = true → f.body.length ≠ r.sizes.sum →
           exec (r.command f) s = answered r.kind f (.refused .badLength) (frameTaken s))
    ∧ (∀ r ∈ countedRequests, ∀ (f : Frame) (s : State),
         validFrame s r.kind f = true →
           (f.body.length < r.offset + r.width →
             exec (r.command f) s = answered r.kind f (.refused .badLength) (frameTaken s))
           ∧ (r.offset + r.width ≤ f.body.length →
               (beNat ((f.body.drop r.offset).take r.width) < 1
                 ∨ r.most < beNat ((f.body.drop r.offset).take r.width)) →
               exec (r.command f) s = answered r.kind f (.refused .badValue) (frameTaken s))
           ∧ (r.offset + r.width ≤ f.body.length →
               1 ≤ beNat ((f.body.drop r.offset).take r.width) →
               beNat ((f.body.drop r.offset).take r.width) ≤ r.most →
               f.body.length ≠ (r.sizes (beNat ((f.body.drop r.offset).take r.width))).sum →
               exec (r.command f) s = answered r.kind f (.refused .badLength) (frameTaken s)))
    ∧ (∀ (kind : Byte) (f : Frame) (s : State),
         (inCatalogue kind = false → validFrame s kind f = true →
           exec (.unknownKind kind f) s = answered kind f (.refused .unknownKind) (frameTaken s))
         ∧ (inCatalogue kind = false → validFrame s kind f = false →
             exec (.unknownKind kind f) s = .next (receiverHunts s))
         ∧ (inCatalogue kind = true → exec (.unknownKind kind f) s = .fault .kindInCatalogue))

/-- The frame receiver (R1, R3): the lead byte starts a frame, a gap, a framing error, a body length
above 240 and a discarded frame return it to HUNTING, and at the end of a reply LDIR falls. The
silence timer's expiry (R13, R31): the link becomes LOST, LINK LOST is posted with the limit, and a
pending referral ends with NO_HOST. That LDIR stands until REPLY_END is notes/assumptions/8.md, and
that an expiry is taken while its timer runs notes/assumptions/5.md. -/
def Obligations.TheLineAndTheSilenceTimer : Prop :=
  ((∀ s : State, s.running = true → s.port.reply = none →
       exec .leadByteReceived s = .next { s with port.receiver := .collecting })
     ∧ (∀ s : State, s.running = true →
         exec .interByteGap s = .next { s with port.receiver := .hunting }
         ∧ exec .framingError s = .next { s with port.receiver := .hunting }
         ∧ exec .bodyLengthAbove240 s = .next { s with port.receiver := .hunting })
     ∧ (∀ (kind : Byte) (f : Frame) (s : State), s.running = true →
         (f.address ≠ s.port.station ∨ f.check ≠ frameCheck f.address f.tag kind f.body) →
         exec (.discardedFrame kind f) s = .next { s with port.receiver := .hunting })
     ∧ (∀ s : State, exec .replyEnd s = .next { s with port.reply := none }
         ∧ ({ s with port.reply := none } : State).ldir = false))
    ∧ (∀ s : State, s.running = true → s.port.silence.running = true → s.port.link = .up →
         (s.permit.referral.pendingCard = none →
           exec .silenceTimerExpiry s = .next (post .linkLost 0 0 s.port.silenceLimit
             { s with port.link := .lost, port.silence := .stopped }))
         ∧ (∀ c reason, s.permit.referral = .pending c reason →
             exec .silenceTimerExpiry s = .next (denyIdentification .noHost c
               { post .linkLost 0 0 s.port.silenceLimit
                   { s with port.link := .lost, port.silence := .stopped } with
                 permit.referral := .empty, permit.referralTimer := .stopped })))

/-- POLL (R10) answers its fields and clears the overflow flag alone; NEXT EVENT (R9) returns the oldest
record behind the number left and takes it from the queue; LINK RESET (R11) empties the queue, the
overflow flag and the capture record, and ATTN falls. -/
def Obligations.TheEventQueueIsRead : Prop :=
  (∀ (f : Frame) (s : State), validFrame s 0x01 f = true → f.body = [] →
     exec (.poll f) s = answered 0x01 f
       (.okWith (field 1 (frameTaken s).port.events.length ++ flagField (frameTaken s).port.overflow
         ++ field 1 1 ++ flagField s.monitor.rackStop ++ field 1 s.store.notes.length
         ++ field 1 s.load.state.code ++ field 1 (s.arm 0).control.state.code
         ++ field 1 (s.arm 1).control.state.code ++ field 1 (s.arm 2).control.state.code
         ++ field 1 (s.arm 3).control.state.code))
       { frameTaken s with port.overflow := false })
    ∧ (∀ (f : Frame) (s : State), validFrame s 0x02 f = true → f.body = [] →
         ((frameTaken s).port.events = [] →
           exec (.nextEvent f) s = answered 0x02 f (.okWith (field 1 0)) (frameTaken s))
         ∧ (∀ e rest, (frameTaken s).port.events = e :: rest →
             exec (.nextEvent f) s = answered 0x02 f
               (.okWith (field 1 rest.length ++ field 1 e.kind.code ++ field 1 e.arm ++ field 2 e.code
                 ++ field 4 e.value ++ field 4 e.clock.toNat))
               { frameTaken s with port.events := rest }))
    ∧ (∀ (f : Frame) (s : State), validFrame s 0x03 f = true → f.body = [] →
         exec (.linkReset f) s = answered 0x03 f .ok
           { frameTaken s with port.events := [], port.overflow := false, capture := none }
         ∧ ({ frameTaken s with port.events := [], port.overflow := false, capture := none } :
             State).attn = false)

/-- A number outside its range (R4 and each request's own rule): an arm outside 1 to 4, an injector
outside 1 to 6, a product index outside 1 to 8, a class above 7, a subject above 1, a vehicle outside 1
to 999,999, and a card, an account or a recipe of 0 are BAD VALUE, whatever the part holds, and every
record stays as it was. The card and the vehicle of DROP and GET are notes/assumptions/19.md. -/
def Obligations.NumbersOutOfRangeAreRefused : Prop :=
  ∀ (f : Frame) (s : State) (v : Nat),
    (readFields [1] f.body = some [v] → v = 0 ∨ 4 < v →
      (validFrame s 0x43 f = true →
        exec (.getArm f) s = answered 0x43 f (.refused .badValue) (frameTaken s))
      ∧ (validFrame s 0x44 f = true →
          exec (.getTotals f) s = answered 0x44 f (.refused .badValue) (frameTaken s))
      ∧ (validFrame s 0x48 f = true →
          exec (.startArm (.host f)) s = answered 0x48 f (.refused .badValue) (frameTaken s))
      ∧ (validFrame s 0x49 f = true →
          exec (.stopArm (.host f)) s = answered 0x49 f (.refused .badValue) (frameTaken s))
      ∧ (validFrame s 0x4A f = true →
          exec (.resumeArm (.host f)) s = answered 0x4A f (.refused .badValue) (frameTaken s)))
    ∧ (readFields [1] f.body = some [v] → v = 0 ∨ 6 < v →
        (validFrame s 0x62 f = true →
          exec (.getInjector f) s = answered 0x62 f (.refused .badValue) (frameTaken s))
        ∧ (validFrame s 0x63 f = true →
            exec (.clearInjectorFault f) s = answered 0x63 f (.refused .badValue) (frameTaken s))
        ∧ (validFrame s 0x6A f = true →
            exec (.beginInjectorProving f) s
              = answered 0x6A f (.refused .badValue) (frameTaken s))
        ∧ (validFrame s 0x6B f = true →
            exec (.proveShot f) s = answered 0x6B f (.refused .badValue) (frameTaken s)))
    ∧ (∀ rest, validFrame s 0x68 f = true → readFields [1, 2] f.body = some (v :: rest) →
        v = 0 ∨ 4 < v →
        exec (.beginMeterRun f) s = answered 0x68 f (.refused .badValue) (frameTaken s))
    ∧ (∀ rest, validFrame s 0x69 f = true → readFields [1, 1, 4] f.body = some (v :: rest) →
        v = 0 ∨ 4 < v →
        exec (.meterResult f) s = answered 0x69 f (.refused .badValue) (frameTaken s))
    ∧ (∀ rest, validFrame s 0x6C f = true → readFields [1, 4] f.body = some (v :: rest) →
        v = 0 ∨ 6 < v →
        exec (.injectorResult f) s = answered 0x6C f (.refused .badValue) (frameTaken s))
    ∧ (∀ w, validFrame s 0x6D f = true → readFields [1, 1] f.body = some [v, w] →
        1 < v ∨ w = 0 ∨ (v = 0 ∧ 4 < w) ∨ (v = 1 ∧ 6 < w) →
        exec (.endProving f) s = answered 0x6D f (.refused .badValue) (frameTaken s))
    ∧ (∀ rest, validFrame s 0x40 f = true →
        readFields [1, 2, 1, 2, 2, 2, 2, 2, 2, 1] f.body = some (v :: rest) → v = 0 ∨ 8 < v →
        exec (.putProduct f) s = answered 0x40 f (.refused .badValue) (frameTaken s))
    ∧ (∀ rest, validFrame s 0x41 f = true →
        readFields [1, 1, 4, 1, 2, 2, 2, 2, 2, 1, 1, 2, 4, 1] f.body = some (v :: rest) →
        v = 0 ∨ 4 < v →
        exec (.putArm f) s = answered 0x41 f (.refused .badValue) (frameTaken s))
    ∧ (∀ rest, validFrame s 0x60 f = true →
        readFields [1, 2, 4, 2, 2, 1, 1, 1, 1, 1, 1, 2] f.body = some (v :: rest) →
        v = 0 ∨ 6 < v →
        exec (.putInjector f) s = answered 0x60 f (.refused .badValue) (frameTaken s))
    ∧ (∀ m rest, validFrame s 0x42 f = true → 2 ≤ f.body.length →
        beNat ((f.body.drop 1).take 1) = m → 1 ≤ m → m ≤ 4 →
        readFields ([1, 1] ++ (List.replicate m [2, 2]).flatten) f.body = some (v :: m :: rest) →
        v = 0 ∨ 4 < v →
        exec (.putMeterCurve f) s = answered 0x42 f (.refused .badValue) (frameTaken s))
    ∧ (∀ c x, validFrame s 0x21 f = true → readFields [4, 1, 4] f.body = some [v, c, x] →
        v = 0 ∨ 7 < c →
        exec (.setAllocation f) s = answered 0x21 f (.refused .badValue) (frameTaken s))
    ∧ (readFields [4] f.body = some [v] →
        (v = 0 →
          (validFrame s 0x22 f = true →
            exec (.getAccount f) s = answered 0x22 f (.refused .badValue) (frameTaken s))
          ∧ (validFrame s 0x23 f = true →
              exec (.dropAccount f) s = answered 0x23 f (.refused .badValue) (frameTaken s)))
        ∧ (v = 0 ∨ 999999 < v →
            (validFrame s 0x14 f = true →
              exec (.dropVehicle f) s = answered 0x14 f (.refused .badValue) (frameTaken s))
            ∧ (validFrame s 0x15 f = true →
                exec (.getVehicle f) s = answered 0x15 f (.refused .badValue) (frameTaken s))))
    ∧ (readFields [5] f.body = some [v] → v = 0 →
        (validFrame s 0x11 f = true →
          exec (.dropDriver f) s = answered 0x11 f (.refused .badValue) (frameTaken s))
        ∧ (validFrame s 0x12 f = true →
            exec (.getDriver f) s = answered 0x12 f (.refused .badValue) (frameTaken s)))
    ∧ (readFields [2] f.body = some [v] → v = 0 → validFrame s 0x64 f = true →
        exec (.dropRecipe f) s = answered 0x64 f (.refused .badValue) (frameTaken s))

/-- SET CLOCK and CLOCK ADVANCE (R15, R16, R36): the clock takes the value, or the next one modulo 2^32,
and on a change of the day number every loads-today count becomes 0 and the count day the new day. SET
LINK (R14), SET AUTHORITY (R23) and SET LOAD TIMES (R52) take their values and change nothing else; a
value outside its range is BAD VALUE and changes nothing. -/
def Obligations.ClockAndSettingsAreTaken : Prop :=
  ((∀ (f : Frame) (s : State) (v : Nat), validFrame s 0x04 f = true →
       readFields [4] f.body = some [v] →
       exec (.setClock f) s = answered 0x04 f .ok (writeClock (BitVec.ofNat 32 v) (frameTaken s)))
     ∧ (∀ s : State, s.running = true →
         exec .clockAdvance s = .next (writeClock (s.port.clock + 1) s))
     ∧ (∀ (s : State) (v : BitVec 32), v.toNat / 86400 = s.port.clock.toNat / 86400 →
         writeClock v s = { s with port.clock := v })
     ∧ (∀ (s : State) (v : BitVec 32), v.toNat / 86400 ≠ s.port.clock.toNat / 86400 →
         writeClock v s = { s with
           port.clock := v, permit.countDay := v.toNat / 86400
           permit.drivers := s.permit.drivers.map fun d => { d with loadsToday := 0 } }))
    ∧ (∀ (f : Frame) (s : State) (v : Nat), validFrame s 0x05 f = true →
         readFields [1] f.body = some [v] →
           (v = 0 → exec (.setLink f) s = answered 0x05 f .ok
             { frameTaken s with port.silenceLimit := 0, port.silence := .stopped })
           ∧ (1 ≤ v → v ≤ 60 → exec (.setLink f) s = answered 0x05 f .ok
               { frameTaken s with
                 port.silenceLimit := v
                 port.silence := { running := true, limit := v * 1000, elapsed := 0 } })
           ∧ (60 < v → exec (.setLink f) s = answered 0x05 f (.refused .badValue) (frameTaken s)))
    ∧ (∀ (f : Frame) (s : State) (a b : Nat),
         (validFrame s 0x18 f = true → readFields [1, 1] f.body = some [a, b] →
           (∀ m, authorityModeOf a = some m → 5 ≤ b → b ≤ 60 →
             exec (.setAuthority f) s = answered 0x18 f .ok
               { frameTaken s with permit.mode := m, permit.referralTimeout := b })
           ∧ (2 < a ∨ b < 5 ∨ 60 < b →
               exec (.setAuthority f) s = answered 0x18 f (.refused .badValue) (frameTaken s)))
         ∧ (validFrame s 0x35 f = true → readFields [2, 1] f.body = some [a, b] →
             (10 ≤ a → a ≤ 300 → 1 ≤ b → b ≤ 60 →
               exec (.setLoadTimes f) s = answered 0x35 f .ok
                 { frameTaken s with load.identTimeout := a, load.idleTimeout := b })
             ∧ (a < 10 ∨ 300 < a ∨ b < 1 ∨ 60 < b →
                 exec (.setLoadTimes f) s = answered 0x35 f (.refused .badValue) (frameTaken s))))

/-! ### Permits -/

/-- PUT DRIVER (R17): a replaced entry keeps its loads today clamped to a nonzero new limit, a new one
starts at 0, a card in use and a full table refuse, and fields outside their ranges are BAD VALUE. PUT
VEHICLE (R19): an entry is replaced or joins the table; a vehicle in use and a full table refuse. The
ranges of both, and the entry that the fields give (R17, R19). -/
def Obligations.DriversAndVehiclesAreWritten : Prop :=
  (∀ (f : Frame) (s : State) (card suspended valid account classes bound limit : Nat),
     validFrame s 0x10 f = true →
     readFields [5, 1, 2, 4, 1, 4, 1] f.body
       = some [card, suspended, valid, account, classes, bound, limit] →
       (card = 0 ∨ account = 0 ∨ 999999 < bound ∨ 15 < limit ∨ 1 < suspended →
         exec (.putDriver f) s = answered 0x10 f (.refused .badValue) (frameTaken s))
       ∧ (∀ d, driverOf card suspended valid account classes bound limit = some d →
           (∀ old, s.driver card = some old → s.currentCard = some card →
             exec (.putDriver f) s = answered 0x10 f (.refused .inUse) (frameTaken s))
           ∧ (∀ old, s.driver card = some old → s.currentCard ≠ some card →
               let kept := if limit ≠ 0 ∧ limit < old.loadsToday then limit else old.loadsToday
               exec (.putDriver f) s = answered 0x10 f (.okWith (field 1 kept))
                 { frameTaken s with
                   permit.drivers := s.permit.drivers.map fun e =>
                     if e.card = card then { d with loadsToday := kept } else e })
           ∧ (s.driver card = none → s.permit.drivers.length < 64 →
               exec (.putDriver f) s = answered 0x10 f (.okWith (field 1 0))
                 { frameTaken s with
                   permit.drivers := s.permit.drivers ++ [{ d with loadsToday := 0 }] })
           ∧ (s.driver card = none → 64 ≤ s.permit.drivers.length →
               exec (.putDriver f) s = answered 0x10 f (.refused .full) (frameTaken s))))
    ∧ (∀ (f : Frame) (s : State) (v : Vehicle) (number valid n : Nat) (rest : List Nat),
         validFrame s 0x13 f = true → 7 ≤ f.body.length →
         beNat ((f.body.drop 6).take 1) = n → 1 ≤ n → n ≤ 8 →
         readFields ([4, 2, 1] ++ (List.replicate n [2, 1]).flatten) f.body
           = some (number :: valid :: n :: rest) →
           (vehicleOf number valid (pairs rest) = none →
             exec (.putVehicle f) s = answered 0x13 f (.refused .badValue) (frameTaken s))
           ∧ (vehicleOf number valid (pairs rest) = some v →
               (s.vehicleInUse number = true →
                 exec (.putVehicle f) s = answered 0x13 f (.refused .inUse) (frameTaken s))
               ∧ (s.vehicleInUse number = false → (s.vehicle number).isSome = true →
                   exec (.putVehicle f) s = answered 0x13 f .ok
                     { frameTaken s with
                       permit.vehicles := s.permit.vehicles.map fun e =>
                         if e.number = number then v else e })
               ∧ (s.vehicleInUse number = false → s.vehicle number = none →
                   s.permit.vehicles.length < 32 →
                   exec (.putVehicle f) s = answered 0x13 f .ok
                     { frameTaken s with permit.vehicles := s.permit.vehicles ++ [v] })
               ∧ (s.vehicleInUse number = false → s.vehicle number = none →
                   32 ≤ s.permit.vehicles.length →
                   exec (.putVehicle f) s = answered 0x13 f (.refused .full) (frameTaken s))))
    ∧ ((∀ card suspended valid account classes bound limit : Nat,
           ((driverOf card suspended valid account classes bound limit).isSome = true ↔
             (1 ≤ card ∧ card < 2 ^ 40 ∧ suspended ≤ 1 ∧ account ≠ 0 ∧ bound ≤ 999999 ∧ limit ≤ 15))
           ∧ (∀ d, driverOf card suspended valid account classes bound limit = some d →
               d = { card := card, suspended := decide (suspended = 1), validUntil := valid
                     account := account, classes := BitVec.ofNat 8 classes
                     bound := if bound = 0 then none else some bound, dailyLimit := limit
                     loadsToday := 0 }))
         ∧ (∀ (number valid : Nat) (l : List (Nat × Nat)),
             ((vehicleOf number valid l).isSome = true ↔
               (1 ≤ number ∧ number ≤ 999999 ∧ valid ≠ 0 ∧ ∀ x ∈ l, 100 ≤ x.1 ∧ x.1 ≤ 20000))
             ∧ (∀ v, vehicleOf number valid l = some v →
                 v = { number := number, validUntil := valid
                       compartments := l.map fun x =>
                         { capacity := x.1, classes := BitVec.ofNat 8 x.2 } }))
         ∧ pairs [] = [] ∧ ∀ a b rest, pairs (a :: b :: rest) = (a, b) :: pairs rest)

/-- DROP DRIVER, DROP VEHICLE, DROP ACCOUNT and DROP RECIPE remove the entry named and nothing else;
no entry is NOT FOUND, and an entry in use is IN USE (R18, R20, R41, R142). -/
def Obligations.DropsRemoveOneEntry : Prop :=
  ∀ (f : Frame) (s : State) (v : Nat),
    (validFrame s 0x11 f = true → readFields [5] f.body = some [v] → 1 ≤ v → v < 2 ^ 40 →
      (s.driver v = none →
        exec (.dropDriver f) s = answered 0x11 f (.refused .notFound) (frameTaken s))
      ∧ ((s.driver v).isSome = true → s.currentCard = some v →
          exec (.dropDriver f) s = answered 0x11 f (.refused .inUse) (frameTaken s))
      ∧ ((s.driver v).isSome = true → s.currentCard ≠ some v →
          exec (.dropDriver f) s = answered 0x11 f .ok
            { frameTaken s with permit.drivers := s.permit.drivers.filter (·.card ≠ v) }))
    ∧ (validFrame s 0x14 f = true → readFields [4] f.body = some [v] → 1 ≤ v → v ≤ 999999 →
        (s.vehicle v = none →
          exec (.dropVehicle f) s = answered 0x14 f (.refused .notFound) (frameTaken s))
        ∧ ((s.vehicle v).isSome = true → s.vehicleInUse v = true →
            exec (.dropVehicle f) s = answered 0x14 f (.refused .inUse) (frameTaken s))
        ∧ ((s.vehicle v).isSome = true → s.vehicleInUse v = false →
            exec (.dropVehicle f) s = answered 0x14 f .ok
              { frameTaken s with permit.vehicles := s.permit.vehicles.filter (·.number ≠ v) }))
    ∧ (validFrame s 0x23 f = true → readFields [4] f.body = some [v] → 1 ≤ v →
        (s.account v = none →
          exec (.dropAccount f) s = answered 0x23 f (.refused .notFound) (frameTaken s))
        ∧ (∀ a, s.account v = some a →
            (s.accountInUse v = true ∨ ∃ c : ClassId, 0 < (a.classes.get c).reserved) →
            exec (.dropAccount f) s = answered 0x23 f (.refused .inUse) (frameTaken s))
        ∧ (∀ a, s.account v = some a → s.accountInUse v = false →
            (∀ c : ClassId, (a.classes.get c).reserved = 0) →
            exec (.dropAccount f) s = answered 0x23 f .ok
              { frameTaken s with accounts := s.accounts.filter (·.number ≠ v) }))
    ∧ (validFrame s 0x64 f = true → readFields [2] f.body = some [v] → 1 ≤ v →
        (s.recipe v = none →
          exec (.dropRecipe f) s = answered 0x64 f (.refused .notFound) (frameTaken s))
        ∧ ((s.recipe v).isSome = true → s.recipeInUse v = true →
            exec (.dropRecipe f) s = answered 0x64 f (.refused .inUse) (frameTaken s))
        ∧ ((s.recipe v).isSome = true → s.recipeInUse v = false →
            exec (.dropRecipe f) s = answered 0x64 f .ok
              { frameTaken s with recipes := s.recipes.filter (·.code ≠ v) }))

/-- SET FILTER (R22): an accepted run writes filter bit start + k from value byte k / 8 at bit
7 − k mod 8, leaves every other bit, and changes nothing else; a run past bit 255 is BAD VALUE. -/
def Obligations.SetFilterWritesARun : Prop :=
  ∀ (f : Frame) (s : State) (start n : Nat) (values : List Nat),
    validFrame s 0x16 f = true → 3 ≤ f.body.length →
    beNat ((f.body.drop 1).take 2) = n → 1 ≤ n → n ≤ 256 →
    readFields ([1, 2] ++ List.replicate (ceilDiv n 8) 1) f.body = some (start :: n :: values) →
      (256 < start + n →
        exec (.setFilter f) s = answered 0x16 f (.refused .badValue) (frameTaken s))
      ∧ (start + n ≤ 256 → ∃ bits : BitVec 256,
          exec (.setFilter f) s = answered 0x16 f .ok { frameTaken s with permit.filter := bits }
            ∧ (∀ k, k < n →
                bits.getLsbD (start + k) = (values.getD (k / 8) 0).testBit (7 - k % 8))
            ∧ (∀ i, i < start ∨ start + n ≤ i → bits.getLsbD i = s.permit.filter.getLsbD i))

/-- PRESENT CARD from the host past the admission checks (R24 to R26, R28): CARD READ is posted; a card
that needs a referral opens one while the link is UP; a card identified locally without a bound vehicle
is held in VEHICLE_WAIT, and one with a bound vehicle is named it at once; a card that fails a local
check is denied. Card 0 is BAD VALUE (notes/assumptions/19.md), and a card that an admission check
refuses changes nothing. The admission checks, the referral decision and the local checks, case by case.
While the link is LOST, which a frame from the host ends, a card of the console that needs a referral is
denied NO_HOST. -/
def Obligations.PresentCardBeginsIdentification : Prop :=
  (∀ (f : Frame) (s : State) (card : Nat),
     validFrame s 0x30 f = true → readFields [5] f.body = some [card] → 1 ≤ card → card < 2 ^ 40 →
     admissionRefusal s = none →
       (∀ reason, referralNeed (frameTaken s) card = some reason →
         exec (.presentCard (.host f)) s = answered 0x30 f (.okWith (field 1 1))
           (post .referralPending 0 (reason.code * 256 + card / 2 ^ 32) (card % 2 ^ 32)
             { post .cardRead 0 (card / 2 ^ 32) (card % 2 ^ 32) (frameTaken s) with
               permit.referral := .pending card reason
               permit.referralTimer := .start (s.permit.referralTimeout * 1000)
               load.state := .referred
               load.identTimer := .start (s.load.identTimeout * 1000)
               console.line1 := .waitForHost, console.prompt := none }))
       ∧ (∀ d, referralNeed (frameTaken s) card = none → localCheck s card = .ok d →
           d.bound = none →
           exec (.presentCard (.host f)) s = answered 0x30 f (.okWith (field 1 2))
             { post .cardRead 0 (card / 2 ^ 32) (card % 2 ^ 32) (frameTaken s) with
               permit.held := some { source := .fromTable, card := d.card, account := d.account,
                                     classes := d.classes, bound := none }
               load.state := .vehicleWait
               load.identTimer := .start (s.load.identTimeout * 1000)
               console.line1 := .enterVehicle, console.prompt := some .vehicle })
       ∧ (∀ reason, referralNeed (frameTaken s) card = none → localCheck s card = .error reason →
           exec (.presentCard (.host f)) s = answered 0x30 f (.denied reason)
             (denyIdentification reason card
               (post .cardRead 0 (card / 2 ^ 32) (card % 2 ^ 32) (frameTaken s)))))
    ∧ (∀ (f : Frame) (s : State) (card : Nat),
         validFrame s 0x30 f = true → readFields [5] f.body = some [card] →
           (card = 0 → exec (.presentCard (.host f)) s
             = answered 0x30 f (.refused .badValue) (frameTaken s))
           ∧ (1 ≤ card → card < 2 ^ 40 →
               (∀ a, admissionRefusal s = some a →
                 exec (.presentCard (.host f)) s = answered 0x30 f a (frameTaken s))
               ∧ (∀ d v, admissionRefusal s = none → referralNeed (frameTaken s) card = none →
                   localCheck s card = .ok d → d.bound = some v →
                   let p : Permit := { source := .fromTable, card := d.card, account := d.account,
                                       classes := d.classes, bound := some v }
                   let t : State :=
                     { post .cardRead 0 (card / 2 ^ 32) (card % 2 ^ 32) (frameTaken s) with
                       permit.held := some p
                       load.state := .vehicleWait
                       load.identTimer := .start (s.load.identTimeout * 1000)
                       console.line1 := .enterVehicle, console.prompt := some .vehicle }
                   (namingRefusal s p v = none → exec (.presentCard (.host f)) s
                     = answered 0x30 f (.okWith (field 1 3)) (openLoad p v t))
                   ∧ (∀ reason, namingRefusal s p v = some reason → exec (.presentCard (.host f)) s
                       = answered 0x30 f (.denied reason) (denyIdentification reason d.card t)))))
    ∧ ((∀ s : State,
           (s.configured = false → admissionRefusal s = some (.denied .notConfigured))
           ∧ (s.configured = true → s.load.state ≠ .noLoad →
               admissionRefusal s = some (.denied .bayBusy))
           ∧ (s.configured = true → s.load.state = .noLoad → s.monitor.rackStop = true →
               admissionRefusal s = some (.refused .rackStopped))
           ∧ (s.configured = true → s.load.state = .noLoad → s.monitor.rackStop = false →
               16 ≤ s.store.notes.length ∨ 4294967295 ≤ s.store.next →
               admissionRefusal s = some (.denied .noteStoreFull))
           ∧ (s.configured = true → s.load.state = .noLoad → s.monitor.rackStop = false →
               s.store.notes.length < 16 → s.store.next < 4294967295 → s.meterRun = true →
               admissionRefusal s = some (.refused .wrongState))
           ∧ (s.configured = true → s.load.state = .noLoad → s.monitor.rackStop = false →
               s.store.notes.length < 16 → s.store.next < 4294967295 → s.meterRun = false →
               admissionRefusal s = none))
         ∧ (∀ (s : State) (card : Nat),
             (s.permit.mode = .localMode → s.hitsFilter card = false → referralNeed s card = none)
             ∧ (s.permit.mode = .localMode → s.hitsFilter card = true →
                 referralNeed s card = some .filter)
             ∧ (s.permit.mode = .host → referralNeed s card = some .mode)
             ∧ (s.permit.mode = .hostFallback → s.port.link = .up → referralNeed s card = some .mode)
             ∧ (s.permit.mode = .hostFallback → s.port.link = .lost → s.hitsFilter card = false →
                 referralNeed s card = none)
             ∧ (s.permit.mode = .hostFallback → s.port.link = .lost → s.hitsFilter card = true →
                 referralNeed s card = some .filter)))
    ∧ ((∀ (s : State) (card : Nat),
           (s.driver card = none → localCheck s card = .error .cardUnknown)
           ∧ (∀ d, s.driver card = some d →
               (d.suspended = true → localCheck s card = .error .cardSuspended)
               ∧ (d.suspended = false →
                   (d.validUntil ≠ 0 → d.validUntil < s.port.clock.toNat / 86400 →
                     localCheck s card = .error .cardExpired)
                   ∧ (d.validUntil = 0 ∨ s.port.clock.toNat / 86400 ≤ d.validUntil →
                       (d.dailyLimit ≠ 0 → d.dailyLimit ≤ d.loadsToday →
                         localCheck s card = .error .dailyLimit)
                       ∧ (d.dailyLimit = 0 ∨ d.loadsToday < d.dailyLimit →
                           localCheck s card = .ok d)))))
         ∧ (∀ (s : State) (card : Nat) (reason : ReferralReason), s.running = true →
             s.console.dropping = false → s.console.buffer ≠ [] → s.console.replies.length < 4 →
             parseRecord s.console.buffer = some (.card card) → 1 ≤ card → card < 2 ^ 40 →
             admissionRefusal s = none → referralNeed s card = some reason → s.port.link = .lost →
             exec (.presentCard .console) s = .next (answerConsole (.denied .noHost)
               (denyIdentification .noHost card
                 (post .cardRead 0 (card / 2 ^ 32) (card % 2 ^ 32)
                   { s with console.buffer := [] })))))

/-- NAME VEHICLE from the host (R34, R35, R54): in VEHICLE_WAIT a vehicle that passes the checks opens
the load under the next note number, and one that fails denies the identification; in another load state
it is WRONG STATE, with the latch set RACK STOPPED, and a number outside 1 to 999,999 is BAD VALUE. The
checks of R34 and the daily count of R35, case by case. -/
def Obligations.NameVehicleOpensTheLoad : Prop :=
  (∀ (f : Frame) (s : State) (number : Nat) (p : Permit),
     validFrame s 0x31 f = true → readFields [4] f.body = some [number] →
     1 ≤ number → number ≤ 999999 → s.load.state = .vehicleWait → s.permit.held = some p →
       (s.monitor.rackStop = true →
         exec (.nameVehicle (.host f)) s = answered 0x31 f (.refused .rackStopped) (frameTaken s))
       ∧ (s.monitor.rackStop = false → namingRefusal s p number = none →
           exec (.nameVehicle (.host f)) s = answered 0x31 f (.okWith (field 4 s.store.next))
             (post .loadOpened 0 p.source.code s.store.next
               { frameTaken s with
                 store.next := min 4294967295 (s.store.next + 1)
                 permit.held := none
                 permit.drivers := s.permit.drivers.map fun d =>
                   if d.card = p.card then { d with loadsToday := countedLoads d } else d
                 load.state := .opened
                 load.record := some
                   { note := s.store.next, source := p.source, card := p.card, vehicle := number,
                     account := p.account, classes := p.classes, opened := s.port.clock,
                     endCause := none, plan := [], lines := [] }
                 load.identTimer := .stopped
                 load.idleTimer := .start (s.load.idleTimeout * 60000)
                 console.line1 := .load s.store.next, console.line2 := .blank
                 console.prompt := some .plan }))
       ∧ (∀ reason, s.monitor.rackStop = false → namingRefusal s p number = some reason →
           exec (.nameVehicle (.host f)) s = answered 0x31 f (.denied reason)
             (denyIdentification reason p.card (frameTaken s))))
    ∧ (∀ (f : Frame) (s : State) (number : Nat),
         validFrame s 0x31 f = true → readFields [4] f.body = some [number] →
           (number = 0 ∨ 999999 < number →
             exec (.nameVehicle (.host f)) s = answered 0x31 f (.refused .badValue) (frameTaken s))
           ∧ (1 ≤ number → number ≤ 999999 → s.load.state ≠ .vehicleWait →
               exec (.nameVehicle (.host f)) s = answered 0x31 f (.refused .wrongState) (frameTaken s)))
    ∧ ((∀ (s : State) (p : Permit) (number : Nat),
           (s.vehicle number = none → namingRefusal s p number = some .vehicleUnknown)
           ∧ (∀ v, s.vehicle number = some v →
               (v.validUntil < s.port.clock.toNat / 86400 →
                 namingRefusal s p number = some .vehicleExpired)
               ∧ (s.port.clock.toNat / 86400 ≤ v.validUntil →
                   (∀ b, p.bound = some b → b ≠ number →
                     namingRefusal s p number = some .vehicleNotBound)
                   ∧ (p.bound = none ∨ p.bound = some number → namingRefusal s p number = none))))
         ∧ (∀ d : Driver,
             (d.dailyLimit ≠ 0 → d.loadsToday < d.dailyLimit → countedLoads d = d.loadsToday + 1)
             ∧ (d.dailyLimit ≠ 0 → d.dailyLimit ≤ d.loadsToday → countedLoads d = d.loadsToday)
             ∧ (d.dailyLimit = 0 → d.loadsToday < 15 → countedLoads d = d.loadsToday + 1)
             ∧ (d.dailyLimit = 0 → 15 ≤ d.loadsToday → countedLoads d = d.loadsToday)))

/-- ANSWER REFERRAL (R29): the answer for the pending card decides it, DENY denying the identification
and ALLOW holding the permit of the answer, whose bound vehicle is named at once while the latch is
clear; another card, or an EMPTY record, is NOT FOUND, the card of an EXPIRED record TOO LATE, and a
value outside its range BAD VALUE (card 0: notes/assumptions/19.md). -/
def Obligations.AnswerReferralDecides : Prop :=
  (∀ (f : Frame) (s : State) (card decision account classes bound : Nat),
     validFrame s 0x17 f = true →
     readFields [5, 1, 4, 1, 4] f.body = some [card, decision, account, classes, bound] →
     1 ≤ card → card < 2 ^ 40 →
       (∀ reason, decision = 0 → s.permit.referral = .pending card reason →
         exec (.answerReferral f) s = answered 0x17 f .ok
           (denyIdentification .referralDenied card
             { frameTaken s with
               permit.referral := .empty, permit.referralTimer := .stopped }))
       ∧ (∀ reason, decision = 1 → 1 ≤ account → bound = 0 →
           s.permit.referral = .pending card reason → s.load.state = .referred →
           exec (.answerReferral f) s = answered 0x17 f .ok
             { frameTaken s with
               permit.referral := .empty, permit.referralTimer := .stopped
               permit.held := some { source := .referred, card := card, account := account,
                                     classes := BitVec.ofNat 8 classes, bound := none }
               load.state := .vehicleWait
               load.identTimer := .start (s.load.identTimeout * 1000)
               console.line1 := .enterVehicle, console.prompt := some .vehicle })
       ∧ (∀ other, decision = 0 → s.permit.referral = .expired other →
           exec (.answerReferral f) s = answered 0x17 f
             (.refused (if other = card then .tooLate else .notFound)) (frameTaken s))
       ∧ (∀ other reason, decision = 0 → s.permit.referral = .pending other reason →
           other ≠ card →
           exec (.answerReferral f) s = answered 0x17 f (.refused .notFound) (frameTaken s))
       ∧ (1 < decision →
           exec (.answerReferral f) s = answered 0x17 f (.refused .badValue) (frameTaken s)))
    ∧ (∀ (f : Frame) (s : State) (card decision account classes bound : Nat),
         validFrame s 0x17 f = true →
         readFields [5, 1, 4, 1, 4] f.body = some [card, decision, account, classes, bound] →
           (card = 0 ∨ (decision = 1 ∧ (account = 0 ∨ 999999 < bound)) →
             exec (.answerReferral f) s = answered 0x17 f (.refused .badValue) (frameTaken s))
           ∧ (1 ≤ card → card < 2 ^ 40 →
               (decision = 0 ∨ (decision = 1 ∧ 1 ≤ account ∧ bound ≤ 999999) →
                 s.permit.referral = .empty →
                 exec (.answerReferral f) s = answered 0x17 f (.refused .notFound) (frameTaken s))
               ∧ (decision = 1 → 1 ≤ account → bound ≤ 999999 →
                   (∀ other reason, s.permit.referral = .pending other reason → other ≠ card →
                     exec (.answerReferral f) s
                       = answered 0x17 f (.refused .notFound) (frameTaken s))
                   ∧ (∀ other, s.permit.referral = .expired other →
                       exec (.answerReferral f) s = answered 0x17 f
                         (.refused (if other = card then .tooLate else .notFound)) (frameTaken s))
                   ∧ (∀ reason, 1 ≤ bound → s.permit.referral = .pending card reason →
                       s.load.state = .referred →
                       let p : Permit := { source := .referred, card := card, account := account,
                                           classes := BitVec.ofNat 8 classes, bound := some bound }
                       let t : State :=
                         { frameTaken s with
                           permit.referral := .empty, permit.referralTimer := .stopped
                           permit.held := some p
                           load.state := .vehicleWait
                           load.identTimer := .start (s.load.identTimeout * 1000)
                           console.line1 := .enterVehicle, console.prompt := some .vehicle }
                       (s.monitor.rackStop = true →
                         exec (.answerReferral f) s = answered 0x17 f .ok t)
                       ∧ (s.monitor.rackStop = false → namingRefusal s p bound = none →
                           exec (.answerReferral f) s = answered 0x17 f .ok (openLoad p bound t))
                       ∧ (∀ r, s.monitor.rackStop = false → namingRefusal s p bound = some r →
                           exec (.answerReferral f) s
                             = answered 0x17 f .ok (denyIdentification r card t))))))

/-- A denial (R27, R72, R73): IDENTIFICATION DENIED is posted with the reason and the four lower
bytes of the card, the held permit is discarded, line 2 takes the reason, and the load state becomes
NO_LOAD with its display. The expiry of the referral timer and of the identification timer (R30,
R51) deny; a timer that does not run changes nothing. That an expiry is taken while its timer runs
is notes/assumptions/5.md. -/
def Obligations.DenialsEndTheIdentification : Prop :=
  (∀ (reason : DenyReason) (card : Nat) (s : State),
     (s.load.state ≠ .noLoad →
       denyIdentification reason card s =
         { post .identificationDenied 0 reason.code (card % 2 ^ 32) s with
           permit.held := none, load.state := .noLoad, load.identTimer := .stopped
           console.line1 := .presentCard, console.prompt := some .card
           console.line2 := .refusal (.reason reason) })
     ∧ (s.load.state = .noLoad →
         denyIdentification reason card s =
           { post .identificationDenied 0 reason.code (card % 2 ^ 32) s with
             permit.held := none, load.identTimer := .stopped
             console.line2 := .refusal (.reason reason) }))
    ∧ (∀ s : State,
         (∀ c reason, s.running = true → s.permit.referralTimer.running = true →
             s.permit.referral = .pending c reason →
           exec .referralTimerExpiry s = .next (denyIdentification .referralNoAnswer c
             { s with permit.referral := .expired c, permit.referralTimer := .stopped }))
         ∧ (∀ c reason, s.running = true → s.load.identTimer.running = true →
             s.load.state = .referred → s.permit.referral = .pending c reason →
             exec .identificationTimerExpiry s = .next (denyIdentification .referralNoAnswer c
               { s with permit.referral := .expired c, permit.referralTimer := .stopped }))
         ∧ (∀ p, s.running = true → s.load.identTimer.running = true → s.load.state = .vehicleWait →
             s.permit.held = some p →
             exec .identificationTimerExpiry s
               = .next (denyIdentification .vehicleUnknown p.card s))
         ∧ (s.permit.referralTimer.running = false → exec .referralTimerExpiry s = .next s)
         ∧ (s.load.identTimer.running = false → exec .identificationTimerExpiry s = .next s))

/-! ### Accounts -/

/-- PUT ACCOUNT (R39): the hold of an entry is replaced and its litres stay; a new entry has nothing
remaining and nothing reserved; a 17th is FULL; a flag other than 0 or 1 is BAD VALUE. SET ALLOCATION
(R40): UNLIMITED is taken as such, a number is clamped up to the reserved total, the value taken is the
reply, and no other class or account changes. -/
def Obligations.AccountsAreWritten : Prop :=
  (∀ (f : Frame) (s : State) (number hold : Nat), validFrame s 0x20 f = true →
     readFields [4, 1] f.body = some [number, hold] →
       (number = 0 ∨ 1 < hold →
         exec (.putAccount f) s = answered 0x20 f (.refused .badValue) (frameTaken s))
       ∧ (1 ≤ number → hold ≤ 1 → (s.account number).isSome = true →
           exec (.putAccount f) s = answered 0x20 f .ok
             { frameTaken s with
               accounts := s.accounts.map fun a =>
                 if a.number = number then { a with hold := decide (hold = 1) } else a })
       ∧ (1 ≤ number → hold ≤ 1 → s.account number = none → s.accounts.length < 16 →
           exec (.putAccount f) s = answered 0x20 f .ok
             { frameTaken s with
               accounts := s.accounts ++
                 [{ number := number, hold := decide (hold = 1),
                    classes := .replicate { remaining := .litres 0, reserved := 0 } }] })
       ∧ (1 ≤ number → hold ≤ 1 → s.account number = none → 16 ≤ s.accounts.length →
           exec (.putAccount f) s = answered 0x20 f (.refused .full) (frameTaken s)))
    ∧ (∀ (f : Frame) (s : State) (number value : Nat) (c : ClassId), validFrame s 0x21 f = true →
         readFields [4, 1, 4] f.body = some [number, c.val, value] → 1 ≤ number →
           (∀ a, s.account number = some a → value ≤ 99999999 →
             let taken := max value (a.classes.get c).reserved
             exec (.setAllocation f) s = answered 0x21 f (.okWith (field 4 taken))
               (State.updAllocation (frameTaken s) number c fun x =>
                 { x with remaining := .litres taken }))
           ∧ (∀ a, s.account number = some a → value = 0xFFFFFFFF →
               exec (.setAllocation f) s = answered 0x21 f (.okWith (field 4 0xFFFFFFFF))
                 (State.updAllocation (frameTaken s) number c fun x =>
                   { x with remaining := .unlimited }))
           ∧ (s.account number = none → value ≤ 99999999 →
               exec (.setAllocation f) s = answered 0x21 f (.refused .notFound) (frameTaken s))
           ∧ (99999999 < value → value ≠ 0xFFFFFFFF →
               exec (.setAllocation f) s = answered 0x21 f (.refused .badValue) (frameTaken s)))

/-- The reservation of a preset (R42). -/
def Obligations.ReservationOfAPreset : Prop :=
  (∀ p, reservationOf .standard p = p)
    ∧ (∀ p, reservationOf .gross p = p + ceilDiv p 50
        ∧ p ≤ 50 * ceilDiv p 50 ∧ 50 * ceilDiv p 50 < p + 50)
    ∧ (∀ b p q, p < q → reservationOf b p < reservationOf b q)
    ∧ (∀ p, 100 ≤ p → p ≤ 20000 →
        (100 ≤ reservationOf .standard p ∧ reservationOf .standard p ≤ 20000)
          ∧ (102 ≤ reservationOf .gross p ∧ reservationOf .gross p ≤ 20400))

/-- The allocation bound is the largest preset at or below the request whose reservation fits the
available litres, and a granted preset lies between 100 and the request, fits the available litres and
does not exceed the compartment room. The cases of the allocation check in their order, with the class
UNLIMITED, whose allocation bound is the request (R43). -/
def Obligations.GrantFitsAllocationAndRoom : Prop :=
  (∀ (b : PresetBasis) (request n : Nat),
      allocationBound b request (some n) ≤ request
        ∧ reservationOf b (allocationBound b request (some n)) ≤ n
        ∧ ∀ p, p ≤ request → reservationOf b p ≤ n → p ≤ allocationBound b request (some n))
    ∧ (∀ (a : Account) (c : ClassId) (b : PresetBasis) (request n : Nat) (room : Int) (p : Nat),
        (a.classes.get c).remaining = .litres n →
        allocationCheck (some a) c b request room = .ok p →
        a.hold = false ∧ 100 ≤ p ∧ p ≤ request ∧ (p : Int) ≤ room
          ∧ reservationOf b p ≤ n - (a.classes.get c).reserved)
    ∧ (∀ (c : ClassId) (b : PresetBasis) (request : Nat) (room : Int),
        allocationCheck none c b request room = .error .noAllocation
        ∧ ∀ a : Account,
            (a.hold = true → allocationCheck (some a) c b request room = .error .accountHold)
            ∧ (∀ n, a.hold = false → (a.classes.get c).remaining = .litres n →
                let most := allocationBound b request (some (n - (a.classes.get c).reserved))
                let fits := min request room.toNat
                (fits ≤ most → fits < 100 →
                  allocationCheck (some a) c b request room = .error .compartmentFull)
                ∧ (most < fits → most < 100 →
                    allocationCheck (some a) c b request room = .error .noAllocation)
                ∧ (100 ≤ most → 100 ≤ fits →
                    allocationCheck (some a) c b request room = .ok (min most fits)))
            ∧ (a.hold = false → (a.classes.get c).remaining = .unlimited →
                let fits := min request room.toNat
                (fits < 100 →
                  allocationCheck (some a) c b request room = .error .compartmentFull)
                ∧ (100 ≤ fits → allocationCheck (some a) c b request room = .ok fits)))

/-- The charge of a batch end (R46): it is at most what was used, at least the smaller of that and the
reservation, and leaves at least the new reserved total remaining. -/
def Obligations.ChargeKeepsReservedCovered : Prop :=
  ∀ (a : Allocation) (n r used : Nat), a.remaining = .litres n → a.reserved ≤ n → r ≤ a.reserved →
    chargeOf a r used = min used r + min (used - r) (n - a.reserved)
      ∧ chargeOf a r used ≤ used ∧ min used r ≤ chargeOf a r used
      ∧ a.charged r used
          = { remaining := .litres (n - chargeOf a r used), reserved := a.reserved - r }
      ∧ (a.charged r used).reserved ≤ n - chargeOf a r used
      ∧ chargeOf a r used ≤ n

/-! ### The load and its notes -/

/-- PLAN COMPARTMENT from the host in OPEN (R56 to R60): a plan that passes the nine checks appends an
ARMED entry with the granted preset and its reservation, reserves it, arms the arm, stops the idle timer
and is answered the grant; one that fails is answered the first failure and changes nothing. A plan that
passes has an IDLE arm, a recipe whose base product the arm carries and whose injectors reach it, a
class that load and compartment allow, a place in the record, and a compartment with no other entry. A
field outside its range is BAD VALUE, another load state WRONG STATE, a set latch RACK STOPPED. The
answer of each of the nine checks, in their order (R57 to R59). -/
def Obligations.PlanArmsAndReserves : Prop :=
  (∀ (f : Frame) (s : State) (compartment recipe request : Nat) (n : ArmId) (r : OpenLoad),
     validFrame s 0x32 f = true →
     readFields [1, 2, 1, 2] f.body = some [compartment, recipe, n.val + 1, request] →
     planInRange compartment recipe request = true → s.load.state = .opened →
     s.load.record = some r → s.monitor.rackStop = false →
       (∀ a, planGrant s r n compartment recipe request = .error a →
         exec (.planCompartment (.host f)) s = answered 0x32 f a (frameTaken s))
       ∧ (∀ preset p, planGrant s r n compartment recipe request = .ok (preset, p) →
           exec (.planCompartment (.host f)) s = answered 0x32 f (.okWith (field 2 preset))
             { State.updAllocation (frameTaken s) r.account p.productClass fun x =>
                 { x with reserved := x.reserved + reservationOf p.basis preset } with
               load.idleTimer := .stopped
               load.record := some
                 { r with plan := r.plan ++
                     [{ compartment := compartment, recipe := recipe, arm := n, preset := preset,
                        reservation := reservationOf p.basis preset, state := .armed }] }
               arms := s.arms.set n
                 { s.arm n with
                   control.state := .armed
                   control.binding := some
                     { compartment := compartment, recipe := recipe, preset := preset,
                       basis := p.basis, reservation := reservationOf p.basis preset } } }))
    ∧ ((∀ (f : Frame) (s : State) (compartment recipe arm request : Nat),
           validFrame s 0x32 f = true →
           readFields [1, 2, 1, 2] f.body = some [compartment, recipe, arm, request] →
             (arm = 0 ∨ 4 < arm ∨ planInRange compartment recipe request = false →
               exec (.planCompartment (.host f)) s
                 = answered 0x32 f (.refused .badValue) (frameTaken s))
             ∧ (1 ≤ arm → arm ≤ 4 → planInRange compartment recipe request = true →
                 (s.load.state ≠ .opened → exec (.planCompartment (.host f)) s
                   = answered 0x32 f (.refused .wrongState) (frameTaken s))
                 ∧ (∀ r, s.load.state = .opened → s.load.record = some r → s.monitor.rackStop = true →
                     exec (.planCompartment (.host f)) s
                       = answered 0x32 f (.refused .rackStopped) (frameTaken s))))
         ∧ (∀ compartment recipe request : Nat,
             planInRange compartment recipe request = true ↔
               (1 ≤ compartment ∧ compartment ≤ 8 ∧ 1 ≤ recipe ∧ recipe ≤ 65535 ∧ 100 ≤ request
                 ∧ request ≤ 20000)))
    ∧ (∀ (s : State) (r : OpenLoad) (n : ArmId) (compartment recipe request preset : Nat) (p : Product),
         planGrant s r n compartment recipe request = .ok (preset, p) →
           (s.arm n).control.state = .idle
             ∧ (∃ q c, s.recipe recipe = some q ∧ s.products.get q.product = some p
                 ∧ (s.arm n).config.map (·.product) = some q.product ∧ s.plumbed q n = true
                 ∧ (s.vehicle r.vehicle).bind (·.compartment compartment) = some c
                 ∧ c.classes.getLsbD p.productClass.val = true
                 ∧ allocationCheck (s.account r.account) p.productClass p.basis request
                     (roomOf c compartment r) = .ok preset)
             ∧ r.classes.getLsbD p.productClass.val = true
             ∧ r.plan.length + r.lines.length < 8
             ∧ ∀ e ∈ r.plan, e.compartment ≠ compartment)
    ∧ ((∀ (s : State) (r : OpenLoad) (n : ArmId) (compartment recipe request : Nat),
           let grant := planGrant s r n compartment recipe request
           let place := (s.vehicle r.vehicle).bind (·.compartment compartment)
           ((s.arm n).control.state ≠ .idle → grant = .error (.refused .wrongState))
           ∧ ((s.arm n).control.state = .idle →
               (place = none → grant = .error (.refused .badValue))
               ∧ (∀ k, place = some k →
                   (s.recipe recipe = none → grant = .error (.denied .recipeUnknown))
                   ∧ (∀ q, s.recipe recipe = some q →
                       ((s.arm n).config.map (·.product) ≠ some q.product
                           ∨ s.plumbed q n = false →
                         grant = .error (.denied .recipeArmMismatch))
                       ∧ (∀ p, (s.arm n).config.map (·.product) = some q.product →
                           s.plumbed q n = true → s.products.get q.product = some p →
                           let check := allocationCheck (s.account r.account) p.productClass p.basis
                             request (roomOf k compartment r)
                           (r.classes.getLsbD p.productClass.val = false →
                             grant = .error (.denied .classNotAllowed))
                           ∧ (r.classes.getLsbD p.productClass.val = true →
                               (k.classes.getLsbD p.productClass.val = false →
                                 grant = .error (.denied .compartmentClass))
                               ∧ (k.classes.getLsbD p.productClass.val = true →
                                   (∀ d, check = .error d → grant = .error (.denied d))
                                   ∧ (∀ preset, check = .ok preset →
                                       (8 ≤ r.plan.length + r.lines.length →
                                         grant = .error (.refused .full))
                                       ∧ (r.plan.length + r.lines.length < 8 →
                                           ((∃ e ∈ r.plan, e.compartment = compartment) →
                                             grant = .error (.denied .compartmentBusy))
                                           ∧ ((∀ e ∈ r.plan, e.compartment ≠ compartment) →
                                               grant = .ok (preset, p)))))))))))
         ∧ (∀ (s : State) (q : Recipe) (n : ArmId), s.plumbed q n = true ↔
             ∀ x ∈ q.components, ∃ c, (s.injector x.injector).config = some c
               ∧ (c.firstArm = n ∨ c.secondArm = some n))
         ∧ (∀ (k : Compartment) (compartment : Nat) (r : OpenLoad),
             roomOf k compartment r = (k.capacity : Int)
               - ((r.lines.filter (·.compartment = compartment)).map fun l => (l.grossL : Int)).sum
               - ((r.plan.filter (·.compartment = compartment)).map fun e => (e.preset : Int)).sum))

/-- END LOAD from the host (R64, R65, R68): in REFERRED and VEHICLE_WAIT it abandons the identification;
in OPEN with an empty plan it seals the load under its cause; in NO_LOAD and ENDING it is WRONG STATE; a
cause other than DRIVER and HOST is BAD VALUE. In OPEN with a plan each arm of an ARMED entry is
returned to IDLE, each arm of an entry that is flowing or HELD enters CLOSING with outcome STOPPED, and
no other arm's state changes; the reservations of the ARMED entries are released and these entries leave
the plan. While an ACTIVE entry is left the load is ENDING under its cause, and with none left it is
sealed. What an arm keeps in IDLE is notes/assumptions/27.md. -/
def Obligations.EndLoadSealsOrStopsTheArms : Prop :=
  (∀ (f : Frame) (s : State) (cause : Nat), validFrame s 0x33 f = true →
     readFields [1] f.body = some [cause] →
       (endLoadCauseOf cause = none →
         exec (.endLoad (.host f)) s = answered 0x33 f (.refused .badValue) (frameTaken s))
       ∧ (∀ c, endLoadCauseOf cause = some c →
           s.load.state = .noLoad ∨ s.load.state = .ending →
           exec (.endLoad (.host f)) s = answered 0x33 f (.refused .wrongState) (frameTaken s))
       ∧ (∀ c, endLoadCauseOf cause = some c →
           s.load.state = .referred ∨ s.load.state = .vehicleWait →
           exec (.endLoad (.host f)) s = answered 0x33 f (.okWith (field 1 0))
             { frameTaken s with
               permit.referral := match s.permit.referral with | .pending _ _ => .empty | r => r
               permit.referralTimer := .stopped, permit.held := none
               load.state := .noLoad, load.identTimer := .stopped
               console.line1 := .presentCard, console.prompt := some .card })
       ∧ (∀ c r, endLoadCauseOf cause = some c → s.load.state = .opened →
           s.load.record = some r → r.plan = [] →
           exec (.endLoad (.host f)) s = answered 0x33 f (.okWith (field 1 0))
             (post .loadSealed 0 c.code r.note
               { frameTaken s with
                 store.notes := s.store.notes ++
                   [{ number := r.note, opened := r.opened, closed := s.port.clock, card := r.card,
                      vehicle := r.vehicle, account := r.account, source := r.source,
                      endCause := c, lines := r.lines }]
                 load.state := .noLoad, load.record := none, load.idleTimer := .stopped
                 console.line1 := .presentCard, console.line2 := .blank
                 console.prompt := some .card })))
    ∧ (∀ (cause : EndCause) (s : State) (n : ArmId), LoadStateSound s → PlanSound s →
         s.load.state = .opened →
           ((s.arm n).control.state = .armed → (s.arm n).inRun = false →
             ((endOpenLoad cause s).arm n).control.state = .idle)
           ∧ (((s.arm n).flowing = true ∨ (s.arm n).control.state = .held) → (s.arm n).inRun = false →
               ((endOpenLoad cause s).arm n).control.state = .closing
                 ∧ ((endOpenLoad cause s).arm n).control.outcome = some .stopped)
           ∧ ((s.arm n).control.state = .closing ∨ (s.arm n).control.state = .idle →
               ((endOpenLoad cause s).arm n).control.state = (s.arm n).control.state
                 ∧ ((endOpenLoad cause s).arm n).control.outcome = (s.arm n).control.outcome))
    ∧ (∀ (f : Frame) (s : State) (cause : Nat) (c : EndCause) (r : OpenLoad),
         validFrame s 0x33 f = true → readFields [1] f.body = some [cause] →
         endLoadCauseOf cause = some c → LoadStateSound s → PlanSound s → s.load.state = .opened →
         s.load.record = some r → r.plan ≠ [] →
           ∃ u : State, Released s u r.account (r.plan.filter (·.state = .armed))
             ∧ (∀ n : ArmId,
                 ((s.arm n).control.state = .armed → u.arm n = (s.arm n).toIdle)
                 ∧ (((s.arm n).flowing = true ∨ (s.arm n).control.state = .held) →
                     u.arm n =
                       { s.arm n with
                         channel.overspeedCount := 0
                         control.state := .closing, control.outcome := some .stopped
                         control.holdCause := none, control.closeGross := (s.arm n).figures.gross
                         control.valve := .closed, control.pump := false, control.flowTarget := 0
                         control.noFlowTimer := .stopped, control.settle := 0
                         control.closingTimer := .start 60000
                         components := (s.arm n).components.map fun x => { x with owed := 0 }
                         trailingTimer := .start 30000 })
                 ∧ ((s.arm n).control.state = .closing ∨ (s.arm n).control.state = .idle →
                     u.arm n = s.arm n))
             ∧ ((∃ e ∈ r.plan, e.state = .active) →
                 exec (.endLoad (.host f)) s = answered 0x33 f (.okWith (field 1 4))
                   { frameTaken s with
                     arms := u.arms, accounts := u.accounts
                     load.state := .ending, load.idleTimer := .stopped
                     load.record := some
                       { r with endCause := some c, plan := r.plan.filter (·.state ≠ .armed) }
                     console.line1 := .ending r.note, console.prompt := none })
             ∧ ((∀ e ∈ r.plan, e.state = .armed) →
                 exec (.endLoad (.host f)) s = answered 0x33 f (.okWith (field 1 0))
                   (post .loadSealed 0 c.code r.note
                     { frameTaken s with
                       arms := u.arms, accounts := u.accounts
                       store.notes := s.store.notes ++
                         [{ number := r.note, opened := r.opened, closed := s.port.clock
                            card := r.card, vehicle := r.vehicle, account := r.account
                            source := r.source, endCause := c, lines := r.lines }]
                       load.state := .noLoad, load.record := none, load.idleTimer := .stopped
                       console.line1 := .presentCard, console.line2 := .blank
                       console.prompt := some .card })))

/-- The idle timer's expiry (R66): it ends the load as END LOAD in OPEN does, with cause
IDLE_TIMEOUT and no reply, finds the plan empty, cancels nothing, stops nothing and seals the load
at once. That the expiry is taken while its timer runs is notes/assumptions/5.md. -/
def Obligations.IdleTimerSealsTheLoad : Prop :=
  ∀ (s : State) (r : OpenLoad), s.running = true → s.load.idleTimer.running = true →
    s.load.state = .opened → s.load.record = some r → r.plan = [] →
      exec .idleTimerExpiry s = .next (endOpenLoad .idleTimeout s)
        ∧ endOpenLoad .idleTimeout s = post .loadSealed 0 3 r.note
            { s with
              store.notes := s.store.notes ++
                [{ number := r.note, opened := r.opened, closed := s.port.clock, card := r.card,
                   vehicle := r.vehicle, account := r.account, source := r.source,
                   endCause := .idleTimeout, lines := r.lines }]
              load.state := .noLoad, load.record := none, load.idleTimer := .stopped
              console.line1 := .presentCard, console.line2 := .blank
              console.prompt := some .card }

/-- The reading requests answer OK with the record as it stands and alter no record (R18, R20, R41, R69,
R98, R123, R136, R140, R178); a driver, vehicle or account with no entry is NOT FOUND; and the lengths
of the fields after the status that the manual states. -/
def Obligations.ReadsAlterNoRecord : Prop :=
  (∀ (f : Frame) (s : State) (v : Nat),
     (validFrame s 0x12 f = true → readFields [5] f.body = some [v] → 1 ≤ v → v < 2 ^ 40 →
       ∀ d, s.driver v = some d →
         exec (.getDriver f) s = answered 0x12 f (.okWith (driverFields d)) (frameTaken s))
     ∧ (validFrame s 0x15 f = true → readFields [4] f.body = some [v] → 1 ≤ v → v ≤ 999999 →
         ∀ d, s.vehicle v = some d →
           exec (.getVehicle f) s = answered 0x15 f (.okWith (vehicleFields d)) (frameTaken s))
     ∧ (validFrame s 0x22 f = true → readFields [4] f.body = some [v] → 1 ≤ v →
         ∀ a, s.account v = some a →
           exec (.getAccount f) s = answered 0x22 f (.okWith (accountFields a)) (frameTaken s))
     ∧ (validFrame s 0x34 f = true → f.body = [] →
         exec (.getLoad f) s = answered 0x34 f
           (.okWith (field 1 s.load.state.code ++ s.loadFields ++ field 2 s.timerLeft
             ++ field 1 s.lines.length ++ field 1 s.plan.length
             ++ (s.plan.map PlanEntry.bytes).flatten)) (frameTaken s))
     ∧ (∀ n : ArmId, validFrame s 0x44 f = true → readFields [1] f.body = some [n.val + 1] →
         exec (.getTotals f) s = answered 0x44 f
           (.okWith (field 8 (s.arm n).totals.gross ++ field 8 (s.arm n).totals.batched
             ++ field 8 (s.arm n).totals.proving ++ field 8 (s.arm n).totals.unbatched
             ++ field 8 (s.arm n).totals.standard)) (frameTaken s))
     ∧ (∀ n : ArmId, validFrame s 0x43 f = true → readFields [1] f.body = some [n.val + 1] →
         exec (.getArm f) s = answered 0x43 f (.okWith (armFields (s.arm n))) (frameTaken s))
     ∧ (validFrame s 0x50 f = true → f.body = [] →
         exec (.getPermissives f) s = answered 0x50 f
           (.okWith (permissiveFields s.monitor s.bay.vapourRequired)) (frameTaken s))
     ∧ (∀ i : InjId, validFrame s 0x62 f = true → readFields [1] f.body = some [i.val + 1] →
         exec (.getInjector f) s = answered 0x62 f (.okWith (injectorFields (s.injector i)))
           (frameTaken s))
     ∧ (validFrame s 0x70 f = true → readFields [1] f.body = some [v] → v ≤ 8 →
         ∀ t rest bytes, s.store.notes = t :: rest → t.section v = some bytes →
           exec (.readNote f) s = answered 0x70 f (.okWith bytes) (frameTaken s)))
    ∧ (∀ (f : Frame) (s : State) (v : Nat),
         (validFrame s 0x12 f = true → readFields [5] f.body = some [v] → 1 ≤ v → v < 2 ^ 40 →
           s.driver v = none →
           exec (.getDriver f) s = answered 0x12 f (.refused .notFound) (frameTaken s))
         ∧ (validFrame s 0x15 f = true → readFields [4] f.body = some [v] → 1 ≤ v → v ≤ 999999 →
             s.vehicle v = none →
             exec (.getVehicle f) s = answered 0x15 f (.refused .notFound) (frameTaken s))
         ∧ (validFrame s 0x22 f = true → readFields [4] f.body = some [v] → 1 ≤ v →
             s.account v = none →
             exec (.getAccount f) s = answered 0x22 f (.refused .notFound) (frameTaken s)))
    ∧ ((∀ s : State, s.loadFields.length = 24)
         ∧ (∀ e : PlanEntry, e.bytes.length = 9)
         ∧ (∀ a : Arm, (armFields a).length = 35)
         ∧ (∀ m v, (permissiveFields m v).length = 20)
         ∧ (∀ j : Injector, (injectorFields j).length = 31)
         ∧ (∀ t : Note, t.headerBytes.length = 28)
         ∧ (∀ l : Line, l.bytes.length = 33 + 14 * l.entries.length)
         ∧ (∀ e : Event, e.bytes.length = 12))

/-- RELEASE NOTE (R179): the oldest note alone leaves the store; another number is NOT OLDEST, an empty
store NOT FOUND, 0 BAD VALUE. READ NOTE past the oldest note's sections is BAD VALUE (R178). -/
def Obligations.ReleaseTakesTheOldestNote : Prop :=
  ∀ (f : Frame) (s : State) (v : Nat),
    (validFrame s 0x71 f = true → readFields [4] f.body = some [v] →
      (v = 0 → exec (.releaseNote f) s = answered 0x71 f (.refused .badValue) (frameTaken s))
      ∧ (1 ≤ v → s.store.notes = [] →
          exec (.releaseNote f) s = answered 0x71 f (.refused .notFound) (frameTaken s))
      ∧ (∀ t rest, 1 ≤ v → s.store.notes = t :: rest → t.number ≠ v →
          exec (.releaseNote f) s = answered 0x71 f (.refused .notOldest) (frameTaken s))
      ∧ (∀ t rest, 1 ≤ v → s.store.notes = t :: rest → t.number = v →
          exec (.releaseNote f) s = answered 0x71 f .ok
            { frameTaken s with store.notes := rest }))
    ∧ (validFrame s 0x70 f = true → readFields [1] f.body = some [v] →
        (8 < v → exec (.readNote f) s = answered 0x70 f (.refused .badValue) (frameTaken s))
        ∧ (v ≤ 8 → s.store.notes = [] →
            exec (.readNote f) s = answered 0x70 f (.refused .notFound) (frameTaken s))
        ∧ (∀ t rest, v ≤ 8 → s.store.notes = t :: rest → t.lines.length < v →
            exec (.readNote f) s = answered 0x70 f (.refused .badValue) (frameTaken s)))

/-! ### Metering -/

/-- METER PULSE (R79): a pulse adds one to its counter on a configured arm; channel B of a
single-channel arm and both channels of an arm that is not configured are not counted. -/
def Obligations.MeterPulsesAreCounted : Prop :=
  ∀ (n : ArmId) (s : State), s.running = true →
    (∀ c, (s.arm n).config = some c →
      exec (.meterPulse n .a) s = .next { s with
        arms := s.arms.set n
          { s.arm n with channel.pulsesA := (s.arm n).channel.pulsesA + 1 } }
      ∧ (c.singleChannel = false → exec (.meterPulse n .b) s = .next { s with
          arms := s.arms.set n
            { s.arm n with channel.pulsesB := (s.arm n).channel.pulsesB + 1 } })
      ∧ (c.singleChannel = true → exec (.meterPulse n .b) s = .next s))
    ∧ ((s.arm n).config = none → ∀ ch, exec (.meterPulse n ch) s = .next s)

/-- A sample of an arm in IDLE or ARMED (R79 to R83, R96, R99): the whole state after it. The counters
are taken, the gross increment and the remainder are the quotient and the rest by the K-factor, the
increment joins the window, the gross totalizer, the unbatched gross and the unbatched-since-idle
figure, and a crossing of 10,000 mL is posted. -/
def Obligations.SampleAtRestMetersUnbatched : Prop :=
  ∀ (n : ArmId) (probe : Option Int) (s : State) (c : ArmConfig) (p : Product) (ch : MeterChannel)
    (t : Int),
    s.running = true → (s.arm n).config = some c → s.products.get c.product = some p →
    (s.arm n).control.state = .idle ∨ (s.arm n).control.state = .armed →
    (s.arm n).inRun = false → settleTemperature p probe (s.arm n).channel = (ch, t) →
      let a := s.arm n
      let num := a.channel.pulsesA * meterFactor a.curve a.channel.rate * 100 + a.channel.remainder
      let delta := num / c.kFactor
      let window := windowWith delta a.channel.window
      let after := min 4294967295 (a.channel.unbatched + delta)
      num < 2 ^ 64 → a.totals.gross + delta < 2 ^ 64 → a.totals.unbatched + delta < 2 ^ 64 →
      let u : State := { s with
        arms := s.arms.set n
          { a with
            sampleTimer := .start 100
            channel :=
              { ch with
                pulsesA := 0, pulsesB := 0, remainder := num % c.kFactor, window := window
                rate := window.sum * 6 / 100, unbatched := after }
            totals :=
              { a.totals with
                gross := a.totals.gross + delta, unbatched := a.totals.unbatched + delta } } }
      exec (.sample n probe) s = .next
        (if a.channel.unbatched / 10000 < after / 10000 then
          post .unbatchedFlow (n.val + 1) 0 after u
        else u)

/-- A sample of an arm beyond ARMED (R79 to R87, R96): it completes, and its figures, its channel and
its totals are those of the seven stages whatever the controllers do with it. A valid reading is the
last valid temperature and ends substitution; without one the last valid temperature stays, the
substitute is used when it is above 10 s old or there is none, and TEMP_SUBSTITUTED is then set (R83;
that the time is counted by 100 ms a sample is notes/assumptions/26.md). A limited CTL sets
CORRECTION_LIMITED (R86), and neither flag is cleared. The bounds rule out a figure beyond its width
(notes/assumptions/12.md). -/
def Obligations.SampleAdvancesTheFigures : Prop :=
  ∀ (n : ArmId) (probe : Option Int) (s : State) (c : ArmConfig) (p : Product),
    s.running = true → (s.arm n).config = some c → s.products.get c.product = some p →
    (s.arm n).beyondArmed = true →
      let a := s.arm n
      let num := a.channel.pulsesA * meterFactor a.curve a.channel.rate * 100 + a.channel.remainder
      let delta := num / c.kFactor
      let t := (settleTemperature p probe a.channel).2
      num < 2 ^ 64 → a.figures.gross + delta < 2 ^ 31 →
      a.figures.aTotal + a.channel.pulsesA < 2 ^ 32 →
      a.figures.bTotal + a.channel.pulsesB < 2 ^ 32 →
      -(2 ^ 63) ≤ a.figures.sumTV + t * delta → a.figures.sumTV + t * delta < 2 ^ 63 →
      a.totals.gross + delta < 2 ^ 64 → a.totals.batched + delta < 2 ^ 64 →
      a.totals.proving + delta < 2 ^ 64 →
        ∃ u, exec (.sample n probe) s = .next u
          ∧ (u.arm n).figures.gross = a.figures.gross + delta
          ∧ (u.arm n).figures.sumTV = a.figures.sumTV + t * delta
          ∧ (u.arm n).figures.aTotal = a.figures.aTotal + a.channel.pulsesA
          ∧ (u.arm n).figures.bTotal = a.figures.bTotal + a.channel.pulsesB
          ∧ (u.arm n).figures.fwa
              = fwaOf (u.arm n).figures.sumTV (u.arm n).figures.gross t
          ∧ (u.arm n).figures.ctl = limitedCtl (rawCtl p (u.arm n).figures.fwa)
          ∧ (u.arm n).figures.standard
              = roundHalfUp ((u.arm n).figures.gross * (u.arm n).figures.ctl) 100000
          ∧ (u.arm n).figures.correctionLimited
              = (a.figures.correctionLimited || decide (rawCtl p (u.arm n).figures.fwa < 90000
                  ∨ 110000 < rawCtl p (u.arm n).figures.fwa))
          ∧ (∀ v, validReading p probe = some v →
              (u.arm n).channel.lastValid = some v ∧ (u.arm n).channel.sinceValid = 0
                ∧ (u.arm n).channel.substituting = false ∧ t = v
                ∧ (u.arm n).figures.tempSubstituted = a.figures.tempSubstituted)
          ∧ (validReading p probe = none →
              (u.arm n).channel.lastValid = a.channel.lastValid
                ∧ (u.arm n).channel.sinceValid = a.channel.sinceValid + 100
                ∧ (∀ v, a.channel.lastValid = some v → a.channel.sinceValid + 100 ≤ 10000 →
                    t = v ∧ (u.arm n).channel.substituting = a.channel.substituting
                      ∧ (u.arm n).figures.tempSubstituted
                          = (a.figures.tempSubstituted || a.channel.substituting))
                ∧ (a.channel.lastValid = none ∨ 10000 < a.channel.sinceValid + 100 →
                    t = p.substitute ∧ (u.arm n).channel.substituting = true
                      ∧ (u.arm n).figures.tempSubstituted = true))
          ∧ (∀ v, validReading p probe = some v ↔ (probe = some v ∧ readingValid p v = true))
          ∧ (u.arm n).channel.pulsesA = 0 ∧ (u.arm n).channel.pulsesB = 0
          ∧ (u.arm n).channel.remainder = num % c.kFactor
          ∧ (u.arm n).channel.window = windowWith delta a.channel.window
          ∧ (u.arm n).channel.rate = (windowWith delta a.channel.window).sum * 6 / 100
          ∧ (u.arm n).totals.gross = a.totals.gross + delta
          ∧ (u.arm n).totals.unbatched = a.totals.unbatched
          ∧ (a.inRun = true → (u.arm n).totals.proving = a.totals.proving + delta
              ∧ (u.arm n).totals.batched = a.totals.batched)
          ∧ (a.inRun = false → (u.arm n).totals.batched = a.totals.batched + delta
              ∧ (u.arm n).totals.proving = a.totals.proving)

/-- The sample of one arm leaves the others' records as they are, but for owed shots that a shared
injector takes up; it changes no table, no input, no permit and no setting (R79, R146). -/
def Obligations.SampleLeavesOtherArms : Prop :=
  ∀ (n : ArmId) (probe : Option Int) (s u : State), exec (.sample n probe) s = .next u →
    (∀ k, k ≠ n →
        ∃ components, u.arm k = { s.arm k with components := components }
          ∧ components.map (fun x => { x with owed := 0 })
              = (s.arm k).components.map (fun x => { x with owed := 0 })
          ∧ ∀ x ∈ components, ∃ y ∈ (s.arm k).components,
              x.injector = y.injector ∧ x.owed ≤ y.owed)
      ∧ (∀ i, (u.injector i).config = (s.injector i).config)
      ∧ u.products = s.products ∧ u.recipes = s.recipes ∧ u.monitor = s.monitor ∧ u.bay = s.bay
      ∧ u.permit = s.permit ∧ u.port.clock = s.port.clock ∧ u.backup = s.backup
      ∧ u.pending = s.pending

/-- The meter factor (R82): the factor in force is read at the rate held before the sample; 10000
without a curve, the one factor of one point, the first and last points' factors outside the curve, the
truncated interpolation between two neighbours, which lies between their factors, and always between
the smallest and the largest allowed factor. -/
def Obligations.MeterFactorFollowsTheCurve : Prop :=
  (∀ (c : ArmConfig) (p : Product) (probe : Option Int) (a : Arm),
      (a.engine c p probe).2.factor = meterFactor a.curve a.channel.rate)
    ∧ (∀ r, meterFactor [] r = 10000)
    ∧ (∀ (p : CurvePoint) (r : Nat), meterFactor [p] r = p.factor)
    ∧ (∀ (a b : CurvePoint) (rest : List CurvePoint) (r : Nat), r ≤ a.rate →
        meterFactor (a :: b :: rest) r = a.factor)
    ∧ (∀ (l : List CurvePoint) (z : CurvePoint) (r : Nat), ascending (l ++ [z]) = true →
        z.rate ≤ r → meterFactor (l ++ [z]) r = z.factor)
    ∧ (∀ (l rest : List CurvePoint) (a b : CurvePoint) (r : Nat),
        ascending (l ++ a :: b :: rest) = true → a.rate < r → r ≤ b.rate →
        (meterFactor (l ++ a :: b :: rest) r : Int)
            = a.factor + (((b.factor : Int) - a.factor) * ((r : Int) - a.rate)).tdiv
                ((b.rate : Int) - a.rate)
          ∧ min a.factor b.factor ≤ meterFactor (l ++ a :: b :: rest) r
          ∧ meterFactor (l ++ a :: b :: rest) r ≤ max a.factor b.factor)
    ∧ meterFactor [⟨1800, 10012⟩, ⟨3000, 10005⟩] 2400 = 10009
    ∧ (∀ (l : List CurvePoint) (r : Nat), curveValid l = true →
        9000 ≤ meterFactor l r ∧ meterFactor l r ≤ 11000)

/-- The stages' arithmetic (R81, R83, R85, R86, R88): a window of at most ten values whose oldest leaves
first; a temperature within −4000 to 8000 from a reading, a last valid reading of at most 10 s or the
substitute; a weighted temperature within its readings' range and within half a unit of the quotient, a
tie away from zero (R85); the CTL of a temperature by its two terms in parts per 10⁹ (R86); a limited
CTL with its flag; standard mL and litres rounded half up (R87, R88). That the time since the last valid
reading is counted by 100 ms a sample is the model's choice, notes/assumptions/26.md. -/
def Obligations.StageArithmetic : Prop :=
  (∀ (d : Nat) (w : List Nat), w.length < 10 → windowWith d w = w ++ [d])
    ∧ (∀ (d o : Nat) (w : List Nat), w.length = 9 → windowWith d (o :: w) = w ++ [d])
    ∧ (∀ (p : Product) (t : Int) (c : MeterChannel), readingValid p t = true →
        settleTemperature p (some t) c
          = ({ c with lastValid := some t, sinceValid := 0, substituting := false }, t)
          ∧ -4000 ≤ t ∧ t ≤ 8000 ∧ p.lowLimit ≤ t ∧ t ≤ p.highLimit)
    ∧ (∀ (p : Product) (probe : Option Int) (t : Int) (c : MeterChannel),
        validReading p probe = none → c.lastValid = some t → c.sinceValid + 100 ≤ 10000 →
        settleTemperature p probe c = ({ c with sinceValid := c.sinceValid + 100 }, t))
    ∧ (∀ (p : Product) (probe : Option Int) (c : MeterChannel),
        validReading p probe = none → c.lastValid = none ∨ 10000 < c.sinceValid + 100 →
        settleTemperature p probe c
          = ({ c with sinceValid := c.sinceValid + 100, substituting := true }, p.substitute))
    ∧ (∀ (v t : Int) (g : Nat), 0 < g → -4000 * (g : Int) ≤ v → v ≤ 8000 * (g : Int) →
        -4000 ≤ fwaOf v g t ∧ fwaOf v g t ≤ 8000
          ∧ 2 * (fwaOf v g t * g - v) ≤ g ∧ 2 * (v - fwaOf v g t * g) ≤ g)
    ∧ (∀ v t : Int, fwaOf v 0 t = t)
    ∧ (∀ (v t : Int) (g : Nat), 0 < g →
        fwaOf (-v) g t = -fwaOf v g t
          ∧ (0 ≤ v → 2 * g * fwaOf v g t ≤ 2 * v + g ∧ 2 * v + g < 2 * g * (fwaOf v g t + 1)))
    ∧ (∀ (p : Product) (fwa : Int),
        let dT := fwa - p.baseTemp
        let ppb := 1000000000 - p.alpha * dT - p.beta * dT * dT / 10000
        20000 * rawCtl p fwa ≤ 2 * ppb + 10000 ∧ 2 * ppb + 10000 < 20000 * (rawCtl p fwa + 1))
    ∧ (∀ a b : Nat, 0 < b →
        2 * b * roundHalfUp a b ≤ 2 * a + b ∧ 2 * a + b < 2 * b * (roundHalfUp a b + 1))
    ∧ (∀ r : Int, 90000 ≤ limitedCtl r ∧ limitedCtl r ≤ 110000
        ∧ (ctlLimited r = false → (limitedCtl r : Int) = r)
        ∧ (r < 90000 → ctlLimited r = true ∧ limitedCtl r = 90000)
        ∧ (110000 < r → ctlLimited r = true ∧ limitedCtl r = 110000))
    ∧ (∀ ml : Nat, 1000 * litres ml ≤ ml + 500 ∧ ml + 500 < 1000 * litres ml + 1000)

/-- Meter faults and overspeed (R90, R91, R93 to R95): a discrepancy above the limit holds a flowing
arm, flags the batch and suspends the check, an overspeed at the thirtieth sample holds it, the first
fault offered fills the capture record and later ones are counted, and READ METER FAULT returns the
record and empties it. METER FAULT is posted with the discrepancy, before BATCH HELD; a sample with both
holds for one of them (notes/assumptions/13.md), and a hold comes before the close test of the same
sample (notes/assumptions/16.md). A fault found in CLOSING is flagged, posted and captured and holds
nothing. -/
def Obligations.MeterFaultHoldsAndIsCaptured : Prop :=
  (∀ (n : ArmId) (s : State), s.capture = none →
      offerFault n s = { s with
        capture := some
          { arm := n, aCount := (s.arm n).figures.aTotal, bCount := (s.arm n).figures.bTotal,
            gross := (s.arm n).figures.gross, clock := s.port.clock, faultsSince := 0 } })
    ∧ (∀ (n : ArmId) (s : State) (k : Capture), s.capture = some k →
        offerFault n s
          = { s with capture := some { k with faultsSince := min 255 (k.faultsSince + 1) } })
    ∧ (∀ (f : Frame) (s : State), validFrame s 0x45 f = true → f.body = [] →
        (s.capture = none →
          exec (.readMeterFault f) s = answered 0x45 f (.refused .notFound) (frameTaken s))
        ∧ (∀ k, s.capture = some k →
            exec (.readMeterFault f) s = answered 0x45 f
              (.okWith (field 1 (k.arm.val + 1) ++ field 1 1 ++ field 4 k.aCount
                ++ field 4 k.bCount ++ field 4 k.gross ++ field 4 k.clock.toNat
                ++ field 1 k.faultsSince))
              { frameTaken s with capture := none }))
    ∧ (∀ (n : ArmId) (probe : Option Int) (s : State) (c : ArmConfig) (p : Product),
        s.running = true → (s.arm n).config = some c → s.products.get c.product = some p →
        (s.arm n).flowing = true →
          let a := ((s.arm n).engine c p probe).1
          let fast : Prop :=
            30 ≤ overspeedCountWith c a.channel.rate (s.arm n).channel.overspeedCount
          let apart : Prop := c.singleChannel = false ∧ (s.arm n).channel.integrityArmed = true
            ∧ c.integrityLimit < discrepancy a.figures
          (apart → ¬fast → ∃ u, exec (.sample n probe) s = .next u
            ∧ (u.arm n).control.state = .held ∧ (u.arm n).control.holdCause = some .meterFault
            ∧ (u.arm n).atRest ∧ (u.arm n).figures.meterFault = true
            ∧ (u.arm n).channel.integrityArmed = false ∧ u.capture.isSome = true
            ∧ u.capture = (offerFault n (s.setArm n a)).capture
            ∧ u.port = (post .batchHeld (n.val + 1) 3 a.figures.gross
                (post .meterFault (n.val + 1) 1 (discrepancy a.figures) s)).port)
          ∧ (fast → ¬apart → ∃ u, exec (.sample n probe) s = .next u
            ∧ (u.arm n).control.state = .held ∧ (u.arm n).control.holdCause = some .overspeed
            ∧ (u.arm n).atRest ∧ (u.arm n).channel.overspeedCount = 0
            ∧ u.capture = s.capture
            ∧ u.port = (post .batchHeld (n.val + 1) 4 a.figures.gross s).port)
          ∧ (fast → apart → ∃ u k, exec (.sample n probe) s = .next u
            ∧ (k = .meterFault ∨ k = .overspeed)
            ∧ (u.arm n).control.state = .held ∧ (u.arm n).control.holdCause = some k
            ∧ (u.arm n).atRest ∧ (u.arm n).figures.meterFault = true
            ∧ (u.arm n).channel.integrityArmed = false
            ∧ u.capture = (offerFault n (s.setArm n a)).capture
            ∧ u.port = (post .batchHeld (n.val + 1) k.code a.figures.gross
                (post .meterFault (n.val + 1) 1 (discrepancy a.figures) s)).port))
    ∧ (∀ (n : ArmId) (probe : Option Int) (s : State) (c : ArmConfig) (p : Product),
        s.running = true → (s.arm n).config = some c → s.products.get c.product = some p →
        (s.arm n).control.state = .closing →
          let a := ((s.arm n).engine c p probe).1
          c.singleChannel = false → (s.arm n).channel.integrityArmed = true →
          c.integrityLimit < discrepancy a.figures →
            ∃ u, exec (.sample n probe) s = .next u
              ∧ (u.arm n).control.state ≠ .held ∧ (u.arm n).figures.meterFault = true
              ∧ (u.arm n).channel.integrityArmed = false
              ∧ u.capture = (offerFault n (s.setArm n a)).capture
              ∧ (s.port.events.length < 32 → u.port.events[s.port.events.length]? = some
                  { kind := .meterFault, arm := n.val + 1, code := 1
                    value := discrepancy a.figures, clock := s.port.clock }))
    ∧ (∀ f : Figures, discrepancy f = max f.aTotal f.bTotal - min f.aTotal f.bTotal)

/-- The ranges of PUT PRODUCT, PUT ARM and PUT INJECTOR: the fields give an entry exactly when every one
of them lies in its range (R75, R77, R101, R139). The entries that the fields of PUT PRODUCT and PUT
INJECTOR give, with the signed fields (R6) and the values that a coding stands for; that of PUT ARM is
in `MeteringConfigurationIsWritten`. -/
def Obligations.FieldRanges : Prop :=
  (∀ code cls base alpha beta low high subst basis : Nat,
      (productOf code cls base alpha beta low high subst basis).isSome = true ↔
        (code ≠ 0 ∧ cls ≤ 7 ∧ (base = 1500 ∨ base = 2000) ∧ alpha ≤ 30000 ∧ beta ≤ 5000
          ∧ -4000 ≤ signedOf 2 low ∧ signedOf 2 low ≤ signedOf 2 high ∧ signedOf 2 high ≤ 8000
          ∧ signedOf 2 low ≤ signedOf 2 subst ∧ signedOf 2 subst ≤ signedOf 2 high ∧ basis ≤ 1))
    ∧ (∀ product k single low high start slow overspeed noFlow resume overrun late integrity : Nat,
        (armConfigOf product k single low high start slow overspeed noFlow resume overrun late
            integrity).isSome = true ↔
          (1 ≤ product ∧ product ≤ 8 ∧ 1000 ≤ k ∧ k ≤ 100000000 ∧ single ≤ 1
            ∧ 50 ≤ low ∧ low ≤ 1000 ∧ 200 ≤ high ∧ high ≤ 5000 ∧ low ≤ high
            ∧ 50 ≤ start ∧ start ≤ 2000 ∧ 50 ≤ slow ∧ slow ≤ 2000
            ∧ 200 ≤ overspeed ∧ overspeed ≤ 6000 ∧ high ≤ overspeed
            ∧ (noFlow = 0 ∨ (5 ≤ noFlow ∧ noFlow ≤ 120)) ∧ (resume = 255 ∨ resume ≤ 15)
            ∧ overrun ≤ 50000 ∧ (late = 0xFFFFFFFF ∨ late ≤ 200000)
            ∧ (integrity = 0 ∨ (2 ≤ integrity ∧ integrity ≤ 100))))
    ∧ (∀ code k shot limit tolerance fault cls first second scheme creep : Nat,
        (injectorConfigOf code k shot limit tolerance fault cls first second scheme creep).isSome
            = true ↔
          (code ≠ 0 ∧ 100 ≤ k ∧ k ≤ 100000 ∧ 1 ≤ shot ∧ shot ≤ 500 ∧ 200 ≤ limit ∧ limit ≤ 10000
            ∧ 1 ≤ tolerance ∧ tolerance ≤ 50 ∧ fault ≤ 10 ∧ cls ≤ 1 ∧ 1 ≤ first ∧ first ≤ 4
            ∧ second ≤ 4 ∧ second ≠ first ∧ scheme ≤ 1 ∧ (creep ≤ 1000 ∨ creep = 0xFFFF)))
    ∧ ((∀ (code cls base alpha beta low high subst basis : Nat) (p : Product),
           productOf code cls base alpha beta low high subst basis = some p →
             p = { code := code, productClass := p.productClass, baseTemp := base, alpha := alpha
                   beta := beta, lowLimit := signedOf 2 low, highLimit := signedOf 2 high
                   substitute := signedOf 2 subst
                   basis := if basis = 0 then .gross else .standard }
               ∧ p.productClass.val = cls)
         ∧ (∀ v : Nat, (v < 32768 → signedOf 2 v = v)
             ∧ (32768 ≤ v → signedOf 2 v = (v : Int) - 65536))
         ∧ (∀ (code k shot limit tolerance fault cls first second scheme creep : Nat)
              (c : InjectorConfig),
             injectorConfigOf code k shot limit tolerance fault cls first second scheme creep
               = some c →
               c = { additiveCode := code, meterK := k, shotMl := shot, shotTimeLimit := limit
                     tolerance := tolerance, faultLimit := if fault = 0 then 3 else fault
                     injectorClass := if cls = 0 then .mandatory else .optional
                     firstArm := c.firstArm, secondArm := c.secondArm
                     scheme := if scheme = 0 then .roundRobin else .fixed
                     creepLimit := if creep = 0xFFFF then 20 else creep }
                 ∧ c.firstArm.val + 1 = first
                 ∧ (second = 0 → c.secondArm = none)
                 ∧ (second ≠ 0 → ∃ b, c.secondArm = some b ∧ b.val + 1 = second)))

/-- PUT PRODUCT and PUT METER CURVE write one entry and nothing else (R75, R78, R165); a curve is taken
when its rates and factors lie in their ranges and its rates ascend strictly (R78). PUT ARM (R77, R101,
R165): out of range BAD VALUE, beyond IDLE IN USE, an empty product NOT FOUND; accepted, the settings
are written, the channel record is cleared but for the integrity check, the overrun estimate is the
initial one, the pacing count 0, and the sample timer runs. -/
def Obligations.MeteringConfigurationIsWritten : Prop :=
  (∀ (f : Frame) (s : State),
     (∀ (i : Fin 8) (code cls base alpha beta low high subst basis : Nat),
       validFrame s 0x40 f = true →
       readFields [1, 2, 1, 2, 2, 2, 2, 2, 2, 1] f.body
         = some [i.val + 1, code, cls, base, alpha, beta, low, high, subst, basis] →
         (productOf code cls base alpha beta low high subst basis = none →
           exec (.putProduct f) s = answered 0x40 f (.refused .badValue) (frameTaken s))
         ∧ (∀ p, productOf code cls base alpha beta low high subst basis = some p →
             ((∃ k, k ≠ i ∧ (s.products.get k).map (·.code) = some code) →
               exec (.putProduct f) s = answered 0x40 f (.refused .badValue) (frameTaken s))
             ∧ ((∀ k, k ≠ i → (s.products.get k).map (·.code) ≠ some code) →
                 s.productInUse i = true →
                 exec (.putProduct f) s = answered 0x40 f (.refused .inUse) (frameTaken s))
             ∧ ((∀ k, k ≠ i → (s.products.get k).map (·.code) ≠ some code) →
                 s.productInUse i = false →
                 exec (.putProduct f) s = answered 0x40 f .ok
                   { frameTaken s with products := s.products.set i (some p) })))
     ∧ (∀ (n : ArmId) (m : Nat) (rest : List Nat), validFrame s 0x42 f = true →
         2 ≤ f.body.length → beNat ((f.body.drop 1).take 1) = m → 1 ≤ m → m ≤ 4 →
         readFields ([1, 1] ++ (List.replicate m [2, 2]).flatten) f.body
           = some ((n.val + 1) :: m :: rest) →
           let points := (pairs rest).map fun p => ({ rate := p.1, factor := p.2 } : CurvePoint)
           (curveValid points = false →
             exec (.putMeterCurve f) s = answered 0x42 f (.refused .badValue) (frameTaken s))
           ∧ (curveValid points = true → (s.arm n).beyondArmed = true →
               exec (.putMeterCurve f) s = answered 0x42 f (.refused .inUse) (frameTaken s))
           ∧ (curveValid points = true → (s.arm n).beyondArmed = false →
               exec (.putMeterCurve f) s = answered 0x42 f .ok
                 { frameTaken s with
                   arms := s.arms.set n { s.arm n with curve := points, result := none } })))
    ∧ (∀ (f : Frame) (s : State) (n : ArmId) (product k single low high start slow overspeed noFlow resume
           overrun late integrity : Nat),
         validFrame s 0x41 f = true →
         readFields [1, 1, 4, 1, 2, 2, 2, 2, 2, 1, 1, 2, 4, 1] f.body
           = some [n.val + 1, product, k, single, low, high, start, slow, overspeed, noFlow, resume,
                   overrun, late, integrity] →
           (armConfigOf product k single low high start slow overspeed noFlow resume overrun late
               integrity = none →
             exec (.putArm f) s = answered 0x41 f (.refused .badValue) (frameTaken s))
           ∧ (∀ c, armConfigOf product k single low high start slow overspeed noFlow resume overrun late
                 integrity = some c →
               ((s.arm n).control.state ≠ .idle →
                 exec (.putArm f) s = answered 0x41 f (.refused .inUse) (frameTaken s))
               ∧ ((s.arm n).control.state = .idle → s.products.get c.product = none →
                   exec (.putArm f) s = answered 0x41 f (.refused .notFound) (frameTaken s))
               ∧ ((s.arm n).control.state = .idle → (s.products.get c.product).isSome = true →
                   exec (.putArm f) s = answered 0x41 f .ok
                     { frameTaken s with
                       arms := s.arms.set n
                         { s.arm n with
                           config := some c, result := none
                           sampleTimer :=
                             if (s.arm n).sampleTimer.running then (s.arm n).sampleTimer
                             else .start 100
                           channel :=
                             { MeterChannel.cleared with
                               integrityArmed := (s.arm n).channel.integrityArmed }
                           control.overrun := overrun, control.pacing := 0 } })
               ∧ c = { product := c.product, kFactor := k, singleChannel := decide (single = 1),
                       overspeedRate := overspeed,
                       integrityLimit := if integrity = 0 then 10 else integrity, lowTarget := low,
                       highTarget := high, startVolume := start, slowdownVolume := slow,
                       noFlowTimeout := if noFlow = 0 then 30 else noFlow,
                       resumeLimit := if resume = 255 then 3 else resume,
                       lateClose := if late = 0xFFFFFFFF then 10000 else late }
               ∧ c.product.val + 1 = product))
    ∧ (∀ l : List CurvePoint, curveValid l = true ↔
         (∀ p ∈ l, p.rate ≤ 6000 ∧ 9000 ≤ p.factor ∧ p.factor ≤ 11000)
           ∧ l.Pairwise fun a b => a.rate < b.rate)

/-! ### Arm batch control -/

/-- START ARM from the host (R84, R104, R105): the checks in their order, and the whole state after an
accepted start. That FWA and CTL stay until the first sample is notes/assumptions/39.md. The checks of
START ARM and of RESUME ARM, and the clearing of the hold causes, case by case (R104, R117, section
6.5). -/
def Obligations.StartArmStartsTheBatch : Prop :=
  (∀ (f : Frame) (s : State) (n : ArmId), validFrame s 0x48 f = true →
     readFields [1] f.body = some [n.val + 1] →
       ((s.arm n).control.state ≠ .armed →
         exec (.startArm (.host f)) s = answered 0x48 f (.refused .wrongState) (frameTaken s))
       ∧ (∀ b c, (s.arm n).control.state = .armed → (s.arm n).control.binding = some b →
           (s.arm n).config = some c →
           (∀ a, startRefusal s n b = some a →
             exec (.startArm (.host f)) s = answered 0x48 f a (frameTaken s))
           ∧ (startRefusal s n b = none →
               exec (.startArm (.host f)) s = answered 0x48 f .ok
                 (post .batchStarted (n.val + 1) b.compartment b.preset
                   { frameTaken s with
                     load.record := s.load.record.map fun r =>
                       { r with plan := r.plan.map fun e =>
                           if e.arm = n then { e with state := .active } else e }
                     load.idleTimer := .stopped
                     arms := s.arms.set n
                       { s.arm n with
                         figures :=
                           { Figures.zero with
                             fwa := (s.arm n).figures.fwa, ctl := (s.arm n).figures.ctl }
                         channel.integrityArmed := true, channel.overspeedCount := 0
                         control.state := .starting, control.stageBase := 0
                         control.resumeCount := 0, control.permissiveHold := false
                         control.couplerLost := false, control.paced := false
                         control.debtReduced := false, control.flowTarget := c.lowTarget
                         control.valve := .hold, control.pump := true
                         control.noFlowTimer := .start (c.noFlowTimeout * 1000)
                         components := newComponents s b.recipe } }))))
    ∧ ((∀ (s : State) (n : ArmId) (b : Binding),
           (s.monitor.rackStop = true → startRefusal s n b = some (.refused .rackStopped))
           ∧ (s.monitor.rackStop = false →
               ((s.monitor.stow.get n).accepted ≠ 1 →
                 startRefusal s n b = some (.denied .armStowed))
               ∧ ((s.monitor.stow.get n).accepted = 1 →
                   ((s.monitor.coupler.get n).accepted ≠ b.compartment →
                     startRefusal s n b = some (.denied .wrongCompartment))
                   ∧ ((s.monitor.coupler.get n).accepted = b.compartment →
                       ((∃ k, k ≠ n ∧ (s.arm k).control.state ≠ .idle
                           ∧ (s.arm k).control.binding.map (·.compartment) = some b.compartment) →
                         startRefusal s n b = some (.denied .compartmentBusy))
                       ∧ ((∀ k, k ≠ n → (s.arm k).control.state ≠ .idle →
                             (s.arm k).control.binding.map (·.compartment) ≠ some b.compartment) →
                           (s.monitor.permissiveOk = false →
                             startRefusal s n b = some (.denied .permissive))
                           ∧ (s.monitor.permissiveOk = true → s.injectorsReady b.recipe = false →
                               startRefusal s n b = some (.denied .injectorUnavailable))
                           ∧ (s.monitor.permissiveOk = true → s.injectorsReady b.recipe = true →
                               startRefusal s n b = none))))))
         ∧ (∀ (s : State) (r : Recipe) (code : Nat), s.recipe code = some r →
             (s.injectorsReady code = true ↔
               ∀ x ∈ r.components, ∀ c, (s.injector x.injector).config = some c →
                 c.injectorClass = .mandatory →
                 (s.injector x.injector).state ≠ .faulted
                   ∧ ∀ p, (s.injector x.injector).state ≠ .proving p))
         ∧ (∀ (s : State) (n : ArmId),
             ((s.arm n).control.holdCause = some .permissive →
               holdCleared s n = s.monitor.permissiveOk)
             ∧ ((s.arm n).control.holdCause = some .coupler →
                 (holdCleared s n = true ↔ (s.monitor.coupler.get n).accepted = (s.arm n).wantedCode
                   ∧ (s.monitor.stow.get n).accepted = 1))
             ∧ ((s.arm n).control.holdCause = some .meterFault
                 ∨ (s.arm n).control.holdCause = some .overspeed
                 ∨ (s.arm n).control.holdCause = some .noFlow → holdCleared s n = true))
         ∧ (∀ (s : State) (n : ArmId),
             (s.monitor.permissiveOk = false → resumeRefusal s n = some (.denied .permissive))
             ∧ (s.monitor.permissiveOk = true → (s.monitor.stow.get n).accepted ≠ 1 →
                 resumeRefusal s n = some (.denied .armStowed))
             ∧ (s.monitor.permissiveOk = true → (s.monitor.stow.get n).accepted = 1 →
                 (s.monitor.coupler.get n).accepted ≠ (s.arm n).wantedCode →
                 resumeRefusal s n = some (.denied .wrongCompartment))
             ∧ (s.monitor.permissiveOk = true → (s.monitor.stow.get n).accepted = 1 →
                 (s.monitor.coupler.get n).accepted = (s.arm n).wantedCode → (s.arm n).inRun = true →
                 resumeRefusal s n = none)
             ∧ (∀ b, s.monitor.permissiveOk = true → (s.monitor.stow.get n).accepted = 1 →
                 (s.monitor.coupler.get n).accepted = (s.arm n).wantedCode →
                 (s.arm n).inRun = false → (s.arm n).control.binding = some b →
                 (s.injectorsReady b.recipe = false →
                   resumeRefusal s n = some (.denied .injectorUnavailable))
                 ∧ (s.injectorsReady b.recipe = true → resumeRefusal s n = none)))
         ∧ (∀ (s : State) (n : ArmId),
             ((s.arm n).control.holdCause = none → holdCleared s n = false)
             ∧ (∀ b r, (s.arm n).control.holdCause = some .additiveFault →
                 (s.arm n).control.binding = some b → s.recipe b.recipe = some r →
                 (holdCleared s n = true ↔
                   ∀ x ∈ r.components, ∀ c, (s.injector x.injector).config = some c →
                     c.injectorClass = .mandatory → (s.injector x.injector).state ≠ .faulted))))

/-- STOP ARM (R116, R120, R155): a flowing or HELD arm enters CLOSING with outcome STOPPED, its owed
shots discarded; an ARMED arm's entry is cancelled and its reservation released; CLOSING and IDLE are
WRONG STATE. What the arm keeps in IDLE is notes/assumptions/27.md. -/
def Obligations.StopArmClosesOrCancels : Prop :=
  ∀ (f : Frame) (s : State) (n : ArmId), validFrame s 0x49 f = true →
    readFields [1] f.body = some [n.val + 1] →
      (((s.arm n).flowing = true ∨ (s.arm n).control.state = .held) →
        exec (.stopArm (.host f)) s = answered 0x49 f (.okWith (field 1 5))
          { frameTaken s with
            arms := s.arms.set n
              { s.arm n with
                channel.overspeedCount := 0
                control.state := .closing, control.outcome := some .stopped
                control.holdCause := none, control.closeGross := (s.arm n).figures.gross
                control.valve := .closed, control.pump := false, control.flowTarget := 0
                control.noFlowTimer := .stopped, control.settle := 0
                control.closingTimer := .start 60000
                components :=
                  if (s.arm n).inRun then (s.arm n).components
                  else (s.arm n).components.map fun x => { x with owed := 0 }
                trailingTimer :=
                  if (s.arm n).inRun then (s.arm n).trailingTimer else .start 30000 } })
      ∧ (∀ r e p, (s.arm n).control.state = .armed → s.load.record = some r →
          r.plan.find? (fun x => x.arm == n) = some e → e.state = .armed →
          s.recipeProduct e.recipe = some p →
          let u : State :=
            { State.updAllocation (frameTaken s) r.account p.productClass fun x =>
                { x with reserved := x.reserved - e.reservation } with
              load.record := some { r with plan := r.plan.filter (·.arm ≠ n) }
              arms := s.arms.set n (s.arm n).toIdle }
          exec (.stopArm (.host f)) s = answered 0x49 f (.okWith (field 1 0))
            (if s.load.state = .opened ∧ r.plan.filter (·.arm ≠ n) = [] then
              { u with load.idleTimer := .start (s.load.idleTimeout * 60000) }
            else u))
      ∧ ((s.arm n).control.state = .closing ∨ (s.arm n).control.state = .idle →
          exec (.stopArm (.host f)) s = answered 0x49 f (.refused .wrongState) (frameTaken s))

/-- RESUME ARM (R92, R117, R118): an arm not HELD or with its cause not cleared is WRONG STATE; at the
resume limit the batch closes ABORTED; otherwise a failed check is the answer, and a resume enters
STARTING with its base at the present gross and the B total aligned, and posts BATCH RESUMED with the
resume count and the gross. That the B total of a single-channel arm stays is notes/assumptions/40.md.
-/
def Obligations.ResumeArmRestartsOrAborts : Prop :=
  ∀ (f : Frame) (s : State) (n : ArmId), validFrame s 0x4A f = true →
    readFields [1] f.body = some [n.val + 1] →
      ((s.arm n).control.state ≠ .held →
        exec (.resumeArm (.host f)) s = answered 0x4A f (.refused .wrongState) (frameTaken s))
      ∧ (∀ c, (s.arm n).control.state = .held → (s.arm n).config = some c →
          (holdCleared s n = false →
            exec (.resumeArm (.host f)) s = answered 0x4A f (.refused .wrongState) (frameTaken s))
          ∧ (holdCleared s n = true → (s.arm n).control.resumeCount = c.resumeLimit →
              ∃ u, exec (.resumeArm (.host f)) s = answered 0x4A f (.okWith (field 1 5)) u
                ∧ (u.arm n).control.state = .closing
                ∧ (u.arm n).control.outcome = some .aborted
                ∧ (u.arm n).control.resumeCount = (s.arm n).control.resumeCount
                ∧ (u.arm n).figures
                    = { (s.arm n).figures with
                        bTotal := if c.singleChannel = true then (s.arm n).figures.bTotal
                          else (s.arm n).figures.aTotal }
                ∧ (u.arm n).channel.integrityArmed = true
                ∧ u.port.events = (frameTaken s).port.events)
          ∧ (holdCleared s n = true → (s.arm n).control.resumeCount ≠ c.resumeLimit →
              (∀ a, resumeRefusal s n = some a →
                exec (.resumeArm (.host f)) s = answered 0x4A f a (frameTaken s))
              ∧ (resumeRefusal s n = none →
                  ∃ u, exec (.resumeArm (.host f)) s = answered 0x4A f (.okWith (field 1 2)) u
                    ∧ (u.arm n).control =
                        { (s.arm n).control with
                          state := .starting, holdCause := none
                          resumeCount := (s.arm n).control.resumeCount + 1
                          stageBase := (s.arm n).figures.gross, pump := true
                          flowTarget := c.lowTarget, valve := .hold
                          noFlowTimer := .start (c.noFlowTimeout * 1000) }
                    ∧ (u.arm n).figures
                        = { (s.arm n).figures with
                            bTotal := if c.singleChannel = true then (s.arm n).figures.bTotal
                              else (s.arm n).figures.aTotal }
                    ∧ (u.arm n).channel =
                        { (s.arm n).channel with integrityArmed := true, overspeedCount := 0 }
                    ∧ u.load.idleTimer = .stopped
                    ∧ u.port = (post .batchResumed (n.val + 1)
                        ((s.arm n).control.resumeCount + 1) (s.arm n).figures.gross
                        (frameTaken s)).port)))

/-- The close test, the stage, the target and the valve (R106 to R110), each by its cases; and the
controller's share of a sample of a flowing arm that meets no fault and no overspeed (R106 to R112):
the close test closes it with its outcome, and otherwise it takes the next stage, its target and its
valve command, and a sample with pulses restarts the no-flow timer. That the engine's holds come
before the close test is notes/assumptions/16.md, the state PACED is judged on
notes/assumptions/21.md. The debt-reduced flag by its cases, and after the sample of a batch from the
owed counts read before the cycle counting, after it, or after the shots it starts (R111,
notes/assumptions/15.md); a meter run leaves it. -/
def Obligations.FlowingSampleClosesOrRegulates : Prop :=
  ((∀ a : Arm, a.remaining ≤ a.closeLead → a.closeTest = some .complete)
     ∧ (∀ (a : Arm) (m : Int), ¬a.remaining ≤ a.closeLead → a.allocationMargin = some m →
         m ≤ a.standardLead → a.closeTest = some .allocation)
     ∧ (∀ (a : Arm) (m : Int), ¬a.remaining ≤ a.closeLead → a.allocationMargin = some m →
         ¬m ≤ a.standardLead → a.closeTest = none)
     ∧ (∀ a : Arm, ¬a.remaining ≤ a.closeLead → a.allocationMargin = none → a.closeTest = none)
     ∧ (∀ (a : Arm) (b : Binding), a.run = none → a.control.binding = some b →
         a.remaining = (b.preset : Int) * 1000
             - (match b.basis with | .standard => a.figures.standard | .gross => a.figures.gross)
           ∧ a.closeLead = (match b.basis with
               | .standard => a.control.overrun * a.figures.ctl / 100000
               | .gross => a.control.overrun)
           ∧ a.allocationMargin = some ((b.reservation : Int) * 1000 - a.figures.standard))
     ∧ (∀ a : Arm, a.standardLead = a.control.overrun * a.figures.ctl / 100000)
     ∧ (∀ (a : Arm) (r : MeterRun), a.run = some r →
         a.remaining = (r.volume : Int) * 1000 - a.figures.gross
           ∧ a.closeLead = a.control.overrun ∧ a.allocationMargin = none)
     ∧ (∀ (a : Arm) (b : Binding), a.run = none → a.control.binding = some b →
         b.basis = .standard → b.reservation = b.preset → a.closeTest ≠ some .allocation)
     ∧ (∀ (c : ArmConfig) (a : Arm),
         (a.control.state = .trim → nextStage c a = .trim)
         ∧ (a.control.state = .fullFlow →
             (a.remaining ≤ slowdownThreshold c a.control.pacing → nextStage c a = .trim)
             ∧ (¬a.remaining ≤ slowdownThreshold c a.control.pacing → nextStage c a = .fullFlow))
         ∧ (a.control.state = .starting →
             (a.figures.gross < a.control.stageBase + c.startVolume * 1000 →
               nextStage c a = .starting)
             ∧ (a.control.stageBase + c.startVolume * 1000 ≤ a.figures.gross →
                 a.remaining ≤ slowdownThreshold c a.control.pacing → nextStage c a = .trim)
             ∧ (a.control.stageBase + c.startVolume * 1000 ≤ a.figures.gross →
                 ¬a.remaining ≤ slowdownThreshold c a.control.pacing →
                 nextStage c a = .fullFlow)))
     ∧ (∀ (c : ArmConfig) (debt : Bool) (ceiling n : Nat),
         flowTarget c .starting debt ceiling n = c.lowTarget
           ∧ flowTarget c .trim debt ceiling n = c.lowTarget
           ∧ flowTarget c .fullFlow false 0 n = c.highTarget
           ∧ flowTarget c .fullFlow true 0 n = c.lowTarget
           ∧ (0 < ceiling → 0 < n →
               flowTarget c .fullFlow false ceiling n = min c.highTarget (ceiling / n)
                 ∧ flowTarget c .fullFlow true ceiling n = min c.lowTarget (ceiling / n)
                 ∧ flowTarget c .fullFlow debt ceiling n * n ≤ ceiling))
     ∧ (∀ target rate : Nat,
         (valveCommand target rate = .openStep ↔
             (rate : Int) < target - max 10 (target * 5 / 100))
           ∧ (valveCommand target rate = .closeStep ↔
               (target : Int) + max 10 (target * 5 / 100) < rate)
           ∧ valveCommand target rate ≠ .closed))
    ∧ (∀ (n : ArmId) (probe : Option Int) (s : State) (c : ArmConfig) (p : Product),
         s.running = true → (s.arm n).config = some c → s.products.get c.product = some p →
         (s.arm n).flowing = true →
           let r := ((s.arm n).engine c p probe).2
           let a := ((s.arm n).engine c p probe).1
           r.fault = none → r.overspeed = false →
             ∃ u, exec (.sample n probe) s = .next u
               ∧ (∀ o, a.closeTest = some o →
                   (u.arm n).control.state = .closing ∧ (u.arm n).control.outcome = some o
                     ∧ (u.arm n).control.closeGross = a.figures.gross ∧ (u.arm n).atRest
                     ∧ (u.arm n).control.settle = 0
                     ∧ (u.arm n).control.closingTimer = .start 60000
                     ∧ (u.arm n).control.noFlowTimer.running = false)
               ∧ (a.closeTest = none →
                   (u.arm n).control.state = nextStage c a
                     ∧ (u.arm n).control.flowTarget
                         = flowTarget c (nextStage c a) (u.arm n).control.debtReduced s.bay.ceiling
                             (((armIds.filter (· ≠ n)).filter fun k =>
                                 (s.arm k).control.state = .fullFlow).length + 1)
                     ∧ (u.arm n).control.valve
                         = valveCommand (u.arm n).control.flowTarget (u.arm n).channel.rate
                     ∧ (u.arm n).control.pump = (s.arm n).control.pump
                     ∧ (u.arm n).control.paced
                         = ((s.arm n).control.paced
                             || (decide (nextStage c a = .fullFlow) && (u.arm n).control.debtReduced))
                     ∧ (u.arm n).control.noFlowTimer
                         = (if 0 < (s.arm n).channel.pulsesA then .start (c.noFlowTimeout * 1000)
                             else (s.arm n).control.noFlowTimer)
                     ∧ ((s.arm n).inRun = true →
                         (u.arm n).control.debtReduced = (s.arm n).control.debtReduced)
                     ∧ ((s.arm n).inRun = false →
                         let counted := countCycles r.delta n (engineSample n c p probe s).1.chosen
                         ∃ owed : List Nat,
                           (owed = (s.arm n).owedCounts ∨ owed = (counted.arm n).owedCounts
                             ∨ owed = ((offerAll counted).arm n).owedCounts)
                           ∧ (u.arm n).control.debtReduced
                               = debtFlag owed (s.arm n).control.debtReduced)))
    ∧ (∀ (owed : List Nat) (before : Bool),
         ((∃ x ∈ owed, 2 < x) → debtFlag owed before = true)
         ∧ ((∀ x ∈ owed, x ≤ 1) → debtFlag owed before = false)
         ∧ ((∀ x ∈ owed, x ≤ 2) → (∃ x ∈ owed, 1 < x) → debtFlag owed before = before))

/-- A sample of an arm in CLOSING (R61, R68, R121), and the fields of a line (R174, R176, R177): the
settle count follows the pulses; the batch ends at a settle count of 20 or a run-out closing timer when
no shot is in flight or owed, and then the arm is IDLE, its line joins the record and its entry leaves
the plan; otherwise it stays in CLOSING. At the end the account is charged (R46), the standard totalizer
takes the line's standard mL (R97), a COMPLETE batch teaches the arm (R122), BATCH ENDED is posted, a
plan emptied in OPEN starts the idle timer (R62), and one emptied in ENDING seals the load. What the arm
keeps in IDLE is notes/assumptions/27.md. That the batch ends at the sample after the closing timer has
run is notes/assumptions/32.md. -/
def Obligations.ClosingSampleEndsTheBatch : Prop :=
  (∀ (n : ArmId) (probe : Option Int) (s : State) (c : ArmConfig) (p : Product),
     s.running = true → (s.arm n).config = some c → s.products.get c.product = some p →
     (s.arm n).control.state = .closing → (s.arm n).inRun = false →
       let settle := if (s.arm n).channel.pulsesA = 0 then min 20 ((s.arm n).control.settle + 1)
         else 0
       let ends := (settle = 20 ∨ (s.arm n).control.closingTimer.done = true)
         ∧ additivesPending s n = false
       (¬ends → ∃ u, exec (.sample n probe) s = .next u
         ∧ (u.arm n).control = { (s.arm n).control with settle := settle }
         ∧ u.load = s.load ∧ u.accounts = s.accounts ∧ u.store = s.store)
       ∧ (∀ r e q, ends → s.load.record = some r →
           r.plan.find? (fun x => x.arm == n) = some e → s.recipeProduct e.recipe = some q →
           let sampled := (engineSample n c p probe s).1
           let a : Arm := { ((s.arm n).engine c p probe).1 with control.settle := settle }
           let o := (s.arm n).control.outcome.getD .stopped
           let used := litres a.figures.standard
           let line := lineOf e q o
             (overAllocationOf (s.account r.account) q.productClass e.reservation used) a
           let lined : OpenLoad :=
             { r with lines := r.lines ++ [line], plan := r.plan.filter (·.arm ≠ n) }
           let b : Arm :=
             { a with totals.standard := a.totals.standard + a.figures.standard }
           a.totals.standard + a.figures.standard < 2 ^ 64 →
           ∃ u, exec (.sample n probe) s = .next u
             ∧ a.components = (s.arm n).components
             ∧ a.control = { (s.arm n).control with settle := settle }
             ∧ u.arm n = (if o = .complete then b.learn c else b).toIdle
             ∧ (u.arm n).control.state = .idle ∧ (u.arm n).control.binding = none
             ∧ (u.arm n).control.outcome = none ∧ (u.arm n).atRest
             ∧ u.accounts
                 = (State.updAllocation s r.account q.productClass
                     (·.charged e.reservation used)).accounts
             ∧ (s.load.state = .opened →
                 u.load.state = .opened ∧ u.load.record = some lined ∧ u.store = s.store
                   ∧ u.load.idleTimer = (if lined.plan = [] then .start (s.load.idleTimeout * 60000)
                       else s.load.idleTimer)
                   ∧ u.port = (post .batchEnded (n.val + 1) o.code a.figures.gross sampled).port)
             ∧ (s.load.state = .ending → lined.plan ≠ [] →
                 u.load.state = .ending ∧ u.load.record = some lined ∧ u.store = s.store
                   ∧ u.port = (post .batchEnded (n.val + 1) o.code a.figures.gross sampled).port)
             ∧ (∀ cause, s.load.state = .ending → lined.plan = [] → r.endCause = some cause →
                 u.load.state = .noLoad ∧ u.load.record = none
                   ∧ u.port = (post .loadSealed 0 cause.code r.note
                       (post .batchEnded (n.val + 1) o.code a.figures.gross sampled)).port
                   ∧ u.store.notes = s.store.notes ++
                       [{ number := r.note, opened := r.opened, closed := s.port.clock,
                          card := r.card, vehicle := r.vehicle, account := r.account,
                          source := r.source, endCause := cause, lines := lined.lines }])))
    ∧ (∀ (e : PlanEntry) (q : Product) (o : BatchOutcome) (beyond : Nat) (a : Arm),
         lineOf e q o beyond a =
           { compartment := e.compartment, arm := e.arm, recipe := e.recipe, productCode := q.code
             preset := e.preset, grossMl := a.figures.gross, grossL := litres a.figures.gross
             standardMl := a.figures.standard, standardL := litres a.figures.standard
             fwa := a.figures.fwa, ctl := a.figures.ctl, outcome := o
             resumes := a.control.resumeCount
             flags :=
               { tempSubstituted := a.figures.tempSubstituted
                 correctionLimited := a.figures.correctionLimited
                 additiveShort := a.components.any fun x =>
                   x.injected * 100 < a.figures.gross * x.dose / 1000000 * (100 - x.tolerance)
                     || x.status ≠ .ok
                 overAllocation := decide (0 < beyond), meterFault := a.figures.meterFault
                 couplerLost := a.control.couplerLost
                 permissiveHold := a.control.permissiveHold, paced := a.control.paced }
             overAllocation := beyond
             entries := a.components.map fun x =>
               { code := x.additiveCode, injector := x.injector
                 target := a.figures.gross * x.dose / 1000000, injected := x.injected
                 shots := x.shots, status := x.status } })
    ∧ (∀ (x : Account) (k : ClassId) (reserved used : Nat),
         overAllocationOf (some x) k reserved used
           = used - chargeOf (x.classes.get k) reserved used)

/-- The timers of an arm (R112, R115, R121, R157): a no-flow expiry holds a flowing arm, a closing timer
has run, and the trailing timer's expiry discards owed shots and marks their components SHORT; a timer
that does not run changes nothing. Overrun learning and the end of a meter run (R122, R163): the
estimate moves a quarter of the way and stays within 0 to 50,000, a late close sets the pacing count to
7 and another lowers it, and a run that ends COMPLETE leaves its result and no run record. A sample of a
run in CLOSING counts toward its settle count or ends it with METER RUN DONE, whose code is the average
rate of a COMPLETE run and otherwise 0 (R121, R163). What the arm keeps in IDLE is
notes/assumptions/27.md, that the closing timer's expiry marks the timer alone notes/assumptions/32.md,
and that an expiry is taken while its timer runs notes/assumptions/5.md. -/
def Obligations.ArmTimersAndOverrun : Prop :=
  (∀ (n : ArmId) (s : State), s.running = true →
     ((s.arm n).flowing = true → (s.arm n).control.noFlowTimer.running = true →
       exec (.noFlowTimerExpiry n) s = .next
         (post .batchHeld (n.val + 1) 5 (s.arm n).figures.gross
           { s with
             arms := s.arms.set n
               { s.arm n with
                 channel.overspeedCount := 0
                 control.state := .held, control.holdCause := some .noFlow
                 control.valve := .closed, control.pump := false, control.flowTarget := 0
                 control.noFlowTimer := .stopped } }))
     ∧ ((s.arm n).control.noFlowTimer.running = false →
         exec (.noFlowTimerExpiry n) s = .next s)
     ∧ ((s.arm n).control.closingTimer.running = true →
         exec (.closingTimerExpiry n) s = .next { s with
           arms := s.arms.set n
             { s.arm n with
               control.closingTimer :=
                 { (s.arm n).control.closingTimer with
                   elapsed := (s.arm n).control.closingTimer.limit } } })
     ∧ ((s.arm n).control.closingTimer.running = false →
         exec (.closingTimerExpiry n) s = .next s)
     ∧ ((s.arm n).trailingTimer.running = true →
         exec (.trailingTimerExpiry n) s = .next { s with
           arms := s.arms.set n
             { s.arm n with
               trailingTimer :=
                 { (s.arm n).trailingTimer with elapsed := (s.arm n).trailingTimer.limit }
               components := (s.arm n).components.map fun x =>
                 if x.owed = 0 then x
                 else if x.status = .ok then { x with owed := 0, status := .short }
                 else { x with owed := 0 } } })
     ∧ ((s.arm n).trailingTimer.running = false → exec (.trailingTimerExpiry n) s = .next s))
    ∧ ((∀ (c : ArmConfig) (a : Arm),
           (a.learn c).control.overrun ≤ 50000
             ∧ (0 ≤ (a.control.overrun : Int)
                   + ((a.figures.gross : Int) - a.control.closeGross - a.control.overrun).tdiv 4 →
                 (a.control.overrun : Int)
                   + ((a.figures.gross : Int) - a.control.closeGross - a.control.overrun).tdiv 4
                     ≤ 50000 →
                 ((a.learn c).control.overrun : Int) = a.control.overrun
                   + ((a.figures.gross : Int) - a.control.closeGross - a.control.overrun).tdiv 4)
             ∧ ((c.lateClose : Int) < a.figure - (a.preset : Int) * 1000 →
                 (a.learn c).control.pacing = 7)
             ∧ (¬(c.lateClose : Int) < a.figure - (a.preset : Int) * 1000 →
                 (a.learn c).control.pacing = a.control.pacing - 1)
             ∧ ∃ overrun pacing, a.learn c
                 = { a with control.overrun := overrun, control.pacing := pacing })
         ∧ (∀ (n : ArmId) (r : MeterRun) (s : State), 
             (endRun n r s).arm n
                 = { (s.arm n).toIdle with
                     result := if (s.arm n).control.outcome = some .complete then
                         some { gross := (s.arm n).figures.gross, mfUsed := r.mfUsed }
                       else (s.arm n).result }
               ∧ ((endRun n r s).arm n).run = none
               ∧ ((endRun n r s).arm n).control.overrun = (s.arm n).control.overrun
               ∧ ((endRun n r s).arm n).control.pacing = (s.arm n).control.pacing
               ∧ (endRun n r s).load = s.load ∧ (endRun n r s).accounts = s.accounts
               ∧ (endRun n r s).store = s.store))
    ∧ (∀ (n : ArmId) (probe : Option Int) (s : State) (c : ArmConfig) (p : Product) (r : MeterRun),
         s.running = true → (s.arm n).config = some c → s.products.get c.product = some p →
         (s.arm n).control.state = .closing → (s.arm n).run = some r →
           let settle := if (s.arm n).channel.pulsesA = 0 then
             min 20 ((s.arm n).control.settle + 1) else 0
           let ends := settle = 20 ∨ (s.arm n).control.closingTimer.done = true
           let sampled := (engineSample n c p probe s).1
           let a : Arm := { ((s.arm n).engine c p probe).1 with control.settle := settle }
           let rate := max 1 (a.figures.gross * 60 / r.flowingMs)
           let finished (code : Nat) (result : Option RunResult) : State :=
             let v := post .meterRunDone (n.val + 1) code a.figures.gross sampled
             { v with arms := v.arms.set n { a.toIdle with result := result } }
           (¬ends → exec (.sample n probe) s = .next
             { sampled with arms := sampled.arms.set n a })
           ∧ (ends → (s.arm n).control.outcome = some .complete → 0 < r.flowingMs → rate < 65536 →
               exec (.sample n probe) s = .next
                 (finished rate (some { gross := a.figures.gross, mfUsed := r.mfUsed })))
           ∧ (ends → (s.arm n).control.outcome ≠ some .complete →
               exec (.sample n probe) s = .next (finished 0 (s.arm n).result)))

/-! ### Permissives, couplers and the rack stop -/

/-- RAW INPUT CHANGE and DEBOUNCE WINDOW EXPIRY (R124, R125): the raw value of the levels; a change
to another value is the candidate with a window from zero, a change back removes it, an expiry
accepts the candidate and hands it to the input's rule, and no other input's record changes. That an
expiry is taken while its timer runs is notes/assumptions/5.md. -/
def Obligations.InputsAreDebounced : Prop :=
  (∀ (i : Input) (levels : BitVec 4) (s : State), s.running = true →
      let d := s.monitor.input i
      ∃ e : Debounce,
        exec (.rawInputChange i levels) s = .next { s with monitor := s.monitor.setInput i e }
          ∧ e.levels = levels ∧ e.accepted = d.accepted
          ∧ (rawValue i levels = rawValue i d.levels →
              e.candidate = d.candidate ∧ e.window = d.window)
          ∧ (rawValue i levels ≠ rawValue i d.levels → rawValue i levels = d.accepted →
              e.candidate = none ∧ e.window = .stopped)
          ∧ (rawValue i levels ≠ rawValue i d.levels → rawValue i levels ≠ d.accepted →
              e.candidate = some (rawValue i levels)
                ∧ e.window = { running := true, limit := 200, elapsed := 0 }))
    ∧ (∀ (i : Input) (s : State) (v : Nat), s.running = true →
        (s.monitor.input i).candidate = some v → (s.monitor.input i).window.running = true →
        exec (.debounceWindowExpiry i) s = .next (inputChanged i (s.monitor.input i).accepted v
          { s with
            monitor := s.monitor.setInput i
              { s.monitor.input i with accepted := v, candidate := none, window := .stopped } }))
    ∧ (∀ (i : Input) (s : State), (s.monitor.input i).window.running = false →
        exec (.debounceWindowExpiry i) s = .next s)
    ∧ (∀ (m : Monitor) (i k : Input) (e : Debounce), k ≠ i →
        (m.setInput i e).input k = m.input k ∧ (m.setInput i e).input i = e)
    ∧ (∀ (l : BitVec 4) (n : ArmId),
        rawValue (.coupler n) l = 15 - l.toNat
          ∧ rawValue .overfill l = (l.extractLsb' 0 2).toNat
          ∧ (rawValue .ground l = 1 ↔ l.getLsbD 0 = true)
          ∧ (rawValue .vapour l = 1 ↔ l.getLsbD 0 = true)
          ∧ (rawValue .estop l = 1 ↔ l.getLsbD 0 = false)
          ∧ (rawValue (.stow n) l = 1 ↔ l.getLsbD 0 = false))

/-- The bay permissive (R113, R127 to R129): an accepted ground, overfill or vapour change is posted and
the permissive recomputed, as SET BAY and CLEAR RACK STOP (R134) recompute it; a loss holds every
flowing arm, flags every closing and held one and leaves the others; a gain moves no arm. A loss posts
PERMISSIVE CHANGE and then BATCH HELD of each flowing arm, in ascending number
(notes/assumptions/17.md). -/
def Obligations.PermissiveLossHoldsTheArms : Prop :=
  (∀ (s : State) (old v : Nat),
      inputChanged .ground old v s
          = recomputePermissive (post .permissiveChange 0 (256 + v) old s)
        ∧ inputChanged .overfill old v s
          = recomputePermissive (post .permissiveChange 0 (512 + v) old s)
        ∧ inputChanged .vapour old v s
          = recomputePermissive (post .permissiveChange 0 (768 + v) old s))
    ∧ (∀ s : State, bayPermissiveOf s.monitor s.bay.vapourRequired = s.monitor.permissiveOk →
        recomputePermissive s = s)
    ∧ (∀ s : State, s.monitor.permissiveOk = true →
        bayPermissiveOf s.monitor s.bay.vapourRequired = false →
          let u := recomputePermissive s
          (∀ n : ArmId,
              ((s.arm n).flowing = true →
                (u.arm n).control =
                    { (s.arm n).control with
                      permissiveHold := true, state := .held, holdCause := some .permissive
                      valve := .closed, pump := false, flowTarget := 0
                      noFlowTimer := .stopped })
              ∧ ((s.arm n).control.state = .closing ∨ (s.arm n).control.state = .held →
                  u.arm n = { s.arm n with control.permissiveHold := true })
              ∧ ((s.arm n).beyondArmed = false → u.arm n = s.arm n))
            ∧ u = { s with
                    arms := u.arms, monitor.permissiveOk := false
                    port.events := u.port.events, port.overflow := u.port.overflow }
            ∧ u.port = ((armIds.filter fun n => (s.arm n).flowing).foldl
                (fun (t : State) n => post .batchHeld (n.val + 1) 1 (s.arm n).figures.gross t)
                (post .permissiveChange 0 0 1 s)).port)
    ∧ (∀ s : State, s.monitor.permissiveOk = false →
        bayPermissiveOf s.monitor s.bay.vapourRequired = true →
          let u := recomputePermissive s
          u = offerAll (post .permissiveChange 0 1 0 { s with monitor.permissiveOk := true })
            ∧ u.monitor.permissiveOk = true
            ∧ ∀ n : ArmId, (u.arm n).control = (s.arm n).control)
    ∧ (∀ (f : Frame) (s : State) (ceiling vapour : Nat), validFrame s 0x46 f = true →
        readFields [2, 1] f.body = some [ceiling, vapour] →
          ((ceiling = 0 ∨ (200 ≤ ceiling ∧ ceiling ≤ 20000)) → vapour ≤ 1 →
            exec (.setBay f) s = answered 0x46 f .ok
              (recomputePermissive { frameTaken s with
                bay := { ceiling := ceiling, vapourRequired := decide (vapour = 1) } }))
          ∧ (¬(ceiling = 0 ∨ (200 ≤ ceiling ∧ ceiling ≤ 20000)) ∨ 1 < vapour →
              exec (.setBay f) s = answered 0x46 f (.refused .badValue) (frameTaken s)))
    ∧ (∀ (f : Frame) (s : State), validFrame s 0x51 f = true → f.body = [] →
        s.monitor.rackStop = true → s.monitor.estop.accepted = 0 →
          exec (.clearRackStop f) s = answered 0x51 f .ok
            (recomputePermissive (post .rackStopCleared 0 0 0
              { frameTaken s with monitor.rackStop := false })))

/-- Couplers and stow switches (R114, R130, R131): an accepted change is posted with its arm; one away
from the arm's compartment, or to STOWED, holds a flowing arm and flags a closing one; any other change
and any other arm's state leaves the arm as it is. That a flowing meter run is flagged as well is
notes/assumptions/20.md. -/
def Obligations.CouplerLossHoldsTheArm : Prop :=
  ∀ (n : ArmId) (s : State) (old v : Nat),
    ((s.monitor.coupler.get n).accepted = (s.arm n).wantedCode →
      inputChanged (.coupler n) old v s = post .couplerChange (n.val + 1) (256 + v) old s)
    ∧ ((s.monitor.coupler.get n).accepted ≠ (s.arm n).wantedCode →
        inputChanged (.coupler n) old v s
          = loseCoupler n (post .couplerChange (n.val + 1) (256 + v) old s))
    ∧ ((s.monitor.stow.get n).accepted = 1 →
        inputChanged (.stow n) old v s = post .couplerChange (n.val + 1) (512 + v) old s)
    ∧ ((s.monitor.stow.get n).accepted ≠ 1 →
        inputChanged (.stow n) old v s
          = loseCoupler n (post .couplerChange (n.val + 1) (512 + v) old s))
    ∧ ((s.arm n).flowing = true →
        loseCoupler n s = post .batchHeld (n.val + 1) 2 (s.arm n).figures.gross
          { s with
            arms := s.arms.set n
              { s.arm n with
                channel.overspeedCount := 0
                control.couplerLost := true, control.state := .held
                control.holdCause := some .coupler, control.valve := .closed
                control.pump := false, control.flowTarget := 0
                control.noFlowTimer := .stopped } })
    ∧ ((s.arm n).control.state = .closing →
        loseCoupler n s
          = { s with arms := s.arms.set n { s.arm n with control.couplerLost := true } })
    ∧ ((s.arm n).flowing = false → (s.arm n).control.state ≠ .closing → loseCoupler n s = s)
    ∧ ((s.arm n).inRun = true → (s.arm n).wantedCode = 0)
    ∧ (∀ b, (s.arm n).inRun = false → (s.arm n).control.binding = some b →
        (s.arm n).wantedCode = b.compartment)

/-- The emergency stop PRESSED with the latch clear (R67, R119, R132, R150, R167): the latch is set and
the bay permissive lost, every flowing, held and closing arm is in CLOSING with outcome ABORTED and owes
no shot, every ARMED arm is IDLE and its entry gone, and no shot for such an arm goes on. A shot for
such an arm ends at once, is measured and credited to its batch, and leaves the bad count; a proving
shot ends with the STOPPED mark and PROVE SHOT DONE. The events are PERMISSIVE CHANGE of the stop, RACK
STOP, PERMISSIVE CHANGE of a permissive that is lost, BATCH HELD of those flowing arms that take that
loss first, any of them (notes/assumptions/13.md), and PROVE SHOT DONE of the proving shots; that the
hand-overs' events come last is notes/assumptions/18.md, that the arms come before the injectors
notes/assumptions/45.md, and the ascending numbers notes/assumptions/17.md. The bounds rule out a
measure beyond its width (notes/assumptions/12.md). A press with the latch set, and a release, are
posted and change nothing more; CLEAR RACK STOP asks for a set latch and a released stop, and then
clears the latch and recomputes the bay permissive (R132 to R134). -/
def Obligations.RackStopAbortsTheBayUntilCleared : Prop :=
  (∀ (s : State) (old : Nat), s.monitor.rackStop = false → PlanSound s → FlowSafe s →
     (∀ i, (s.injector i).config = none → (s.injector i).state = .idle) →
     (∀ i c r, (s.injector i).config = some c → (s.injector i).state = .shot r →
       ∀ x ∈ (s.arm r.arm).components, x.injected + r.pulses * 1000 / c.meterK < 2 ^ 32) →
     (∀ i c p r, (s.injector i).config = some c → (s.injector i).state = .proving p →
       p.shot = some r → r.pulses * 1000 / c.meterK < 2 ^ 32) →
       let u := inputChanged .estop old 1 s
       u.monitor.rackStop = true ∧ u.monitor.permissiveOk = false
         ∧ (∀ n : ArmId,
             ((s.arm n).beyondArmed = true →
               (u.arm n).control.state = .closing ∧ (u.arm n).control.outcome = some .aborted
                 ∧ (u.arm n).figures = (s.arm n).figures
                 ∧ (s.monitor.permissiveOk = true → (u.arm n).control.permissiveHold = true)
                 ∧ ((s.arm n).control.state = .closing →
                     (u.arm n).control.settle = (s.arm n).control.settle
                       ∧ (u.arm n).control.closingTimer = (s.arm n).control.closingTimer)
                 ∧ ((s.arm n).inRun = false → ∀ x ∈ (u.arm n).components, x.owed = 0))
             ∧ ((s.arm n).beyondArmed = false → (u.arm n).control.state = .idle))
         ∧ u.plan = s.plan.filter (·.state ≠ .armed)
         ∧ u.load.state = s.load.state ∧ u.store = s.store ∧ u.permit = s.permit
         ∧ (∀ i r, (u.injector i).state = .shot r → (s.arm r.arm).beyondArmed = false)
         ∧ (∀ i p, (u.injector i).state = .proving p → p.shot = none)
         ∧ (∀ i c r, (s.injector i).config = some c → (s.injector i).state = .shot r →
             u.injector i =
               if (s.arm r.arm).beyondArmed then { s.injector i with state := .idle }
               else s.injector i)
         ∧ (∀ i c p r, (s.injector i).config = some c → (s.injector i).state = .proving p →
             p.shot = some r →
             u.injector i = { s.injector i with
               state := .proving { p with shots := min 65535 (p.shots + 1), shot := none } })
         ∧ (∀ n : ArmId, (s.arm n).beyondArmed = true → (s.arm n).inRun = false →
             (u.arm n).components = (s.arm n).components.map fun x =>
               match (s.injector x.injector).config, (s.injector x.injector).state with
               | some c, .shot r =>
                 if r.arm = n then
                   { x with
                     owed := 0, shots := x.shots + 1
                     injected := x.injected + r.pulses * 1000 / c.meterK }
                 else { x with owed := 0 }
               | _, _ => { x with owed := 0 })
         ∧ ∃ held : List ArmId, held.Sublist armIds
             ∧ (∀ n ∈ held, (s.arm n).flowing = true ∧ s.monitor.permissiveOk = true)
             ∧ u.port =
                 (injIds.foldl (fun (t : State) i =>
                   match (s.injector i).config, (s.injector i).state with
                   | some c, .proving p =>
                     match p.shot with
                     | some r =>
                       post .proveShotDone 0 ((i.val + 1) * 256 + 3) (r.pulses * 1000 / c.meterK) t
                     | none => t
                   | _, _ => t)
                 (held.foldl (fun (t : State) n =>
                   post .batchHeld (n.val + 1) 1 (s.arm n).figures.gross t)
                 (let stop := post .rackStop 0 0 0 (post .permissiveChange 0 0x0401 0 s)
                  if s.monitor.permissiveOk = true then post .permissiveChange 0 0 1 stop
                  else stop))).port)
    ∧ ((∀ (s : State) (old : Nat), s.monitor.rackStop = true →
           inputChanged .estop old 1 s = post .permissiveChange 0 0x0401 0 s)
         ∧ (∀ (s : State) (old : Nat),
             inputChanged .estop old 0 s = post .permissiveChange 0 0x0400 1 s)
         ∧ (∀ (f : Frame) (s : State), validFrame s 0x51 f = true → f.body = [] →
             (s.monitor.rackStop = false ∨ s.monitor.estop.accepted ≠ 0 →
               exec (.clearRackStop f) s = answered 0x51 f (.refused .wrongState) (frameTaken s))
             ∧ (s.monitor.rackStop = true → s.monitor.estop.accepted = 0 →
                 exec (.clearRackStop f) s = answered 0x51 f .ok
                   (recomputePermissive (post .rackStopCleared 0 0 0
                     { frameTaken s with monitor.rackStop := false })))))

/-! ### Additives and proving -/

/-- PUT INJECTOR, CLEAR INJECTOR FAULT and PUT RECIPE (R139, R141, R153). The ranges of PUT RECIPE, the
recipe that its fields give, and the two checks of its product, injectors and cycle volumes (R141). -/
def Obligations.InjectorsAndRecipesAreWritten : Prop :=
  (∀ (f : Frame) (s : State) (i : InjId)
      (code k shot limit tolerance fault cls first second scheme creep : Nat),
      validFrame s 0x60 f = true →
      readFields [1, 2, 4, 2, 2, 1, 1, 1, 1, 1, 1, 2] f.body
        = some [i.val + 1, code, k, shot, limit, tolerance, fault, cls, first, second, scheme,
                creep] →
        (injectorConfigOf code k shot limit tolerance fault cls first second scheme creep = none →
          exec (.putInjector f) s = answered 0x60 f (.refused .badValue) (frameTaken s))
        ∧ (∀ c, injectorConfigOf code k shot limit tolerance fault cls first second scheme creep
              = some c →
            (s.injectorInUse i = true →
              exec (.putInjector f) s = answered 0x60 f (.refused .inUse) (frameTaken s))
            ∧ (s.injectorInUse i = false →
                (∃ r ∈ s.recipes, ∃ x ∈ r.components, x.injector = i
                  ∧ shot * 1000000 / x.dose < 5000) →
                exec (.putInjector f) s = answered 0x60 f (.refused .badValue) (frameTaken s))
            ∧ (s.injectorInUse i = false →
                (∀ r ∈ s.recipes, ∀ x ∈ r.components, x.injector = i →
                  5000 ≤ shot * 1000000 / x.dose) →
                exec (.putInjector f) s = answered 0x60 f .ok
                  { frameTaken s with
                    injectors := s.injectors.set i
                      { s.injector i with
                        config := some c, lastServed := none, diverter := c.firstArm
                        creep := 0 } })))
    ∧ (∀ (f : Frame) (s : State) (i : InjId), validFrame s 0x63 f = true →
        readFields [1] f.body = some [i.val + 1] →
          (((s.injector i).config = none ∨ (s.injector i).state ≠ .faulted) →
            exec (.clearInjectorFault f) s = answered 0x63 f (.refused .wrongState) (frameTaken s))
          ∧ ((s.injector i).config.isSome = true → (s.injector i).state = .faulted →
              exec (.clearInjectorFault f) s = answered 0x63 f .ok
                (offer i { frameTaken s with
                  injectors := s.injectors.set i
                    { s.injector i with state := .idle, badCount := 0, creep := 0 } })))
    ∧ (∀ (f : Frame) (s : State) (code product m : Nat) (rest : List Nat),
        validFrame s 0x61 f = true → 4 ≤ f.body.length → beNat ((f.body.drop 3).take 1) = m →
        1 ≤ m → m ≤ 3 →
        readFields ([2, 1, 1] ++ (List.replicate m [1, 2]).flatten) f.body
          = some (code :: product :: m :: rest) →
          (recipeOf code product (pairs rest) = none →
            exec (.putRecipe f) s = answered 0x61 f (.refused .badValue) (frameTaken s))
          ∧ (∀ r, recipeOf code product (pairs rest) = some r →
              (s.recipeFound r = false →
                exec (.putRecipe f) s = answered 0x61 f (.refused .notFound) (frameTaken s))
              ∧ (s.recipeFound r = true → s.cyclesLongEnough r = false →
                  exec (.putRecipe f) s = answered 0x61 f (.refused .badValue) (frameTaken s))
              ∧ (s.recipeFound r = true → s.cyclesLongEnough r = true →
                  ((s.recipe code).isSome = true → s.recipeInUse code = true →
                    exec (.putRecipe f) s = answered 0x61 f (.refused .inUse) (frameTaken s))
                  ∧ ((s.recipe code).isSome = true → s.recipeInUse code = false →
                      exec (.putRecipe f) s = answered 0x61 f .ok
                        { frameTaken s with
                          recipes := s.recipes.map fun q => if q.code = code then r else q })
                  ∧ (s.recipe code = none → s.recipes.length < 16 →
                      exec (.putRecipe f) s = answered 0x61 f .ok
                        { frameTaken s with recipes := s.recipes ++ [r] })
                  ∧ (s.recipe code = none → 16 ≤ s.recipes.length →
                      exec (.putRecipe f) s = answered 0x61 f (.refused .full) (frameTaken s)))))
    ∧ ((∀ (code product : Nat) (l : List (Nat × Nat)),
           ((recipeOf code product l).isSome = true ↔
             (code ≠ 0 ∧ 1 ≤ product ∧ product ≤ 8
               ∧ (∀ x ∈ l, 1 ≤ x.1 ∧ x.1 ≤ 6 ∧ 10 ≤ x.2 ∧ x.2 ≤ 5000) ∧ (l.map (·.1)).Nodup))
           ∧ (∀ r, recipeOf code product l = some r →
               r.code = code ∧ r.product.val + 1 = product
                 ∧ r.components.map (fun x => (x.injector.val + 1, x.dose)) = l))
         ∧ (∀ (s : State) (r : Recipe),
             (s.recipeFound r = true ↔ (s.products.get r.product).isSome = true
               ∧ ∀ x ∈ r.components, (s.injector x.injector).config.isSome = true)
             ∧ (s.cyclesLongEnough r = true ↔
                 ∀ x ∈ r.components, ∀ c, (s.injector x.injector).config = some c →
                   5000 ≤ c.shotMl * 1000000 / x.dose)))

/-- ADDITIVE PULSE by the state of the injector (R147, R148, R154, R166): a shot counts it and ends
its OPEN phase at the target; a proving injector counts it in its total; an IDLE one counts it
toward creep, and above the limit the creep is posted and credited to the batch at the diverter that
uses it; a FAULTED or unconfigured one does not count it. The bounds rule out a figure beyond its
width (notes/assumptions/12.md). -/
def Obligations.AdditivePulsesFollowTheState : Prop :=
  ∀ (i : InjId) (s : State), s.running = true →
    let put (j : Injector) (t : State) : State := { t with injectors := t.injectors.set i j }
    let j := s.injector i
    ((j.config = none ∨ j.state = .faulted) → exec (.additivePulse i) s = .next s)
    ∧ (∀ c, j.config = some c →
        (∀ r, j.state = .shot r → r.phase = .opened → r.target ≤ r.pulses + 1 →
          exec (.additivePulse i) s = .next (put
            { j with
              state := .shot
                { r with pulses := r.pulses + 1, phase := .tail, timer := .start 300 } } s))
        ∧ (∀ r, j.state = .shot r → (r.phase = .tail ∨ r.pulses + 1 < r.target) →
            exec (.additivePulse i) s = .next (put
              { j with state := .shot { r with pulses := r.pulses + 1 } } s))
        ∧ (∀ p, j.state = .proving p → p.shot = none →
            exec (.additivePulse i) s = .next (put
              { j with
                state := .proving
                  { p with pulseTotal := min 4294967295 (p.pulseTotal + 1) } } s))
        ∧ (∀ p r, j.state = .proving p → p.shot = some r → r.phase = .opened →
            r.target ≤ r.pulses + 1 →
            exec (.additivePulse i) s = .next (put
              { j with
                state := .proving
                  { p with
                    pulseTotal := min 4294967295 (p.pulseTotal + 1)
                    shot := some
                      { r with
                        pulses := r.pulses + 1, phase := .tail, timer := .start 300
                        ended := some .target } } } s))
        ∧ (∀ p r, j.state = .proving p → p.shot = some r →
            (r.phase = .tail ∨ r.pulses + 1 < r.target) →
            exec (.additivePulse i) s = .next (put
              { j with
                state := .proving
                  { p with
                    pulseTotal := min 4294967295 (p.pulseTotal + 1)
                    shot := some { r with pulses := r.pulses + 1 } } } s))
        ∧ (j.state = .idle → c.creepLimit = 0 → exec (.additivePulse i) s = .next s)
        ∧ (j.state = .idle → 0 < c.creepLimit → j.creep + 1 ≤ c.creepLimit →
            exec (.additivePulse i) s = .next (put { j with creep := j.creep + 1 } s))
        ∧ (j.state = .idle → 0 < c.creepLimit → c.creepLimit < j.creep + 1 →
            (j.creep + 1) * 1000 / c.meterK < 2 ^ 32 →
            ((s.arm j.diverter).uses i = false →
              exec (.additivePulse i) s = .next
                (post .injectorCreep 0 (i.val + 1) ((j.creep + 1) * 1000 / c.meterK)
                  (put { j with creep := 0 } s)))
            ∧ ((s.arm j.diverter).uses i = true →
                (∀ x ∈ (s.arm j.diverter).components,
                  x.injected + (j.creep + 1) * 1000 / c.meterK < 2 ^ 32) →
                exec (.additivePulse i) s = .next
                  (post .injectorCreep (j.diverter.val + 1) (i.val + 1)
                    ((j.creep + 1) * 1000 / c.meterK)
                    (put { j with creep := 0 }
                      { s with
                        arms := s.arms.set j.diverter
                          { s.arm j.diverter with
                            components := (s.arm j.diverter).components.map fun x =>
                              if x.injector = i then
                                { x with
                                  injected := x.injected + (j.creep + 1) * 1000 / c.meterK }
                              else x } })))))

/-- The timers of a shot (R148, R151, R152): the shot timer ends the OPEN phase, and at the end of the
tail the shot is measured and credited to its arm's batch, a good one clears and a bad one raises the
bad count, and at the fault limit the injector is FAULTED and the fault posted. A batch that uses the
injector then has its component FAULTED; it loses the owed shots of it in CLOSING, and in every state to
an OPTIONAL injector, and keeps them otherwise; and the flowing batches of a MANDATORY injector are
held, BATCH HELD coming after ADDITIVE FAULT, in ascending arm number (notes/assumptions/17.md). That an
expiry is taken while its timer runs is the model's choice, notes/assumptions/5.md, and that one which
cannot occur in the phase, or on an injector with no shot, changes nothing notes/assumptions/6.md. The
bounds rule out a figure beyond its width (notes/assumptions/12.md). -/
def Obligations.ShotsAreJudged : Prop :=
  (∀ (i : InjId) (s : State) (c : InjectorConfig) (r : Shot), s.running = true →
     (s.injector i).config = some c → (s.injector i).state = .shot r → r.timer.running = true →
       (r.phase = .opened →
         exec (.shotTimerExpiry i) s = .next { s with
           injectors := s.injectors.set i
             { s.injector i with
               state := .shot { r with phase := .tail, timer := .start 300 } } }
         ∧ exec (.tailTimerExpiry i) s = .next s)
       ∧ (r.phase = .tail → exec (.shotTimerExpiry i) s = .next s)
       ∧ (r.phase = .tail →
           let ml := r.pulses * 1000 / c.meterK
           let good := r.pulses ≠ 0 ∧ c.shotMl * (100 - c.tolerance) ≤ ml * 100
           let bad := if good then 0 else (s.injector i).badCount + 1
           (∀ x ∈ (s.arm r.arm).components, x.injected + ml < 2 ^ 32) → ml < 2 ^ 32 →
           ∃ u, exec (.tailTimerExpiry i) s = .next u
             ∧ (u.injector i).badCount = bad
             ∧ (u.arm r.arm).components.map (fun x => (x.injector, x.shots, x.injected))
                 = (s.arm r.arm).components.map (fun x =>
                     if x.injector = i then (x.injector, x.shots + 1, x.injected + ml)
                     else (x.injector, x.shots, x.injected))
             ∧ (bad < c.faultLimit →
                 (∀ n, (u.arm n).control = (s.arm n).control) ∧ u.port = s.port
                   ∧ ((u.injector i).state = .idle
                     ∨ ∃ q : Shot, (u.injector i).state = .shot q ∧ waits s i q.arm = true
                         ∧ q.pulses = 0 ∧ q.phase = .opened))
             ∧ (c.faultLimit ≤ bad →
                 (u.injector i).state = .faulted
                   ∧ (s.port.events.length < 32 → u.port.events[s.port.events.length]? = some
                       { kind := .additiveFault, arm := r.arm.val + 1,
                         code := (i.val + 1) * 256 + c.injectorClass.code, value := ml,
                         clock := s.port.clock })
                   ∧ (∀ n, (s.arm n).uses i = true → ∀ x ∈ (u.arm n).components,
                       x.injector = i → x.status = .faulted)
                   ∧ (∀ n, (s.arm n).uses i = true → (s.arm n).flowing = true →
                       c.injectorClass = .mandatory →
                       (u.arm n).control.state = .held
                         ∧ (u.arm n).control.holdCause = some .additiveFault ∧ (u.arm n).atRest)
                   ∧ (∀ n, ((s.arm n).uses i = false ∨ (s.arm n).flowing = false
                         ∨ c.injectorClass = .optional) →
                       (u.arm n).control = (s.arm n).control)
                   ∧ (∀ n, (u.arm n).components = (s.arm n).components.map fun x =>
                       if x.injector = i then
                         { x with
                           shots := if n = r.arm then x.shots + 1 else x.shots
                           injected := if n = r.arm then x.injected + ml else x.injected
                           status := if (s.arm n).uses i then .faulted else x.status
                           owed :=
                             if (s.arm n).uses i ∧ (c.injectorClass = .optional
                                 ∨ (s.arm n).control.state = .closing) then 0
                             else x.owed }
                       else x)
                   ∧ (let faulted := post .additiveFault (r.arm.val + 1)
                        ((i.val + 1) * 256 + c.injectorClass.code) ml s
                      (c.injectorClass = .optional → u.port = faulted.port)
                        ∧ (c.injectorClass = .mandatory →
                            u.port = ((armIds.filter fun n =>
                                (s.arm n).uses i && (s.arm n).flowing).foldl
                              (fun (t : State) n =>
                                post .batchHeld (n.val + 1) 6 (s.arm n).figures.gross t)
                              faulted).port)))))
    ∧ (∀ (i : InjId) (s : State), (∀ r, (s.injector i).state ≠ .shot r) →
         exec (.tailTimerExpiry i) s = .next s
           ∧ ((∀ p, (s.injector i).state ≠ .proving p) → exec (.shotTimerExpiry i) s = .next s))

/-- Cycles and the arbiter (R144 to R146): a sample's volume earns its whole cycles and leaves less than
one; an IDLE injector with an arm that waits starts a shot for it, FIXED choosing the lower arm of two
and ROUND_ROBIN the one not served last, and one with no arm that waits stays as it is. An arm waits
exactly when it stands in the plumbing set, its batch is flowing or in CLOSING with a shot owed on the
injector, and the bay permissive is OK (R145). The trailing decision and the line's additive figures
(R155, R156, R158, R159): a component at half a cycle or more gains one shot, other outcomes discard
what is owed, a pending shot keeps a batch from ending, and a line entry's target is the dose of its
gross volume. A sample of a flowing batch counts its volume into each component, and then the trailing
decision where the sample closes the arm; an owed shot is spent alone on a shot that it starts for the
arm. -/
def Obligations.ArbiterServesWaitingArms : Prop :=
  ((∀ (x : Component) (delta : Nat), 0 < x.cycle → x.owed ≤ 255 →
       (x.count delta false).accumulated < x.cycle
         ∧ (x.count delta false).owed = min 255 (x.owed + (x.accumulated + delta) / x.cycle)
         ∧ (x.count delta true).owed = x.owed
         ∧ (x.count delta false).accumulated + (x.accumulated + delta) / x.cycle * x.cycle
             = x.accumulated + delta
         ∧ (x.count delta true).accumulated = (x.count delta false).accumulated)
     ∧ (∀ (i : InjId) (s : State) (c : InjectorConfig),
         (s.injector i).config = some c → (s.injector i).state = .idle →
           ((∀ n, waits s i n = false) → offer i s = s)
           ∧ (∀ n, chooseArm s i c = some n →
               waits s i n = true
                 ∧ offer i s = { s with
                     arms := s.arms.set n
                       { s.arm n with
                         components := (s.arm n).components.map fun x =>
                           if x.injector = i then { x with owed := x.owed - 1 } else x }
                     injectors := s.injectors.set i
                       { s.injector i with
                         diverter := n, lastServed := some n
                         state := .shot
                           { arm := n, phase := .opened
                             target := (c.shotMl * c.meterK + 999) / 1000, pulses := 0
                             timer := .start c.shotTimeLimit } } })
           ∧ ((∃ n, waits s i n = true) → ∃ n, chooseArm s i c = some n)
           ∧ (∀ b, c.secondArm = some b → b ≠ c.firstArm → waits s i c.firstArm = true →
               waits s i b = true →
               (c.scheme = .fixed → chooseArm s i c = some (min c.firstArm b))
               ∧ (c.scheme = .roundRobin → (s.injector i).lastServed = none →
                   chooseArm s i c = some (min c.firstArm b))
               ∧ (c.scheme = .roundRobin → (s.injector i).lastServed = some c.firstArm →
                   chooseArm s i c = some b)
               ∧ (c.scheme = .roundRobin → (s.injector i).lastServed = some b →
                   chooseArm s i c = some c.firstArm)))
     ∧ (∀ (i : InjId) (s : State), (s.injector i).state ≠ .idle → offer i s = s)
     ∧ (∀ (i : InjId) (s : State) (n : ArmId), waits s i n = true →
         s.monitor.permissiveOk = true ∧ (s.arm n).inRun = false
           ∧ ((s.arm n).flowing = true ∨ (s.arm n).control.state = .closing)
           ∧ ∃ x ∈ (s.arm n).components, x.injector = i ∧ 1 ≤ x.owed)
     ∧ (∀ (i : InjId) (s : State) (n : ArmId), waits s i n = true ↔
         (∃ c, (s.injector i).config = some c ∧ (c.firstArm = n ∨ c.secondArm = some n))
           ∧ ((s.arm n).flowing = true ∨ (s.arm n).control.state = .closing)
           ∧ (s.arm n).inRun = false
           ∧ (∃ x ∈ (s.arm n).components, x.injector = i ∧ 1 ≤ x.owed)
           ∧ s.monitor.permissiveOk = true))
    ∧ ((∀ (x : Component), x.owed ≤ 254 →
           (x.cycle ≤ x.accumulated * 2 →
             x.trail false = { x with accumulated := 0, owed := x.owed + 1 }
               ∧ (x.trail true).owed = x.owed)
           ∧ (x.accumulated * 2 < x.cycle → x.trail false = x ∧ x.trail true = x))
         ∧ (∀ (o : BatchOutcome) (n : ArmId) (s : State), (s.arm n).inRun = false →
             o ≠ .complete → o ≠ .allocation →
             additivesClosing o n s = { s with
               arms := s.arms.set n
                 { s.arm n with
                   components := (s.arm n).components.map fun x => { x with owed := 0 }
                   trailingTimer := { running := true, limit := 30000, elapsed := 0 } } })
         ∧ (∀ (o : BatchOutcome) (n : ArmId) (s : State), (s.arm n).inRun = true →
             additivesClosing o n s = s)
         ∧ (∀ (n : ArmId) (s : State), (s.arm n).inRun = false →
             (additivesPending s n = true ↔
               (∃ i r, (s.injector i).state = .shot r ∧ r.arm = n)
                 ∨ ∃ x ∈ (s.arm n).components, 0 < x.owed))
         ∧ (∀ (x : Component) (gross : Nat),
             (x.entry gross).target * 1000000 ≤ gross * x.dose
               ∧ gross * x.dose < ((x.entry gross).target + 1) * 1000000
               ∧ (x.fellShort gross = true ↔
                   x.injected * 100 < (x.entry gross).target * (100 - x.tolerance) ∨ x.status ≠ .ok)))
    ∧ (∀ (n : ArmId) (probe : Option Int) (s : State) (c : ArmConfig) (p : Product),
         s.running = true → (s.arm n).config = some c → s.products.get c.product = some p →
         (s.arm n).flowing = true → (s.arm n).inRun = false →
           let delta := ((s.arm n).engine c p probe).2.delta
           ∃ u, exec (.sample n probe) s = .next u
             ∧ (u.arm n).components.length = (s.arm n).components.length
             ∧ ∀ (k : Nat) (x y : Component), (s.arm n).components[k]? = some y →
                 (u.arm n).components[k]? = some x →
                   let lost := s.earnsNone y.injector
                   let counted := y.count delta lost
                   let ready := if (u.arm n).control.state = .closing then counted.trail lost
                     else counted
                   x = { ready with owed := x.owed }
                     ∧ (x.owed = ready.owed
                       ∨ (x.owed + 1 = ready.owed
                           ∧ ∃ r : Shot, (u.injector y.injector).state = .shot r ∧ r.arm = n
                             ∧ r.phase = .opened ∧ r.pulses = 0)))

/-- BEGIN METER RUN and METER RESULT (R84, R160, R161, R164): an accepted run starts the arm with its
run record, FWA and CTL standing until the first sample (notes/assumptions/39.md), a failed check is the
answer, and a result within 50 of the factor used and within its range replaces one point's factor and
discards the run result. The bound rules out a product beyond its width (notes/assumptions/12.md). -/
def Obligations.MeterRunsAreBegunAndAnswered : Prop :=
  ∀ (f : Frame) (s : State) (n : ArmId),
    (∀ volume, validFrame s 0x68 f = true → readFields [1, 2] f.body = some [n.val + 1, volume] →
      (volume < 100 ∨ 5000 < volume →
        exec (.beginMeterRun f) s = answered 0x68 f (.refused .badValue) (frameTaken s))
      ∧ (100 ≤ volume → volume ≤ 5000 →
          ((s.arm n).config = none →
            exec (.beginMeterRun f) s = answered 0x68 f (.refused .wrongState) (frameTaken s))
          ∧ (∀ c, (s.arm n).config = some c →
              ((s.load.state ≠ .noLoad ∨ s.meterRun = true ∨ (s.arm n).control.state ≠ .idle) →
                exec (.beginMeterRun f) s = answered 0x68 f (.refused .wrongState) (frameTaken s))
              ∧ (s.load.state = .noLoad → s.meterRun = false → (s.arm n).control.state = .idle →
                  (s.monitor.rackStop = true →
                    exec (.beginMeterRun f) s
                      = answered 0x68 f (.refused .rackStopped) (frameTaken s))
                  ∧ (s.monitor.rackStop = false → (s.monitor.stow.get n).accepted ≠ 1 →
                      exec (.beginMeterRun f) s
                        = answered 0x68 f (.denied .armStowed) (frameTaken s))
                  ∧ (s.monitor.rackStop = false → (s.monitor.stow.get n).accepted = 1 →
                      (s.monitor.coupler.get n).accepted ≠ 0 →
                      exec (.beginMeterRun f) s
                        = answered 0x68 f (.denied .wrongCompartment) (frameTaken s))
                  ∧ (s.monitor.rackStop = false → (s.monitor.stow.get n).accepted = 1 →
                      (s.monitor.coupler.get n).accepted = 0 → s.monitor.permissiveOk = false →
                      exec (.beginMeterRun f) s
                        = answered 0x68 f (.denied .permissive) (frameTaken s))
                  ∧ (s.monitor.rackStop = false → (s.monitor.stow.get n).accepted = 1 →
                      (s.monitor.coupler.get n).accepted = 0 → s.monitor.permissiveOk = true →
                      exec (.beginMeterRun f) s = answered 0x68 f .ok
                        (post .batchStarted (n.val + 1) 0 volume
                          { frameTaken s with
                            arms := s.arms.set n
                              { s.arm n with
                                figures :=
                                  { Figures.zero with
                                    fwa := (s.arm n).figures.fwa, ctl := (s.arm n).figures.ctl }
                                channel.integrityArmed := true, channel.overspeedCount := 0
                                control.state := .starting, control.stageBase := 0
                                control.resumeCount := 0, control.permissiveHold := false
                                control.couplerLost := false, control.paced := false
                                control.debtReduced := false, control.flowTarget := c.lowTarget
                                control.valve := .hold, control.pump := true
                                control.noFlowTimer := .start (c.noFlowTimeout * 1000)
                                result := none
                                run := some
                                  { volume := volume, flowingMs := 0, mfUsed := 10000,
                                    reachedFullFlow := false } } }))))))
    ∧ (∀ point prover, validFrame s 0x69 f = true →
        readFields [1, 1, 4] f.body = some [n.val + 1, point, prover] →
          (point < 1 ∨ 4 < point ∨ prover = 0 →
            exec (.meterResult f) s = answered 0x69 f (.refused .badValue) (frameTaken s))
          ∧ (1 ≤ point → point ≤ 4 → prover ≠ 0 →
              (s.load.state ≠ .noLoad ∨ (s.arm n).result = none →
                exec (.meterResult f) s = answered 0x69 f (.refused .wrongState) (frameTaken s))
              ∧ (∀ r, s.load.state = .noLoad → (s.arm n).result = some r →
                  ((s.arm n).curve.length < point →
                    exec (.meterResult f) s
                      = answered 0x69 f (.refused .badValue) (frameTaken s))
                  ∧ (point ≤ (s.arm n).curve.length → r.mfUsed * prover < 2 ^ 64 →
                      let new := roundHalfUp (r.mfUsed * prover) r.gross
                      (new ≤ r.mfUsed + 50 → r.mfUsed ≤ new + 50 → 9000 ≤ new → new ≤ 11000 →
                        exec (.meterResult f) s = answered 0x69 f (.okWith (field 2 new))
                          { frameTaken s with
                            arms := s.arms.set n
                              { s.arm n with
                                curve := (s.arm n).curve.modify (point - 1) fun p =>
                                  { p with factor := new }
                                result := none } })
                      ∧ (r.mfUsed + 50 < new ∨ new + 50 < r.mfUsed ∨ new < 9000 ∨ 11000 < new →
                          exec (.meterResult f) s = answered 0x69 f
                            { status := .badValue, reason := none
                              fields := field 2 (min 65535 new) ++ field 2 r.mfUsed }
                            (frameTaken s))))))

/-- Injector proving and END PROVING (R166 to R169): BEGIN, PROVE SHOT, the end of its OPEN phase by
time and of its tail, INJECTOR RESULT, and END PROVING of either subject; an injector that is not
proving is WRONG STATE. That an expiry is taken while its timer runs is the model's choice,
notes/assumptions/5.md, and that one which cannot occur in the phase, or on an injector that is not
proving, changes nothing notes/assumptions/6.md. The bounds rule out a figure beyond its width
(notes/assumptions/12.md). -/
def Obligations.InjectorProvingRuns : Prop :=
  (∀ (f : Frame) (s : State) (i : InjId),
     let j := s.injector i
     let put (j : Injector) (t : State) : State := { t with injectors := t.injectors.set i j }
     (validFrame s 0x6A f = true → readFields [1] f.body = some [i.val + 1] →
       ((j.config = none ∨ s.earnsNone i = true) →
         exec (.beginInjectorProving f) s = answered 0x6A f (.refused .wrongState) (frameTaken s))
       ∧ (j.config.isSome = true → s.earnsNone i = false → s.batchUses i = true →
           exec (.beginInjectorProving f) s = answered 0x6A f (.refused .inUse) (frameTaken s))
       ∧ (j.config.isSome = true → s.earnsNone i = false → s.batchUses i = false →
           exec (.beginInjectorProving f) s = answered 0x6A f .ok
             (put
               { j with
                 state := .proving { shots := 0, pulseTotal := 0, shot := none }, creep := 0 }
               (frameTaken s))))
     ∧ (∀ c p, j.config = some c → j.state = .proving p →
         (validFrame s 0x6B f = true → readFields [1] f.body = some [i.val + 1] →
           (p.shot.isSome = true →
             exec (.proveShot f) s = answered 0x6B f (.refused .wrongState) (frameTaken s))
           ∧ (p.shot = none → s.monitor.rackStop = true →
               exec (.proveShot f) s = answered 0x6B f (.refused .rackStopped) (frameTaken s))
           ∧ (p.shot = none → s.monitor.rackStop = false →
               exec (.proveShot f) s = answered 0x6B f .ok
                 (put
                   { j with
                     state := .proving
                       { p with
                         shot := some
                           { phase := .opened, target := (c.shotMl * c.meterK + 999) / 1000,
                             pulses := 0, timer := .start c.shotTimeLimit, ended := none } } }
                   (frameTaken s))))
         ∧ (∀ r e, s.running = true → p.shot = some r → r.phase = .tail → r.ended = some e →
             r.timer.running = true → r.pulses * 1000 / c.meterK < 2 ^ 32 →
             exec (.proveShotDone i) s = .next
               (post .proveShotDone 0 ((i.val + 1) * 256 + e.code) (r.pulses * 1000 / c.meterK)
                 (put
                   { j with
                     state := .proving
                       { p with shots := min 65535 (p.shots + 1), shot := none } } s)))
         ∧ (∀ total, validFrame s 0x6C f = true →
             readFields [1, 4] f.body = some [i.val + 1, total] →
             (total = 0 →
               exec (.injectorResult f) s = answered 0x6C f (.refused .badValue) (frameTaken s))
             ∧ (total ≠ 0 → (p.shot.isSome = true ∨ p.shots = 0) →
                 exec (.injectorResult f) s
                   = answered 0x6C f (.refused .wrongState) (frameTaken s))
             ∧ (total ≠ 0 → p.shot = none → p.shots ≠ 0 → p.pulseTotal * 1000 < 2 ^ 64 →
                 let new := roundHalfUp (p.pulseTotal * 1000) total
                 (new * 10 ≤ c.meterK * 11 → c.meterK * 9 ≤ new * 10 → 100 ≤ new → new ≤ 100000 →
                   exec (.injectorResult f) s = answered 0x6C f (.okWith (field 4 new))
                     (put
                       { j with
                         config := some { c with meterK := new }
                         state := .proving { p with shots := 0, pulseTotal := 0 } }
                       (frameTaken s)))
                 ∧ (c.meterK * 11 < new * 10 ∨ new * 10 < c.meterK * 9 ∨ new < 100
                       ∨ 100000 < new →
                     exec (.injectorResult f) s = answered 0x6C f
                       { status := .badValue, reason := none, fields := field 4 (min 4294967295 new) }
                       (frameTaken s))))
         ∧ (validFrame s 0x6D f = true → readFields [1, 1] f.body = some [1, i.val + 1] →
             (p.shot.isSome = true →
               exec (.endProving f) s = answered 0x6D f (.refused .wrongState) (frameTaken s))
             ∧ (p.shot = none → exec (.endProving f) s = answered 0x6D f .ok
                 (offer i (put { j with state := .idle, creep := 0 } (frameTaken s))))))
     ∧ (∀ n : ArmId, validFrame s 0x6D f = true →
         readFields [1, 1] f.body = some [0, n.val + 1] →
         ((s.arm n).inRun = true →
           exec (.endProving f) s = answered 0x6D f (.refused .wrongState) (frameTaken s))
         ∧ ((s.arm n).inRun = false → (s.arm n).result = none →
             exec (.endProving f) s = answered 0x6D f (.refused .notFound) (frameTaken s))
         ∧ ((s.arm n).inRun = false → (s.arm n).result.isSome = true →
             exec (.endProving f) s = answered 0x6D f .ok
               { frameTaken s with
                 arms := s.arms.set n { s.arm n with result := none } })))
    ∧ (∀ (f : Frame) (s : State) (i : InjId),
         ((∀ p, (s.injector i).state ≠ .proving p) →
           (validFrame s 0x6B f = true → readFields [1] f.body = some [i.val + 1] →
             exec (.proveShot f) s = answered 0x6B f (.refused .wrongState) (frameTaken s))
           ∧ (∀ total, total ≠ 0 → validFrame s 0x6C f = true →
               readFields [1, 4] f.body = some [i.val + 1, total] →
               exec (.injectorResult f) s = answered 0x6C f (.refused .wrongState) (frameTaken s))
           ∧ (validFrame s 0x6D f = true → readFields [1, 1] f.body = some [1, i.val + 1] →
               exec (.endProving f) s = answered 0x6D f (.refused .wrongState) (frameTaken s))
           ∧ exec (.proveShotDone i) s = .next s)
         ∧ (∀ p r, (s.injector i).state = .proving p → p.shot = some r → s.running = true →
             r.timer.running = true →
             (r.phase = .opened →
               exec (.shotTimerExpiry i) s = .next { s with
                 injectors := s.injectors.set i
                   { s.injector i with
                     state := .proving
                       { p with
                         shot := some
                           { r with phase := .tail, timer := .start 300, ended := some .time } } } }
               ∧ exec (.proveShotDone i) s = .next s)
             ∧ (r.phase = .tail → exec (.shotTimerExpiry i) s = .next s)))

/-! ### Console -/

/-- The characters of the console (R70, R71, R74): a line feed and an empty carriage return do
nothing, a character joins a buffer of fewer than forty, a forty-first drops the record and is
answered NO FORM at its end, a malformed record is answered NO FORM, and a record while four replies
wait is dropped. The forms of the commands are notes/assumptions/9.md and 10.md, and FORM on line 2
is notes/assumptions/11.md. -/
def Obligations.ConsoleCollectsRecords : Prop :=
  ∀ s : State, s.running = true →
    exec (.consoleCharacter 0x0A) s = .next s
    ∧ (s.console.dropping = false → s.console.buffer = [] →
        exec (.consoleCharacter 0x0D) s = .next s)
    ∧ (∀ c : Byte, c ≠ 0x0A → c ≠ 0x0D → s.console.dropping = false →
        (s.console.buffer.length < 40 → exec (.consoleCharacter c) s
          = .next { s with console.buffer := s.console.buffer ++ [c] })
        ∧ (40 ≤ s.console.buffer.length → exec (.consoleCharacter c) s
            = .next { s with console.buffer := [], console.dropping := true })
        ∧ (∀ rest : List Byte, 40 ≤ s.console.buffer.length → s.console.replies.length < 4 →
            (∀ b ∈ rest, b ≠ 0x0D) →
            exec (.consoleRecordOverflow c rest) s = .next { s with
              console.buffer := [], console.dropping := false
              console.replies := s.console.replies ++ [.no .form]
              console.line2 := .refusal .form }))
    ∧ (∀ c : Byte, c ≠ 0x0D → s.console.dropping = true →
        exec (.consoleCharacter c) s = .next s)
    ∧ (s.console.dropping = true → s.console.replies.length < 4 →
        exec (.consoleCharacter 0x0D) s = .next { s with
          console.dropping := false
          console.replies := s.console.replies ++ [.no .form]
          console.line2 := .refusal .form })
    ∧ (s.console.dropping = false → s.console.buffer ≠ [] → s.console.replies.length < 4 →
        parseRecord s.console.buffer = none →
        exec .consoleMalformedRecord s = .next { s with
            console.buffer := [], console.replies := s.console.replies ++ [.no .form]
            console.line2 := .refusal .form }
          ∧ exec (.consoleCharacter 0x0D) s = exec .consoleMalformedRecord s)
    ∧ (s.console.dropping = false → s.console.buffer ≠ [] → 4 ≤ s.console.replies.length →
        exec .recordWhileFourRepliesWait s = .next { s with console.buffer := [] }
          ∧ exec (.consoleCharacter 0x0D) s = exec .recordWhileFourRepliesWait s)

/-- A console record is its request (R71, R72): the owner that the host's frame reaches takes the values
as read, its answer waits as OK or as NO with its word, which line 2 shows as well, and an accepted PLAN
shows the granted preset. The forms of the records (R71): a keyword and its fields, each behind a space,
are one of the seven records with the values of its decimal fields of one to eight digits or of its ten
hexadecimal digits; further spaces change nothing, and any other record spells no request. CONSOLE
OUTPUT (R74): the waiting replies, then the lines and the prompt that have changed since they were sent,
in that order; afterwards nothing waits and a second output sends nothing, one command sending the whole
of it (notes/assumptions/42.md). That a console command is the carriage return of the record in the
buffer is notes/assumptions/9.md. -/
def Obligations.ConsoleRequestsAndOutput : Prop :=
  (∀ s : State, s.running = true → s.console.dropping = false → s.console.buffer ≠ [] →
     s.console.replies.length < 4 →
       let t : State := { s with console.buffer := [] }
       (∀ c, parseRecord s.console.buffer = some (.card c) →
         exec (.presentCard .console) s
           = .next (answerConsole (presentCard c t).2 (presentCard c t).1))
       ∧ (∀ v, parseRecord s.console.buffer = some (.veh v) →
           exec (.nameVehicle .console) s
             = .next (answerConsole (nameVehicle v t).2 (nameVehicle v t).1))
       ∧ (∀ c r a v, parseRecord s.console.buffer = some (.plan c r a v) →
           exec (.planCompartment .console) s
             = .next (answerPlan (planCompartment c r a v t).2 (planCompartment c r a v t).1))
       ∧ (∀ a, parseRecord s.console.buffer = some (.go a) →
           exec (.startArm .console) s
             = .next (answerConsole (startArm a t).2 (startArm a t).1))
       ∧ (∀ a, parseRecord s.console.buffer = some (.halt a) →
           exec (.stopArm .console) s
             = .next (answerConsole (stopArm a t).2 (stopArm a t).1))
       ∧ (∀ a, parseRecord s.console.buffer = some (.again a) →
           exec (.resumeArm .console) s
             = .next (answerConsole (resumeArm a t).2 (resumeArm a t).1))
       ∧ (parseRecord s.console.buffer = some .done →
           exec (.endLoad .console) s = .next (answerConsole (endLoad 1 t).2 (endLoad 1 t).1))
       ∧ (∀ (a : Answer) (u : State),
           (a.status = .ok → answerConsole a u
             = { u with console.replies := u.console.replies ++ [.ok] })
           ∧ (a.status ≠ .ok → answerConsole a u = { u with
               console.replies := u.console.replies ++ [.no a.word]
               console.line2 := .refusal a.word })
           ∧ (∀ preset, preset < 65536 → answerPlan (.okWith (field 2 preset)) u = { u with
               console.replies := u.console.replies ++ [.ok]
               console.line2 := .granted preset })))
    ∧ (∀ s : State, s.running = true →
         ∃ u, exec .consoleOutput s = .next u
           ∧ u.console.sent = s.console.replies.map .reply
               ++ (if s.console.sent1 = some s.console.line1 then [] else [.say1 s.console.line1])
               ++ (if s.console.sent2 = some s.console.line2 then [] else [.say2 s.console.line2])
               ++ (match s.console.prompt with
                   | none => []
                   | some p => if s.console.sentPrompt = some p then [] else [.ask p])
           ∧ u = { s with console :=
                   { u.console with
                     buffer := s.console.buffer, dropping := s.console.dropping
                     line1 := s.console.line1, line2 := s.console.line2
                     prompt := s.console.prompt } }
           ∧ u.console.replies = [] ∧ u.console.output = [])
    ∧ ((∀ (k : List Byte) (fields : List (List Byte)),
           (∀ c ∈ k, printable c = true ∧ c ≠ 0x20) →
           (∀ w ∈ fields, w ≠ [] ∧ ∀ c ∈ w, printable c = true ∧ c ≠ 0x20) →
             parseRecord (k ++ (fields.map fun w => (0x20 : Byte) :: w).flatten)
               = parseWords k fields)
         ∧ (∀ a b : List Byte,
             parseRecord (a ++ 0x20 :: 0x20 :: b) = parseRecord (a ++ 0x20 :: b)
               ∧ parseRecord (a ++ [0x20]) = parseRecord a)
         ∧ (∀ (a : List Byte), (∃ c ∈ a, c.toNat < 0x20 ∨ 0x7E < c.toNat) → parseRecord a = none)
         ∧ (∀ (k : List Byte) (fields : List (List Byte)) (q : ConsoleRequest),
             parseWords k fields = some q ↔
               (∃ w v, k = ascii "CARD" ∧ fields = [w] ∧ cardField w = some v ∧ q = .card v)
               ∨ (∃ w v, k = ascii "VEH" ∧ fields = [w] ∧ decimalField w = some v ∧ q = .veh v)
               ∨ (∃ w1 w2 w3 w4 v1 v2 v3 v4, k = ascii "PLAN" ∧ fields = [w1, w2, w3, w4]
                   ∧ decimalField w1 = some v1 ∧ decimalField w2 = some v2
                   ∧ decimalField w3 = some v3 ∧ decimalField w4 = some v4
                   ∧ q = .plan v1 v2 v3 v4)
               ∨ (∃ w v, k = ascii "GO" ∧ fields = [w] ∧ decimalField w = some v ∧ q = .go v)
               ∨ (∃ w v, k = ascii "HALT" ∧ fields = [w] ∧ decimalField w = some v ∧ q = .halt v)
               ∨ (∃ w v, k = ascii "AGAIN" ∧ fields = [w] ∧ decimalField w = some v ∧ q = .again v)
               ∨ (k = ascii "DONE" ∧ fields = [] ∧ q = .done))
         ∧ (∀ (w : List Byte) (v : Nat), decimalField w = some v ↔
             1 ≤ w.length ∧ w.length ≤ 8 ∧ (∀ c ∈ w, 0x30 ≤ c.toNat ∧ c.toNat ≤ 0x39)
               ∧ v = w.foldl (fun a c => a * 10 + (c.toNat - 0x30)) 0)
         ∧ (∀ (w : List Byte) (v : Nat), cardField w = some v ↔
             w.length = 10 ∧ (∀ c ∈ w, (hexDigit c).isSome = true)
               ∧ v = w.foldl (fun a c => a * 16 + (hexDigit c).getD 0) 0)
         ∧ (∀ (c : Byte) (d : Nat), hexDigit c = some d ↔
             (0x30 ≤ c.toNat ∧ c.toNat ≤ 0x39 ∧ d = c.toNat - 0x30)
               ∨ (0x41 ≤ c.toNat ∧ c.toNat ≤ 0x46 ∧ d = c.toNat - 0x41 + 10)
               ∨ (0x61 ≤ c.toNat ∧ c.toNat ≤ 0x66 ∧ d = c.toNat - 0x61 + 10)))

/-! ### Supply and start-up -/

/-- Loss of supply, RESET, the marker and a cold start (R183 to R185): work stops with every valve
CLOSED and every pump off, a reply being sent and a frame begun are dropped, and every other record
stays, so that no retained record changes; a RESET without supply changes nothing; without supply the
marker may be lost; and a start-up with a bad marker leaves the defaults, a good marker and COLD START.
Every start-up reads the straps of the station address and of the line speed (R3), from any state of the
supply (notes/assumptions/24.md). The outputs after a loss of supply are notes/assumptions/35.md, with
LDIR notes/assumptions/41.md and ATTN notes/assumptions/44.md. DIV is low for an injector not configured
or with one arm, and otherwise high exactly with the diverter at the second arm (R138), while the part
does not run as well (notes/assumptions/38.md). -/
def Obligations.SupplyLossAndColdStart : Prop :=
  (∀ s : State, ∃ u, exec .powerFail s = .next u
      ∧ u = { s with
              arms := u.arms, port.reply := none, port.receiver := .hunting
              backup.supply := .off }
      ∧ (∀ n, u.arm n = { s.arm n with control.valve := .closed, control.pump := false })
      ∧ u.backup.supply = .off ∧ u.backup.markerGood = s.backup.markerGood
      ∧ (∀ n, (u.arm n).control.valve = .closed ∧ (u.arm n).control.pump = false
          ∧ u.vcls n = true ∧ u.vopn n = false ∧ u.pmp n = false
          ∧ (u.arm n).figures = (s.arm n).figures ∧ (u.arm n).totals = (s.arm n).totals
          ∧ (u.arm n).control.state = (s.arm n).control.state
          ∧ (u.arm n).components = (s.arm n).components)
      ∧ (∀ i, u.inj i = false) ∧ u.attn = false ∧ u.ldir = false
      ∧ u.permit = s.permit ∧ u.accounts = s.accounts ∧ u.load = s.load ∧ u.store = s.store
      ∧ u.products = s.products ∧ u.recipes = s.recipes ∧ u.port.clock = s.port.clock)
    ∧ (∀ s : State, s.backup.supply ≠ .off → ∃ u, exec .resetAsserted s = .next u
        ∧ u = { s with
                arms := u.arms, port.reply := none, port.receiver := .hunting
                backup.supply := .reset }
        ∧ (∀ n, u.arm n = { s.arm n with control.valve := .closed, control.pump := false })
        ∧ u.backup.supply = .reset ∧ u.backup.markerGood = s.backup.markerGood
        ∧ (∀ n, u.vcls n = true ∧ u.vopn n = false ∧ u.pmp n = false) ∧ (∀ i, u.inj i = false)
        ∧ u.attn = false ∧ u.ldir = false
        ∧ u.permit = s.permit ∧ u.accounts = s.accounts ∧ u.load = s.load ∧ u.store = s.store)
    ∧ (∀ s : State, s.backup.supply = .off → exec .resetAsserted s = .next s)
    ∧ (∀ (s : State) (i : InjId),
        ((s.injector i).config = none → s.div i = false)
        ∧ (∀ c, (s.injector i).config = some c →
            (c.secondArm = none → s.div i = false)
            ∧ (∀ b, c.secondArm = some b →
                (s.div i = true ↔ (s.injector i).diverter = b))))
    ∧ (∀ s : State, s.backup.supply = .off →
        exec .markerLost s = .next { s with backup.markerGood := false })
    ∧ (∀ s : State, s.backup.supply ≠ .off → exec .markerLost s = .next s)
    ∧ (∀ (address : Byte) (baud : BitVec 2) (s : State), s.backup.markerGood = false →
        ∃ u, exec (.startUp address baud) s = .next u
          ∧ u.port = { RackPort.cold with
              station := address, baud := baud
              events := [{ kind := .coldStart, arm := 0, code := 0, value := 0, clock := 0 }] }
          ∧ u.permit = .cold ∧ u.accounts = [] ∧ u.load = .cold
          ∧ u.products = .replicate none ∧ u.arms = .replicate .cold
          ∧ u.injectors = .replicate .cold ∧ u.recipes = [] ∧ u.capture = none
          ∧ u.store = { notes := [], next := 1 }
          ∧ u.bay = { ceiling := 0, vapourRequired := true }
          ∧ u.backup = { markerGood := true, supply := .running }
          ∧ u.monitor.permissiveOk = false ∧ u.monitor.rackStop = false
          ∧ ∀ i, (u.monitor.input i).accepted = 0)
    ∧ (∀ (address : Byte) (baud : BitVec 2) (s : State),
        ∃ u, exec (.startUp address baud) s = .next u ∧ u.running = true
          ∧ u.port.station = address
          ∧ (baud = 0 → u.lineSpeed = 19200) ∧ (baud = 1 → u.lineSpeed = 38400)
          ∧ (baud = 2 → u.lineSpeed = 57600) ∧ (baud = 3 → u.lineSpeed = 115200))

/-- A warm start of a part with no load and no batch (R36, R74, R126, R138, R186, R187), from any state
of the supply (notes/assumptions/24.md). Every retained record stays, but for the binding, the outcome
and the hold cause, which become absent, the meter run flag of a run that was cut, and the owed counts,
which become 0; every transient record takes its start-up value, and the whole of each arm and injector
is given. Stage base and close gross, which have no start-up value, stay (notes/assumptions/37.md). An
interrupted identification ends without an event, a meter run that was cut without a line, a result or
METER RUN DONE, and POWER RECOVERED with value 0 is the one event. On a day other than the count day
every loads-today count becomes 0 and the count day the clock's (R36). -/
def Obligations.WarmStartKeepsTheRecords : Prop :=
  ∀ (address : Byte) (baud : BitVec 2) (s : State), s.backup.markerGood = true →
    s.load.record = none → (∀ n, (s.arm n).control.state = .idle ∨ (s.arm n).inRun = true) →
    s.load.state ≠ .opened → s.load.state ≠ .ending →
      ∃ u, exec (.startUp address baud) s = .next u
        ∧ u.port = { RackPort.cold with
            station := address, baud := baud, silenceLimit := s.port.silenceLimit
            clock := s.port.clock
            events := [{ kind := .powerRecovered, arm := 0, code := 0, value := 0,
                         clock := s.port.clock }] }
        ∧ u.console = .started
        ∧ u.permit = { s.permit with
            referral := .empty, referralTimer := .stopped, held := none
            drivers := if s.port.clock.toNat / 86400 = s.permit.countDay then s.permit.drivers
              else s.permit.drivers.map fun d => { d with loadsToday := 0 }
            countDay := s.port.clock.toNat / 86400 }
        ∧ u.load = { s.load with
            state := .noLoad, identTimer := .stopped, idleTimer := .stopped }
        ∧ u.accounts = s.accounts ∧ u.products = s.products ∧ u.recipes = s.recipes
        ∧ u.bay = s.bay ∧ u.store = s.store ∧ u.capture = none
        ∧ u.backup = { markerGood := true, supply := .running }
        ∧ (∀ n, (u.arm n).config = (s.arm n).config ∧ (u.arm n).curve = (s.arm n).curve
            ∧ (u.arm n).totals = (s.arm n).totals ∧ (u.arm n).figures = (s.arm n).figures
            ∧ (u.arm n).channel = { MeterChannel.cleared with
                remainder := (s.arm n).channel.remainder }
            ∧ (u.arm n).control.state = .idle ∧ (u.arm n).atRest
            ∧ (u.arm n).control.overrun = (s.arm n).control.overrun
            ∧ (u.arm n).control.pacing = (s.arm n).control.pacing
            ∧ (u.arm n).run = none ∧ (u.arm n).result = none
            ∧ ((u.arm n).sampleTimer.running = true ↔ (s.arm n).config.isSome = true)
            ∧ u.arm n =
                { s.arm n with
                  sampleTimer := if (s.arm n).config.isSome then .start 100 else .stopped
                  channel := { MeterChannel.cleared with remainder := (s.arm n).channel.remainder }
                  control.state := .idle, control.binding := none, control.outcome := none
                  control.holdCause := none, control.valve := .closed, control.pump := false
                  control.flowTarget := 0, control.debtReduced := false, control.settle := 0
                  control.closingTimer := .stopped, control.noFlowTimer := .stopped
                  run := none, result := none
                  components := (s.arm n).components.map fun x => { x with owed := 0 }
                  trailingTimer := .stopped })
        ∧ (∀ i, (u.injector i).config = (s.injector i).config ∧ (u.injector i).state = .idle
            ∧ (u.injector i).badCount = 0 ∧ (u.injector i).lastServed = none
            ∧ (u.injector i).creep = 0
            ∧ ∀ c, (s.injector i).config = some c → (u.injector i).diverter = c.firstArm)
        ∧ u.monitor.permissiveOk = false ∧ u.monitor.rackStop = false
        ∧ (∀ i, (u.monitor.input i).accepted = 0
            ∧ (u.monitor.input i).levels = (s.monitor.input i).levels
            ∧ (rawValue i (s.monitor.input i).levels ≠ 0 →
                (u.monitor.input i).candidate = some (rawValue i (s.monitor.input i).levels)
                  ∧ (u.monitor.input i).window.running = true)
            ∧ (rawValue i (s.monitor.input i).levels = 0 → (u.monitor.input i).candidate = none))

/-- A warm start of a part whose load was cut (R187): the arms' batches are IDLE and the entries gone,
every batch cut makes an INTERRUPTED line of its plan entry, the load is sealed POWER_INTERRUPTED with
them behind the lines it had, and the events are POWER RECOVERED, a BATCH ENDED for each such line in
ascending arm number, and LOAD SEALED. In ascending arm number each batch cut is charged with its
standard litres and each ARMED entry's reservation released (R45, R46), the standard totalizer takes
each line's standard mL (R97), the over-allocation of a line is what its charge left (R46), and on a day
other than the count day the loads-today counts become 0 (R36). FWA and CTL of a line without a sample
are notes/assumptions/39.md, and the start-up is taken from any state of the supply
(notes/assumptions/24.md). The bound rules out a totalizer beyond its width (notes/assumptions/12.md).
-/
def Obligations.WarmStartClosesOutTheLoad : Prop :=
  ∀ (address : Byte) (baud : BitVec 2) (s : State) (r : OpenLoad), s.backup.markerGood = true →
    s.load.record = some r → s.load.state = .opened ∨ s.load.state = .ending → PlanSound s →
    (∀ n, (s.arm n).totals.standard + (s.arm n).figures.standard < 2 ^ 64) →
      let charged (ns : List ArmId) : State := ns.foldl (fun (t : State) n =>
        match r.plan.find? (fun x => x.arm == n) with
        | none => t
        | some e =>
          match s.recipeProduct e.recipe with
          | none => t
          | some q => State.updAllocation t r.account q.productClass fun x =>
              if (s.arm n).beyondArmed then
                x.charged e.reservation (litres (s.arm n).figures.standard)
              else { x with reserved := x.reserved - e.reservation }) s
      ∃ u lines, exec (.startUp address baud) s = .next u
        ∧ (∀ n, (u.arm n).control.state = .idle ∧ (u.arm n).control.binding = none
            ∧ (u.arm n).run = none ∧ (u.arm n).atRest
            ∧ (u.arm n).figures = (s.arm n).figures
            ∧ (u.arm n).totals.batched = (s.arm n).totals.batched
            ∧ (u.arm n).totals = { (s.arm n).totals with
                standard := (s.arm n).totals.standard
                  + (if (s.arm n).beyondArmed then (s.arm n).figures.standard else 0) }
            ∧ (u.arm n).control.overrun = (s.arm n).control.overrun
            ∧ (u.arm n).control.pacing = (s.arm n).control.pacing)
        ∧ u.accounts = (charged armIds).accounts
        ∧ u.permit = { s.permit with
            referral := .empty, referralTimer := .stopped, held := none
            drivers := if s.port.clock.toNat / 86400 = s.permit.countDay then s.permit.drivers
              else s.permit.drivers.map fun d => { d with loadsToday := 0 }
            countDay := s.port.clock.toNat / 86400 }
        ∧ u.load.state = .noLoad ∧ u.load.record = none
        ∧ u.store = { s.store with
            notes := s.store.notes ++
              [{ number := r.note, opened := r.opened, closed := s.port.clock, card := r.card,
                 vehicle := r.vehicle, account := r.account, source := r.source,
                 endCause := .powerInterrupted, lines := r.lines ++ lines }] }
        ∧ lines.map (·.arm) = armIds.filter (fun n => (s.arm n).beyondArmed)
        ∧ (∀ l ∈ lines, l.outcome = .interrupted ∧ l.grossMl = (s.arm l.arm).figures.gross
            ∧ l.standardMl = (s.arm l.arm).figures.standard
            ∧ ∃ e ∈ r.plan, e.arm = l.arm ∧ e.compartment = l.compartment
                ∧ e.recipe = l.recipe ∧ e.preset = l.preset
                ∧ ∃ q, s.recipeProduct e.recipe = some q
                    ∧ l = lineOf e q .interrupted l.overAllocation (s.arm l.arm)
                    ∧ l.overAllocation = overAllocationOf
                        ((charged (armIds.filter (· < l.arm))).account r.account) q.productClass
                        e.reservation (litres (s.arm l.arm).figures.standard))
        ∧ u.port.events =
            [{ kind := .powerRecovered, arm := 0, code := 0, value := lines.length,
               clock := s.port.clock }]
            ++ (armIds.filter fun n => (s.arm n).beyondArmed).map (fun n =>
                { kind := .batchEnded, arm := n.val + 1, code := 5,
                  value := (s.arm n).figures.gross, clock := s.port.clock })
            ++ [{ kind := .loadSealed, arm := 0, code := 4, value := r.note,
                  clock := s.port.clock }]

/-! ### What every step keeps -/

/-- Every step keeps flow safe (R110, R113, R114, R128): an arm commands an open or held valve, a pump
and a target in a flowing state alone, and it flows only with the bay permissive OK, the stow switch
DEPLOYED and the coupler on its compartment. Every step keeps the gross totalizer equal to batched,
proving and unbatched gross together while it has room for the next sample's increment (R96; the premise
rules out a totalizer beyond its width, notes/assumptions/12.md), and the B total of a single-channel
arm's batch at 0 (R90, notes/assumptions/40.md). -/
def Obligations.EveryStepKeepsFlowSafe : Prop :=
  (∀ s t : State, FlowSafe s → step s = .next t → FlowSafe t)
    ∧ (∀ s t : State, TotalsSound s →
        (∀ n, (s.arm n).totals.gross + (s.arm n).nextIncrement < 2 ^ 64) →
        step s = .next t → TotalsSound t)
    ∧ (∀ s t : State, SingleChannelSound s → step s = .next t → SingleChannelSound t)

/-- Every step keeps the accounts sound (R38): no class has more reserved than remains, and the reserved
total of a class is the sum of the reservations of the plan entries charged to it, with the load's
record and plan as the other invariants have them. -/
def Obligations.EveryStepKeepsAccountsSound : Prop :=
  (∀ s t : State, AccountsSound s → step s = .next t → AccountsSound t)
    ∧ (∀ s t : State, ReservedSound s → LoadStateSound s → PlanSound s → step s = .next t →
        ReservedSound t)

/-- Every step keeps the bounds of the link and of the console (R3, R7, R13, R70, R74). -/
def Obligations.EveryStepKeepsPortsSound : Prop :=
  (∀ s t : State, PortSound s → step s = .next t → PortSound t)
    ∧ (∀ s t : State, ConsoleSound s → step s = .next t → ConsoleSound t)

/-- Every step keeps the load's record with its state, the notes in ascending number within the store's
16 places, and the open load's number the newest (R50, R53, R170 to R172). -/
def Obligations.EveryStepKeepsNotesInOrder : Prop :=
  ∀ s t : State, LoadStateSound s ∧ NotesSound s → step s = .next t →
    LoadStateSound t ∧ NotesSound t

/-- Every step keeps arms and plan entries bound one to one (R55, R59, R75, R141), and the injectors and
their shots sound: each shot in flight serves an arm whose batch uses the injector, at its diverter and
with its target, and each entry's arm carries its binding and the components of its recipe (R103, R138,
R139, R143, R146). -/
def Obligations.EveryStepKeepsThePlanBound : Prop :=
  (∀ s t : State, LoadStateSound s ∧ PlanSound s → step s = .next t →
      LoadStateSound t ∧ PlanSound t)
    ∧ (∀ s t : State, LoadStateSound s ∧ PlanSound s ∧ InjectorsSound s → step s = .next t →
        InjectorsSound t)
end

