-- ==== Sys2Proof/Laws/State.lean ====
section
/-! SUPPORT. One lemma per field for each of the shared updates of the state, and what the banks of like
records give after a change. -/

namespace Sys2Proof.Machine

/-! ### Banks -/

@[simp] theorem Bank4.get_set_same {α : Type} (b : Bank4 α) (n : Fin 4) (a : α) :
    (b.set n a).get n = a := by
  match n with
  | 0 | 1 | 2 | 3 => rfl

theorem Bank4.get_set_of_ne {α : Type} (b : Bank4 α) {n k : Fin 4} (a : α) (h : k ≠ n) :
    (b.set n a).get k = b.get k := by
  match n, k with
  | 0, 0 | 1, 1 | 2, 2 | 3, 3 => exact absurd rfl h
  | 0, 1 | 0, 2 | 0, 3 | 1, 0 | 1, 2 | 1, 3 | 2, 0 | 2, 1 | 2, 3 | 3, 0 | 3, 1 | 3, 2 => rfl

@[simp] theorem Bank4.set_set {α : Type} (b : Bank4 α) (n : Fin 4) (a c : α) :
    (b.set n a).set n c = b.set n c := by
  match n with
  | 0 | 1 | 2 | 3 => rfl

@[simp] theorem Bank4.set_get {α : Type} (b : Bank4 α) (n : Fin 4) : b.set n (b.get n) = b := by
  match n with
  | 0 | 1 | 2 | 3 => rfl

@[simp] theorem Bank4.get_map {α β : Type} (f : α → β) (b : Bank4 α) (n : Fin 4) :
    (b.map f).get n = f (b.get n) := by
  match n with
  | 0 | 1 | 2 | 3 => rfl

@[simp] theorem Bank4.get_replicate {α : Type} (a : α) (n : Fin 4) :
    (Bank4.replicate a).get n = a := by
  match n with
  | 0 | 1 | 2 | 3 => rfl

theorem Bank4.ext_get {α : Type} {b c : Bank4 α} (h : ∀ n, b.get n = c.get n) : b = c := by
  obtain ⟨b1, b2, b3, b4⟩ := b
  obtain ⟨c1, c2, c3, c4⟩ := c
  have h1 : b1 = c1 := h 0
  have h2 : b2 = c2 := h 1
  have h3 : b3 = c3 := h 2
  have h4 : b4 = c4 := h 3
  subst h1 h2 h3 h4
  rfl

theorem Bank4.any_toList {α : Type} (b : Bank4 α) (p : α → Bool) :
    b.toList.any p = true ↔ ∃ n, p (b.get n) = true := by
  constructor
  · intro h
    simp only [Bank4.toList, List.any_cons, List.any_nil, Bool.or_eq_true] at h
    rcases h with h | h | h | h | h
    · exact ⟨0, h⟩
    · exact ⟨1, h⟩
    · exact ⟨2, h⟩
    · exact ⟨3, h⟩
    · exact absurd h (by simp)
  · rintro ⟨n, h⟩
    match n with
    | 0 | 1 | 2 | 3 => simp_all [Bank4.toList, Bank4.get]

@[simp] theorem Bank6.get_set_same {α : Type} (b : Bank6 α) (n : Fin 6) (a : α) :
    (b.set n a).get n = a := by
  match n with
  | 0 | 1 | 2 | 3 | 4 | 5 => rfl

theorem Bank6.get_set_of_ne {α : Type} (b : Bank6 α) {n k : Fin 6} (a : α) (h : k ≠ n) :
    (b.set n a).get k = b.get k := by
  revert h
  match n with
  | 0 | 1 | 2 | 3 | 4 | 5 =>
    match k with
    | 0 | 1 | 2 | 3 | 4 | 5 => first | exact fun h => absurd rfl h | exact fun _ => rfl

@[simp] theorem Bank6.set_set {α : Type} (b : Bank6 α) (n : Fin 6) (a c : α) :
    (b.set n a).set n c = b.set n c := by
  match n with
  | 0 | 1 | 2 | 3 | 4 | 5 => rfl

@[simp] theorem Bank6.set_get {α : Type} (b : Bank6 α) (n : Fin 6) : b.set n (b.get n) = b := by
  match n with
  | 0 | 1 | 2 | 3 | 4 | 5 => rfl

@[simp] theorem Bank6.get_map {α β : Type} (f : α → β) (b : Bank6 α) (n : Fin 6) :
    (b.map f).get n = f (b.get n) := by
  match n with
  | 0 | 1 | 2 | 3 | 4 | 5 => rfl

@[simp] theorem Bank6.get_replicate {α : Type} (a : α) (n : Fin 6) :
    (Bank6.replicate a).get n = a := by
  match n with
  | 0 | 1 | 2 | 3 | 4 | 5 => rfl

theorem Bank6.ext_get {α : Type} {b c : Bank6 α} (h : ∀ n, b.get n = c.get n) : b = c := by
  obtain ⟨b1, b2, b3, b4, b5, b6⟩ := b
  obtain ⟨c1, c2, c3, c4, c5, c6⟩ := c
  have h1 : b1 = c1 := h 0
  have h2 : b2 = c2 := h 1
  have h3 : b3 = c3 := h 2
  have h4 : b4 = c4 := h 3
  have h5 : b5 = c5 := h 4
  have h6 : b6 = c6 := h 5
  subst h1 h2 h3 h4 h5 h6
  rfl

@[simp] theorem Bank8.get_set_same {α : Type} (b : Bank8 α) (n : Fin 8) (a : α) :
    (b.set n a).get n = a := by
  match n with
  | 0 | 1 | 2 | 3 | 4 | 5 | 6 | 7 => rfl

theorem Bank8.get_set_of_ne {α : Type} (b : Bank8 α) {n k : Fin 8} (a : α) (h : k ≠ n) :
    (b.set n a).get k = b.get k := by
  revert h
  match n with
  | 0 | 1 | 2 | 3 | 4 | 5 | 6 | 7 =>
    match k with
    | 0 | 1 | 2 | 3 | 4 | 5 | 6 | 7 =>
      first | exact fun h => absurd rfl h | exact fun _ => rfl

@[simp] theorem Bank8.get_replicate {α : Type} (a : α) (n : Fin 8) :
    (Bank8.replicate a).get n = a := by
  match n with
  | 0 | 1 | 2 | 3 | 4 | 5 | 6 | 7 => rfl

theorem Bank8.any_toList {α : Type} (b : Bank8 α) (p : α → Bool) :
    b.toList.any p = true ↔ ∃ n, p (b.get n) = true := by
  constructor
  · intro h
    simp only [Bank8.toList, List.any_cons, List.any_nil, Bool.or_eq_true] at h
    rcases h with h | h | h | h | h | h | h | h | h
    · exact ⟨0, h⟩
    · exact ⟨1, h⟩
    · exact ⟨2, h⟩
    · exact ⟨3, h⟩
    · exact ⟨4, h⟩
    · exact ⟨5, h⟩
    · exact ⟨6, h⟩
    · exact ⟨7, h⟩
    · exact absurd h (by simp)
  · rintro ⟨n, h⟩
    match n with
    | 0 | 1 | 2 | 3 | 4 | 5 | 6 | 7 => simp_all [Bank8.toList, Bank8.get]

/-! ### Arms and injectors -/

@[simp] theorem arm_setArm_same (s : State) (n : ArmId) (a : Arm) : (s.setArm n a).arm n = a :=
  Bank4.get_set_same ..

theorem arm_setArm_of_ne (s : State) {n k : ArmId} (a : Arm) (h : k ≠ n) :
    (s.setArm n a).arm k = s.arm k := Bank4.get_set_of_ne _ _ h

@[simp] theorem arm_updArm_same (s : State) (n : ArmId) (f : Arm → Arm) :
    (s.updArm n f).arm n = f (s.arm n) := Bank4.get_set_same ..

theorem arm_updArm_of_ne (s : State) {n k : ArmId} (f : Arm → Arm) (h : k ≠ n) :
    (s.updArm n f).arm k = s.arm k := Bank4.get_set_of_ne _ _ h

theorem arm_updArm (s : State) (n k : ArmId) (f : Arm → Arm) :
    (s.updArm n f).arm k = if k = n then f (s.arm n) else s.arm k := by
  split
  · next h => subst h; exact arm_updArm_same ..
  · next h => exact arm_updArm_of_ne _ _ h

@[simp] theorem injector_setInjector_same (s : State) (i : InjId) (j : Injector) :
    (s.setInjector i j).injector i = j := Bank6.get_set_same ..

theorem injector_setInjector_of_ne (s : State) {i k : InjId} (j : Injector) (h : k ≠ i) :
    (s.setInjector i j).injector k = s.injector k := Bank6.get_set_of_ne _ _ h

/-- A valid frame on an UP link (R1, R12). -/
theorem frameTaken_up (s : State) (h : s.port.link = .up) : frameTaken s = { s with
    port.receiver := .hunting, port.silence := silenceTimerFor s.port.silenceLimit } := by
  unfold frameTaken linkUp; simp only [h]

/-- A valid frame on a LOST link (R1, R12). -/
theorem frameTaken_lost (s : State) (h : s.port.link = .lost) :
    frameTaken s = post .linkRestored 0 0 0 { s with
      port.receiver := .hunting, port.silence := silenceTimerFor s.port.silenceLimit,
      port.link := .up } := by
  unfold frameTaken linkUp; simp only [h]

/-! ### Updates, field by field -/

@[simp] theorem setArm_port (s : State) (n : ArmId) (a : Arm) :
    (s.setArm n a).port = s.port := rfl
@[simp] theorem setArm_console (s : State) (n : ArmId) (a : Arm) :
    (s.setArm n a).console = s.console := rfl
@[simp] theorem setArm_permit (s : State) (n : ArmId) (a : Arm) :
    (s.setArm n a).permit = s.permit := rfl
@[simp] theorem setArm_accounts (s : State) (n : ArmId) (a : Arm) :
    (s.setArm n a).accounts = s.accounts := rfl
@[simp] theorem setArm_load (s : State) (n : ArmId) (a : Arm) :
    (s.setArm n a).load = s.load := rfl
@[simp] theorem setArm_products (s : State) (n : ArmId) (a : Arm) :
    (s.setArm n a).products = s.products := rfl
@[simp] theorem setArm_capture (s : State) (n : ArmId) (a : Arm) :
    (s.setArm n a).capture = s.capture := rfl
@[simp] theorem setArm_bay (s : State) (n : ArmId) (a : Arm) :
    (s.setArm n a).bay = s.bay := rfl
@[simp] theorem setArm_monitor (s : State) (n : ArmId) (a : Arm) :
    (s.setArm n a).monitor = s.monitor := rfl
@[simp] theorem setArm_injectors (s : State) (n : ArmId) (a : Arm) :
    (s.setArm n a).injectors = s.injectors := rfl
@[simp] theorem setArm_recipes (s : State) (n : ArmId) (a : Arm) :
    (s.setArm n a).recipes = s.recipes := rfl
@[simp] theorem setArm_store (s : State) (n : ArmId) (a : Arm) :
    (s.setArm n a).store = s.store := rfl
@[simp] theorem setArm_backup (s : State) (n : ArmId) (a : Arm) :
    (s.setArm n a).backup = s.backup := rfl
@[simp] theorem setArm_choices (s : State) (n : ArmId) (a : Arm) :
    (s.setArm n a).choices = s.choices := rfl
@[simp] theorem setArm_pending (s : State) (n : ArmId) (a : Arm) :
    (s.setArm n a).pending = s.pending := rfl

@[simp] theorem setArm_injector (s : State) (n : ArmId) (a : Arm) (k : InjId) :
    (s.setArm n a).injector k = s.injector k := rfl

@[simp] theorem updArm_port (s : State) (n : ArmId) (f : Arm → Arm) :
    (s.updArm n f).port = s.port := rfl
@[simp] theorem updArm_console (s : State) (n : ArmId) (f : Arm → Arm) :
    (s.updArm n f).console = s.console := rfl
@[simp] theorem updArm_permit (s : State) (n : ArmId) (f : Arm → Arm) :
    (s.updArm n f).permit = s.permit := rfl
@[simp] theorem updArm_accounts (s : State) (n : ArmId) (f : Arm → Arm) :
    (s.updArm n f).accounts = s.accounts := rfl
@[simp] theorem updArm_load (s : State) (n : ArmId) (f : Arm → Arm) :
    (s.updArm n f).load = s.load := rfl
@[simp] theorem updArm_products (s : State) (n : ArmId) (f : Arm → Arm) :
    (s.updArm n f).products = s.products := rfl
@[simp] theorem updArm_capture (s : State) (n : ArmId) (f : Arm → Arm) :
    (s.updArm n f).capture = s.capture := rfl
@[simp] theorem updArm_bay (s : State) (n : ArmId) (f : Arm → Arm) :
    (s.updArm n f).bay = s.bay := rfl
@[simp] theorem updArm_monitor (s : State) (n : ArmId) (f : Arm → Arm) :
    (s.updArm n f).monitor = s.monitor := rfl
@[simp] theorem updArm_injectors (s : State) (n : ArmId) (f : Arm → Arm) :
    (s.updArm n f).injectors = s.injectors := rfl
@[simp] theorem updArm_recipes (s : State) (n : ArmId) (f : Arm → Arm) :
    (s.updArm n f).recipes = s.recipes := rfl
@[simp] theorem updArm_store (s : State) (n : ArmId) (f : Arm → Arm) :
    (s.updArm n f).store = s.store := rfl
@[simp] theorem updArm_backup (s : State) (n : ArmId) (f : Arm → Arm) :
    (s.updArm n f).backup = s.backup := rfl
@[simp] theorem updArm_choices (s : State) (n : ArmId) (f : Arm → Arm) :
    (s.updArm n f).choices = s.choices := rfl
@[simp] theorem updArm_pending (s : State) (n : ArmId) (f : Arm → Arm) :
    (s.updArm n f).pending = s.pending := rfl

@[simp] theorem updArm_injector (s : State) (n : ArmId) (f : Arm → Arm) (k : InjId) :
    (s.updArm n f).injector k = s.injector k := rfl

@[simp] theorem setInjector_port (s : State) (i : InjId) (j : Injector) :
    (s.setInjector i j).port = s.port := rfl
@[simp] theorem setInjector_console (s : State) (i : InjId) (j : Injector) :
    (s.setInjector i j).console = s.console := rfl
@[simp] theorem setInjector_permit (s : State) (i : InjId) (j : Injector) :
    (s.setInjector i j).permit = s.permit := rfl
@[simp] theorem setInjector_accounts (s : State) (i : InjId) (j : Injector) :
    (s.setInjector i j).accounts = s.accounts := rfl
@[simp] theorem setInjector_load (s : State) (i : InjId) (j : Injector) :
    (s.setInjector i j).load = s.load := rfl
@[simp] theorem setInjector_products (s : State) (i : InjId) (j : Injector) :
    (s.setInjector i j).products = s.products := rfl
@[simp] theorem setInjector_capture (s : State) (i : InjId) (j : Injector) :
    (s.setInjector i j).capture = s.capture := rfl
@[simp] theorem setInjector_arms (s : State) (i : InjId) (j : Injector) :
    (s.setInjector i j).arms = s.arms := rfl
@[simp] theorem setInjector_bay (s : State) (i : InjId) (j : Injector) :
    (s.setInjector i j).bay = s.bay := rfl
@[simp] theorem setInjector_monitor (s : State) (i : InjId) (j : Injector) :
    (s.setInjector i j).monitor = s.monitor := rfl
@[simp] theorem setInjector_recipes (s : State) (i : InjId) (j : Injector) :
    (s.setInjector i j).recipes = s.recipes := rfl
@[simp] theorem setInjector_store (s : State) (i : InjId) (j : Injector) :
    (s.setInjector i j).store = s.store := rfl
@[simp] theorem setInjector_backup (s : State) (i : InjId) (j : Injector) :
    (s.setInjector i j).backup = s.backup := rfl
@[simp] theorem setInjector_choices (s : State) (i : InjId) (j : Injector) :
    (s.setInjector i j).choices = s.choices := rfl
@[simp] theorem setInjector_pending (s : State) (i : InjId) (j : Injector) :
    (s.setInjector i j).pending = s.pending := rfl

@[simp] theorem setInjector_arm (s : State) (i : InjId) (j : Injector) (k : ArmId) :
    (s.setInjector i j).arm k = s.arm k := rfl

@[simp] theorem updRecord_port (s : State) (f : OpenLoad → OpenLoad) :
    (s.updRecord f).port = s.port := rfl
@[simp] theorem updRecord_console (s : State) (f : OpenLoad → OpenLoad) :
    (s.updRecord f).console = s.console := rfl
@[simp] theorem updRecord_permit (s : State) (f : OpenLoad → OpenLoad) :
    (s.updRecord f).permit = s.permit := rfl
@[simp] theorem updRecord_accounts (s : State) (f : OpenLoad → OpenLoad) :
    (s.updRecord f).accounts = s.accounts := rfl
@[simp] theorem updRecord_products (s : State) (f : OpenLoad → OpenLoad) :
    (s.updRecord f).products = s.products := rfl
@[simp] theorem updRecord_capture (s : State) (f : OpenLoad → OpenLoad) :
    (s.updRecord f).capture = s.capture := rfl
@[simp] theorem updRecord_arms (s : State) (f : OpenLoad → OpenLoad) :
    (s.updRecord f).arms = s.arms := rfl
@[simp] theorem updRecord_bay (s : State) (f : OpenLoad → OpenLoad) :
    (s.updRecord f).bay = s.bay := rfl
@[simp] theorem updRecord_monitor (s : State) (f : OpenLoad → OpenLoad) :
    (s.updRecord f).monitor = s.monitor := rfl
@[simp] theorem updRecord_injectors (s : State) (f : OpenLoad → OpenLoad) :
    (s.updRecord f).injectors = s.injectors := rfl
@[simp] theorem updRecord_recipes (s : State) (f : OpenLoad → OpenLoad) :
    (s.updRecord f).recipes = s.recipes := rfl
@[simp] theorem updRecord_store (s : State) (f : OpenLoad → OpenLoad) :
    (s.updRecord f).store = s.store := rfl
@[simp] theorem updRecord_backup (s : State) (f : OpenLoad → OpenLoad) :
    (s.updRecord f).backup = s.backup := rfl
@[simp] theorem updRecord_choices (s : State) (f : OpenLoad → OpenLoad) :
    (s.updRecord f).choices = s.choices := rfl
@[simp] theorem updRecord_pending (s : State) (f : OpenLoad → OpenLoad) :
    (s.updRecord f).pending = s.pending := rfl

@[simp] theorem updRecord_arm (s : State) (f : OpenLoad → OpenLoad) (k : ArmId) :
    (s.updRecord f).arm k = s.arm k := rfl
@[simp] theorem updRecord_injector (s : State) (f : OpenLoad → OpenLoad) (k : InjId) :
    (s.updRecord f).injector k = s.injector k := rfl

@[simp] theorem updAllocation_port (s : State) (a : Nat) (c : ClassId) (f : Allocation → Allocation) :
    (s.updAllocation a c f).port = s.port := rfl
@[simp] theorem updAllocation_console (s : State) (a : Nat) (c : ClassId) (f : Allocation → Allocation) :
    (s.updAllocation a c f).console = s.console := rfl
@[simp] theorem updAllocation_permit (s : State) (a : Nat) (c : ClassId) (f : Allocation → Allocation) :
    (s.updAllocation a c f).permit = s.permit := rfl
@[simp] theorem updAllocation_load (s : State) (a : Nat) (c : ClassId) (f : Allocation → Allocation) :
    (s.updAllocation a c f).load = s.load := rfl
@[simp] theorem updAllocation_products (s : State) (a : Nat) (c : ClassId) (f : Allocation → Allocation) :
    (s.updAllocation a c f).products = s.products := rfl
@[simp] theorem updAllocation_capture (s : State) (a : Nat) (c : ClassId) (f : Allocation → Allocation) :
    (s.updAllocation a c f).capture = s.capture := rfl
@[simp] theorem updAllocation_arms (s : State) (a : Nat) (c : ClassId) (f : Allocation → Allocation) :
    (s.updAllocation a c f).arms = s.arms := rfl
@[simp] theorem updAllocation_bay (s : State) (a : Nat) (c : ClassId) (f : Allocation → Allocation) :
    (s.updAllocation a c f).bay = s.bay := rfl
@[simp] theorem updAllocation_monitor (s : State) (a : Nat) (c : ClassId) (f : Allocation → Allocation) :
    (s.updAllocation a c f).monitor = s.monitor := rfl
@[simp] theorem updAllocation_injectors (s : State) (a : Nat) (c : ClassId) (f : Allocation → Allocation) :
    (s.updAllocation a c f).injectors = s.injectors := rfl
@[simp] theorem updAllocation_recipes (s : State) (a : Nat) (c : ClassId) (f : Allocation → Allocation) :
    (s.updAllocation a c f).recipes = s.recipes := rfl
@[simp] theorem updAllocation_store (s : State) (a : Nat) (c : ClassId) (f : Allocation → Allocation) :
    (s.updAllocation a c f).store = s.store := rfl
@[simp] theorem updAllocation_backup (s : State) (a : Nat) (c : ClassId) (f : Allocation → Allocation) :
    (s.updAllocation a c f).backup = s.backup := rfl
@[simp] theorem updAllocation_choices (s : State) (a : Nat) (c : ClassId) (f : Allocation → Allocation) :
    (s.updAllocation a c f).choices = s.choices := rfl
@[simp] theorem updAllocation_pending (s : State) (a : Nat) (c : ClassId) (f : Allocation → Allocation) :
    (s.updAllocation a c f).pending = s.pending := rfl

@[simp] theorem updAllocation_arm (s : State) (a : Nat) (c : ClassId) (f : Allocation → Allocation) (k : ArmId) :
    (s.updAllocation a c f).arm k = s.arm k := rfl
@[simp] theorem updAllocation_injector (s : State) (a : Nat) (c : ClassId) (f : Allocation → Allocation) (k : InjId) :
    (s.updAllocation a c f).injector k = s.injector k := rfl

@[simp] theorem setLine2_port (t : Line2) (s : State) :
    (setLine2 t s).port = s.port := rfl
@[simp] theorem setLine2_permit (t : Line2) (s : State) :
    (setLine2 t s).permit = s.permit := rfl
@[simp] theorem setLine2_accounts (t : Line2) (s : State) :
    (setLine2 t s).accounts = s.accounts := rfl
@[simp] theorem setLine2_load (t : Line2) (s : State) :
    (setLine2 t s).load = s.load := rfl
@[simp] theorem setLine2_products (t : Line2) (s : State) :
    (setLine2 t s).products = s.products := rfl
@[simp] theorem setLine2_capture (t : Line2) (s : State) :
    (setLine2 t s).capture = s.capture := rfl
@[simp] theorem setLine2_arms (t : Line2) (s : State) :
    (setLine2 t s).arms = s.arms := rfl
@[simp] theorem setLine2_bay (t : Line2) (s : State) :
    (setLine2 t s).bay = s.bay := rfl
@[simp] theorem setLine2_monitor (t : Line2) (s : State) :
    (setLine2 t s).monitor = s.monitor := rfl
@[simp] theorem setLine2_injectors (t : Line2) (s : State) :
    (setLine2 t s).injectors = s.injectors := rfl
@[simp] theorem setLine2_recipes (t : Line2) (s : State) :
    (setLine2 t s).recipes = s.recipes := rfl
@[simp] theorem setLine2_store (t : Line2) (s : State) :
    (setLine2 t s).store = s.store := rfl
@[simp] theorem setLine2_backup (t : Line2) (s : State) :
    (setLine2 t s).backup = s.backup := rfl
@[simp] theorem setLine2_choices (t : Line2) (s : State) :
    (setLine2 t s).choices = s.choices := rfl
@[simp] theorem setLine2_pending (t : Line2) (s : State) :
    (setLine2 t s).pending = s.pending := rfl

@[simp] theorem setLine2_arm (t : Line2) (s : State) (k : ArmId) :
    (setLine2 t s).arm k = s.arm k := rfl
@[simp] theorem setLine2_injector (t : Line2) (s : State) (k : InjId) :
    (setLine2 t s).injector k = s.injector k := rfl

@[simp] theorem startIdleTimer_port (s : State) :
    (startIdleTimer s).port = s.port := rfl
@[simp] theorem startIdleTimer_console (s : State) :
    (startIdleTimer s).console = s.console := rfl
@[simp] theorem startIdleTimer_permit (s : State) :
    (startIdleTimer s).permit = s.permit := rfl
@[simp] theorem startIdleTimer_accounts (s : State) :
    (startIdleTimer s).accounts = s.accounts := rfl
@[simp] theorem startIdleTimer_products (s : State) :
    (startIdleTimer s).products = s.products := rfl
@[simp] theorem startIdleTimer_capture (s : State) :
    (startIdleTimer s).capture = s.capture := rfl
@[simp] theorem startIdleTimer_arms (s : State) :
    (startIdleTimer s).arms = s.arms := rfl
@[simp] theorem startIdleTimer_bay (s : State) :
    (startIdleTimer s).bay = s.bay := rfl
@[simp] theorem startIdleTimer_monitor (s : State) :
    (startIdleTimer s).monitor = s.monitor := rfl
@[simp] theorem startIdleTimer_injectors (s : State) :
    (startIdleTimer s).injectors = s.injectors := rfl
@[simp] theorem startIdleTimer_recipes (s : State) :
    (startIdleTimer s).recipes = s.recipes := rfl
@[simp] theorem startIdleTimer_store (s : State) :
    (startIdleTimer s).store = s.store := rfl
@[simp] theorem startIdleTimer_backup (s : State) :
    (startIdleTimer s).backup = s.backup := rfl
@[simp] theorem startIdleTimer_choices (s : State) :
    (startIdleTimer s).choices = s.choices := rfl
@[simp] theorem startIdleTimer_pending (s : State) :
    (startIdleTimer s).pending = s.pending := rfl

@[simp] theorem startIdleTimer_arm (s : State) (k : ArmId) :
    (startIdleTimer s).arm k = s.arm k := rfl
@[simp] theorem startIdleTimer_injector (s : State) (k : InjId) :
    (startIdleTimer s).injector k = s.injector k := rfl

@[simp] theorem stopIdleTimer_port (s : State) :
    (stopIdleTimer s).port = s.port := rfl
@[simp] theorem stopIdleTimer_console (s : State) :
    (stopIdleTimer s).console = s.console := rfl
@[simp] theorem stopIdleTimer_permit (s : State) :
    (stopIdleTimer s).permit = s.permit := rfl
@[simp] theorem stopIdleTimer_accounts (s : State) :
    (stopIdleTimer s).accounts = s.accounts := rfl
@[simp] theorem stopIdleTimer_products (s : State) :
    (stopIdleTimer s).products = s.products := rfl
@[simp] theorem stopIdleTimer_capture (s : State) :
    (stopIdleTimer s).capture = s.capture := rfl
@[simp] theorem stopIdleTimer_arms (s : State) :
    (stopIdleTimer s).arms = s.arms := rfl
@[simp] theorem stopIdleTimer_bay (s : State) :
    (stopIdleTimer s).bay = s.bay := rfl
@[simp] theorem stopIdleTimer_monitor (s : State) :
    (stopIdleTimer s).monitor = s.monitor := rfl
@[simp] theorem stopIdleTimer_injectors (s : State) :
    (stopIdleTimer s).injectors = s.injectors := rfl
@[simp] theorem stopIdleTimer_recipes (s : State) :
    (stopIdleTimer s).recipes = s.recipes := rfl
@[simp] theorem stopIdleTimer_store (s : State) :
    (stopIdleTimer s).store = s.store := rfl
@[simp] theorem stopIdleTimer_backup (s : State) :
    (stopIdleTimer s).backup = s.backup := rfl
@[simp] theorem stopIdleTimer_choices (s : State) :
    (stopIdleTimer s).choices = s.choices := rfl
@[simp] theorem stopIdleTimer_pending (s : State) :
    (stopIdleTimer s).pending = s.pending := rfl

@[simp] theorem stopIdleTimer_arm (s : State) (k : ArmId) :
    (stopIdleTimer s).arm k = s.arm k := rfl
@[simp] theorem stopIdleTimer_injector (s : State) (k : InjId) :
    (stopIdleTimer s).injector k = s.injector k := rfl

@[simp] theorem chosen_port (s : State) :
    (s.chosen).port = s.port := rfl
@[simp] theorem chosen_console (s : State) :
    (s.chosen).console = s.console := rfl
@[simp] theorem chosen_permit (s : State) :
    (s.chosen).permit = s.permit := rfl
@[simp] theorem chosen_accounts (s : State) :
    (s.chosen).accounts = s.accounts := rfl
@[simp] theorem chosen_load (s : State) :
    (s.chosen).load = s.load := rfl
@[simp] theorem chosen_products (s : State) :
    (s.chosen).products = s.products := rfl
@[simp] theorem chosen_capture (s : State) :
    (s.chosen).capture = s.capture := rfl
@[simp] theorem chosen_arms (s : State) :
    (s.chosen).arms = s.arms := rfl
@[simp] theorem chosen_bay (s : State) :
    (s.chosen).bay = s.bay := rfl
@[simp] theorem chosen_monitor (s : State) :
    (s.chosen).monitor = s.monitor := rfl
@[simp] theorem chosen_injectors (s : State) :
    (s.chosen).injectors = s.injectors := rfl
@[simp] theorem chosen_recipes (s : State) :
    (s.chosen).recipes = s.recipes := rfl
@[simp] theorem chosen_store (s : State) :
    (s.chosen).store = s.store := rfl
@[simp] theorem chosen_backup (s : State) :
    (s.chosen).backup = s.backup := rfl
@[simp] theorem chosen_pending (s : State) :
    (s.chosen).pending = s.pending := rfl

@[simp] theorem chosen_arm (s : State) (k : ArmId) :
    (s.chosen).arm k = s.arm k := rfl
@[simp] theorem chosen_injector (s : State) (k : InjId) :
    (s.chosen).injector k = s.injector k := rfl

@[simp] theorem post_console (k : EventKind) (a c v : Nat) (s : State) :
    (post k a c v s).console = s.console := by
  unfold post; split <;> rfl
@[simp] theorem post_permit (k : EventKind) (a c v : Nat) (s : State) :
    (post k a c v s).permit = s.permit := by
  unfold post; split <;> rfl
@[simp] theorem post_accounts (k : EventKind) (a c v : Nat) (s : State) :
    (post k a c v s).accounts = s.accounts := by
  unfold post; split <;> rfl
@[simp] theorem post_load (k : EventKind) (a c v : Nat) (s : State) :
    (post k a c v s).load = s.load := by
  unfold post; split <;> rfl
@[simp] theorem post_products (k : EventKind) (a c v : Nat) (s : State) :
    (post k a c v s).products = s.products := by
  unfold post; split <;> rfl
@[simp] theorem post_capture (k : EventKind) (a c v : Nat) (s : State) :
    (post k a c v s).capture = s.capture := by
  unfold post; split <;> rfl
@[simp] theorem post_arms (k : EventKind) (a c v : Nat) (s : State) :
    (post k a c v s).arms = s.arms := by
  unfold post; split <;> rfl
@[simp] theorem post_bay (k : EventKind) (a c v : Nat) (s : State) :
    (post k a c v s).bay = s.bay := by
  unfold post; split <;> rfl
@[simp] theorem post_monitor (k : EventKind) (a c v : Nat) (s : State) :
    (post k a c v s).monitor = s.monitor := by
  unfold post; split <;> rfl
@[simp] theorem post_injectors (k : EventKind) (a c v : Nat) (s : State) :
    (post k a c v s).injectors = s.injectors := by
  unfold post; split <;> rfl
@[simp] theorem post_recipes (k : EventKind) (a c v : Nat) (s : State) :
    (post k a c v s).recipes = s.recipes := by
  unfold post; split <;> rfl
@[simp] theorem post_store (k : EventKind) (a c v : Nat) (s : State) :
    (post k a c v s).store = s.store := by
  unfold post; split <;> rfl
@[simp] theorem post_backup (k : EventKind) (a c v : Nat) (s : State) :
    (post k a c v s).backup = s.backup := by
  unfold post; split <;> rfl
@[simp] theorem post_choices (k : EventKind) (a c v : Nat) (s : State) :
    (post k a c v s).choices = s.choices := by
  unfold post; split <;> rfl
@[simp] theorem post_pending (k : EventKind) (a c v : Nat) (s : State) :
    (post k a c v s).pending = s.pending := by
  unfold post; split <;> rfl

@[simp] theorem post_arm (k : EventKind) (a c v : Nat) (s : State) (n : ArmId) :
    (post k a c v s).arm n = s.arm n := by
  simp [State.arm]
@[simp] theorem post_injector (k : EventKind) (a c v : Nat) (s : State) (i : InjId) :
    (post k a c v s).injector i = s.injector i := by
  simp [State.injector]

@[simp] theorem enterLoad_port (l : LoadState) (s : State) :
    (enterLoad l s).port = s.port := by
  unfold enterLoad; split <;> rfl
@[simp] theorem enterLoad_permit (l : LoadState) (s : State) :
    (enterLoad l s).permit = s.permit := by
  unfold enterLoad; split <;> rfl
@[simp] theorem enterLoad_accounts (l : LoadState) (s : State) :
    (enterLoad l s).accounts = s.accounts := by
  unfold enterLoad; split <;> rfl
@[simp] theorem enterLoad_products (l : LoadState) (s : State) :
    (enterLoad l s).products = s.products := by
  unfold enterLoad; split <;> rfl
@[simp] theorem enterLoad_capture (l : LoadState) (s : State) :
    (enterLoad l s).capture = s.capture := by
  unfold enterLoad; split <;> rfl
@[simp] theorem enterLoad_arms (l : LoadState) (s : State) :
    (enterLoad l s).arms = s.arms := by
  unfold enterLoad; split <;> rfl
@[simp] theorem enterLoad_bay (l : LoadState) (s : State) :
    (enterLoad l s).bay = s.bay := by
  unfold enterLoad; split <;> rfl
@[simp] theorem enterLoad_monitor (l : LoadState) (s : State) :
    (enterLoad l s).monitor = s.monitor := by
  unfold enterLoad; split <;> rfl
@[simp] theorem enterLoad_injectors (l : LoadState) (s : State) :
    (enterLoad l s).injectors = s.injectors := by
  unfold enterLoad; split <;> rfl
@[simp] theorem enterLoad_recipes (l : LoadState) (s : State) :
    (enterLoad l s).recipes = s.recipes := by
  unfold enterLoad; split <;> rfl
@[simp] theorem enterLoad_store (l : LoadState) (s : State) :
    (enterLoad l s).store = s.store := by
  unfold enterLoad; split <;> rfl
@[simp] theorem enterLoad_backup (l : LoadState) (s : State) :
    (enterLoad l s).backup = s.backup := by
  unfold enterLoad; split <;> rfl
@[simp] theorem enterLoad_choices (l : LoadState) (s : State) :
    (enterLoad l s).choices = s.choices := by
  unfold enterLoad; split <;> rfl
@[simp] theorem enterLoad_pending (l : LoadState) (s : State) :
    (enterLoad l s).pending = s.pending := by
  unfold enterLoad; split <;> rfl

@[simp] theorem enterLoad_arm (l : LoadState) (s : State) (k : ArmId) :
    (enterLoad l s).arm k = s.arm k := by
  simp [State.arm]
@[simp] theorem enterLoad_injector (l : LoadState) (s : State) (k : InjId) :
    (enterLoad l s).injector k = s.injector k := by
  simp [State.injector]

@[simp] theorem frameTaken_console (s : State) :
    (frameTaken s).console = s.console := by
  cases h : s.port.link <;> simp [frameTaken_up, frameTaken_lost, h]
@[simp] theorem frameTaken_permit (s : State) :
    (frameTaken s).permit = s.permit := by
  cases h : s.port.link <;> simp [frameTaken_up, frameTaken_lost, h]
@[simp] theorem frameTaken_accounts (s : State) :
    (frameTaken s).accounts = s.accounts := by
  cases h : s.port.link <;> simp [frameTaken_up, frameTaken_lost, h]
@[simp] theorem frameTaken_load (s : State) :
    (frameTaken s).load = s.load := by
  cases h : s.port.link <;> simp [frameTaken_up, frameTaken_lost, h]
@[simp] theorem frameTaken_products (s : State) :
    (frameTaken s).products = s.products := by
  cases h : s.port.link <;> simp [frameTaken_up, frameTaken_lost, h]
@[simp] theorem frameTaken_capture (s : State) :
    (frameTaken s).capture = s.capture := by
  cases h : s.port.link <;> simp [frameTaken_up, frameTaken_lost, h]
@[simp] theorem frameTaken_arms (s : State) :
    (frameTaken s).arms = s.arms := by
  cases h : s.port.link <;> simp [frameTaken_up, frameTaken_lost, h]
@[simp] theorem frameTaken_bay (s : State) :
    (frameTaken s).bay = s.bay := by
  cases h : s.port.link <;> simp [frameTaken_up, frameTaken_lost, h]
@[simp] theorem frameTaken_monitor (s : State) :
    (frameTaken s).monitor = s.monitor := by
  cases h : s.port.link <;> simp [frameTaken_up, frameTaken_lost, h]
@[simp] theorem frameTaken_injectors (s : State) :
    (frameTaken s).injectors = s.injectors := by
  cases h : s.port.link <;> simp [frameTaken_up, frameTaken_lost, h]
@[simp] theorem frameTaken_recipes (s : State) :
    (frameTaken s).recipes = s.recipes := by
  cases h : s.port.link <;> simp [frameTaken_up, frameTaken_lost, h]
@[simp] theorem frameTaken_store (s : State) :
    (frameTaken s).store = s.store := by
  cases h : s.port.link <;> simp [frameTaken_up, frameTaken_lost, h]
@[simp] theorem frameTaken_backup (s : State) :
    (frameTaken s).backup = s.backup := by
  cases h : s.port.link <;> simp [frameTaken_up, frameTaken_lost, h]
@[simp] theorem frameTaken_choices (s : State) :
    (frameTaken s).choices = s.choices := by
  cases h : s.port.link <;> simp [frameTaken_up, frameTaken_lost, h]
@[simp] theorem frameTaken_pending (s : State) :
    (frameTaken s).pending = s.pending := by
  cases h : s.port.link <;> simp [frameTaken_up, frameTaken_lost, h]

@[simp] theorem frameTaken_arm (s : State) (k : ArmId) :
    (frameTaken s).arm k = s.arm k := by
  simp [State.arm]
@[simp] theorem frameTaken_injector (s : State) (k : InjId) :
    (frameTaken s).injector k = s.injector k := by
  simp [State.injector]

/-! ### What the updates write -/

@[simp] theorem enterLoad_record (l : LoadState) (s : State) :
    (enterLoad l s).load.record = s.load.record := by
  unfold enterLoad; split <;> rfl

@[simp] theorem enterLoad_state (l : LoadState) (s : State) : (enterLoad l s).load.state = l := by
  unfold enterLoad; split
  · next h => exact h
  · rfl

@[simp] theorem post_clock (k : EventKind) (a c v : Nat) (s : State) :
    (post k a c v s).port.clock = s.port.clock := by
  unfold post; split <;> rfl

@[simp] theorem post_silence (k : EventKind) (a c v : Nat) (s : State) :
    (post k a c v s).port.silence = s.port.silence := by
  unfold post; split <;> rfl

@[simp] theorem post_link (k : EventKind) (a c v : Nat) (s : State) :
    (post k a c v s).port.link = s.port.link := by
  unfold post; split <;> rfl

@[simp] theorem post_reply (k : EventKind) (a c v : Nat) (s : State) :
    (post k a c v s).port.reply = s.port.reply := by
  unfold post; split <;> rfl

@[simp] theorem post_receiver (k : EventKind) (a c v : Nat) (s : State) :
    (post k a c v s).port.receiver = s.port.receiver := by
  unfold post; split <;> rfl

@[simp] theorem post_station (k : EventKind) (a c v : Nat) (s : State) :
    (post k a c v s).port.station = s.port.station := by
  unfold post; split <;> rfl

@[simp] theorem post_baud (k : EventKind) (a c v : Nat) (s : State) :
    (post k a c v s).port.baud = s.port.baud := by
  unfold post; split <;> rfl

@[simp] theorem post_silenceLimit (k : EventKind) (a c v : Nat) (s : State) :
    (post k a c v s).port.silenceLimit = s.port.silenceLimit := by
  unfold post; split <;> rfl

@[simp] theorem frameTaken_receiver (s : State) : (frameTaken s).port.receiver = .hunting := by
  cases h : s.port.link <;> simp [frameTaken_up, frameTaken_lost, h]

@[simp] theorem frameTaken_station (s : State) : (frameTaken s).port.station = s.port.station := by
  cases h : s.port.link <;> simp [frameTaken_up, frameTaken_lost, h]

@[simp] theorem frameTaken_clock (s : State) : (frameTaken s).port.clock = s.port.clock := by
  cases h : s.port.link <;> simp [frameTaken_up, frameTaken_lost, h]

@[simp] theorem frameTaken_reply (s : State) : (frameTaken s).port.reply = s.port.reply := by
  cases h : s.port.link <;> simp [frameTaken_up, frameTaken_lost, h]

@[simp] theorem frameTaken_link (s : State) : (frameTaken s).port.link = .up := by
  cases h : s.port.link <;> simp [frameTaken_up, frameTaken_lost, h]

@[simp] theorem frameTaken_silenceLimit (s : State) : (frameTaken s).port.silenceLimit = s.port.silenceLimit := by
  cases h : s.port.link <;> simp [frameTaken_up, frameTaken_lost, h]

@[simp] theorem frameTaken_silence (s : State) : (frameTaken s).port.silence = silenceTimerFor s.port.silenceLimit := by
  cases h : s.port.link <;> simp [frameTaken_up, frameTaken_lost, h]

/-- All that posting can do (R7). -/
theorem post_events (k : EventKind) (a c v : Nat) (s : State) :
    (post k a c v s).port.events.length ≤ max s.port.events.length 32
      ∧ ∃ l, (post k a c v s).port.events = s.port.events ++ l ∧ l.length ≤ 1 := by
  unfold post
  split
  · next h => exact ⟨by simp [Config.eventQueueSize] at *; omega, _, rfl, by simp⟩
  · exact ⟨by simp, [], by simp, by simp⟩

end Sys2Proof.Machine
end

