-- ==== Sys2Proof/Laws/Requests.lean ====
section
/-! SUPPORT. What a request does before and after its owner: the frame, the fields of its body and the
reply. -/

namespace Sys2Proof.Machine

/-- A valid frame goes to its owner and is answered (R4, R5). -/
theorem takeRequest_valid {kind : Byte} {owner : List Byte → Owner} {f : Frame} {s : State}
    (h : validFrame s kind f = true) :
    takeRequest kind owner f s
      = answered kind f (owner f.body (frameTaken s)).2 (owner f.body (frameTaken s)).1 := by
  unfold takeRequest answered; simp [h]

/-- A frame that is not valid is discarded without a reply (R1). -/
theorem takeRequest_invalid {kind : Byte} {owner : List Byte → Owner} {f : Frame} {s : State}
    (h : validFrame s kind f = false) :
    takeRequest kind owner f s = .next (receiverHunts s) := by
  unfold takeRequest; simp [h]

/-- All that a request of any kind can do. -/
theorem takeRequest_cases {kind : Byte} {owner : List Byte → Owner} {f : Frame} {s t : State}
    (h : takeRequest kind owner f s = .next t) :
    (validFrame s kind f = true
        ∧ t = sendReply kind f.tag (owner f.body (frameTaken s)).2 (owner f.body (frameTaken s)).1)
      ∨ (validFrame s kind f = false ∧ t = receiverHunts s) := by
  cases hv : validFrame s kind f with
  | true =>
    rw [takeRequest_valid hv, answered, Host.Outcome.next.injEq] at h
    exact .inl ⟨rfl, h.symm⟩
  | false =>
    rw [takeRequest_invalid hv, Host.Outcome.next.injEq] at h
    exact .inr ⟨rfl, h.symm⟩

theorem validFrame_running {s : State} {kind : Byte} {f : Frame} (h : validFrame s kind f = true) :
    s.running = true := by
  simp only [validFrame, State.listening, Bool.and_eq_true] at h; exact h.1.1.1.1.1

theorem validFrame_reply {s : State} {kind : Byte} {f : Frame} (h : validFrame s kind f = true) :
    s.port.reply = none := by
  simp only [validFrame, State.listening, Bool.and_eq_true, Option.isNone_iff_eq_none] at h
  exact h.1.1.1.1.2

/-- The fields of a body stand for its whole length. -/
theorem readFields_length {ws : List Nat} {b : List Byte} {vs : List Nat}
    (h : readFields ws b = some vs) : b.length = ws.sum ∧ vs.length = ws.length := by
  induction ws generalizing b vs with
  | nil => cases b <;> simp_all [readFields]
  | cons w ws ih =>
    simp only [readFields] at h
    split at h
    · cases h
    · next hw =>
      obtain ⟨r, hr, rfl⟩ := Option.map_eq_some_iff.mp h
      have := ih hr
      simp only [List.length_drop, List.sum_cons, List.length_cons] at *
      omega

theorem readFields_none {ws : List Nat} {b : List Byte} (h : b.length ≠ ws.sum) :
    readFields ws b = none := by
  cases hr : readFields ws b with
  | none => rfl
  | some vs => exact absurd (readFields_length hr).1 h

/-- A body of the right length has its fields. -/
theorem readFields_isSome {ws : List Nat} {b : List Byte} (h : b.length = ws.sum) :
    (readFields ws b).isSome = true := by
  induction ws generalizing b with
  | nil => cases b <;> simp_all [readFields]
  | cons w ws ih =>
    simp only [List.sum_cons] at h
    simp only [readFields, show ¬ b.length < w by omega, if_false, Option.isSome_map]
    exact ih (by simp; omega)

theorem fixedForm_read {ws : List Nat} {owner : List Nat → Owner} {b : List Byte} {vs : List Nat}
    (h : readFields ws b = some vs) : fixedForm ws owner b = owner vs := by
  unfold fixedForm; rw [h]

theorem fixedForm_length {ws : List Nat} {owner : List Nat → Owner} {b : List Byte}
    (h : b.length ≠ ws.sum) : fixedForm ws owner b = refuse (.refused .badLength) := by
  unfold fixedForm; rw [readFields_none h]

theorem countedForm_short {offset width most : Nat} {ws : Nat → List Nat} {owner : List Nat → Owner}
    {b : List Byte} (h : b.length < offset + width) :
    countedForm offset width most ws owner b = refuse (.refused .badLength) := by
  unfold countedForm; rw [if_pos h]

theorem countedForm_count {offset width most : Nat} {ws : Nat → List Nat} {owner : List Nat → Owner}
    {b : List Byte} (h : offset + width ≤ b.length)
    (hn : beNat ((b.drop offset).take width) < 1 ∨ most < beNat ((b.drop offset).take width)) :
    countedForm offset width most ws owner b = refuse (.refused .badValue) := by
  unfold countedForm; rw [if_neg (by omega)]; simp only [if_pos hn]

theorem countedForm_fixed {offset width most : Nat} {ws : Nat → List Nat} {owner : List Nat → Owner}
    {b : List Byte} (h : offset + width ≤ b.length)
    (h1 : 1 ≤ beNat ((b.drop offset).take width))
    (h2 : beNat ((b.drop offset).take width) ≤ most) :
    countedForm offset width most ws owner b
      = fixedForm (ws (beNat ((b.drop offset).take width))) owner b := by
  unfold countedForm; rw [if_neg (by omega)]
  have hn : ¬ (beNat ((b.drop offset).take width) < 1
      ∨ most < beNat ((b.drop offset).take width)) := by omega
  simp only [if_neg hn]

/-- A request of fixed length whose body fits its fields. -/
theorem fixed_answered {kind : Byte} {ws : List Nat} {owner : List Nat → Owner} {f : Frame}
    {s : State} {vs : List Nat} (h : validFrame s kind f = true) (hr : readFields ws f.body = some vs) :
    takeRequest kind (fixedForm ws owner) f s
      = answered kind f (owner vs (frameTaken s)).2 (owner vs (frameTaken s)).1 := by
  rw [takeRequest_valid h, fixedForm_read hr]

/-- The reply changes nothing but the reply. -/
theorem sendReply_eq (kind tag : Byte) (a : Answer) (s : State) :
    sendReply kind tag a s
      = { s with port.reply := some (replyTo s.port.station tag kind a) } := rfl

end Sys2Proof.Machine
end

