-- ==== Sys2Proof/Laws/Arms.lean ====
section
/-! SUPPORT. What the shared operations on arms, plan entries and injectors can do: one lemma for each,
cited in place of the operation's text. -/

namespace Sys2Proof.Machine

/-! ### Every arm, every injector -/

/-- A fold over the arms acts on one view as its own turn does, when the other turns leave the view as
it is. -/
theorem forArms_view {α : Type} (view : State → α) (f : ArmId → State → State) (n : ArmId)
    (hk : ∀ k s, k ≠ n → view (f k s) = view s) (s : State) :
    ∃ t, view t = view s ∧ view (forArms f s) = view (f n t) := by
  simp only [forArms, armIds, List.foldl_cons, List.foldl_nil]
  match n with
  | 0 =>
    exact ⟨s, rfl, by rw [hk 3 _ (by decide), hk 2 _ (by decide), hk 1 _ (by decide)]⟩
  | 1 =>
    exact ⟨f 0 s, hk 0 _ (by decide), by rw [hk 3 _ (by decide), hk 2 _ (by decide)]⟩
  | 2 =>
    exact ⟨f 1 (f 0 s), by rw [hk 1 _ (by decide), hk 0 _ (by decide)],
      by rw [hk 3 _ (by decide)]⟩
  | 3 =>
    exact ⟨f 2 (f 1 (f 0 s)),
      by rw [hk 2 _ (by decide), hk 1 _ (by decide), hk 0 _ (by decide)], rfl⟩

/-- What each turn keeps, the fold keeps. -/
theorem forArms_keeps {α : Type} (view : State → α) (f : ArmId → State → State)
    (hk : ∀ k s, view (f k s) = view s) (s : State) : view (forArms f s) = view s := by
  simp only [forArms, armIds, List.foldl_cons, List.foldl_nil, hk]

/-- What each turn keeps true, the fold keeps true. -/
theorem forArms_invariant (P : State → Prop) (f : ArmId → State → State)
    (hk : ∀ k s, P s → P (f k s)) {s : State} (h : P s) : P (forArms f s) := by
  simp only [forArms, armIds, List.foldl_cons, List.foldl_nil]
  exact hk _ _ (hk _ _ (hk _ _ (hk _ _ h)))

theorem forInjectors_keeps {α : Type} (view : State → α) (f : InjId → State → State)
    (hk : ∀ k s, view (f k s) = view s) (s : State) : view (forInjectors f s) = view s := by
  simp only [forInjectors, injIds, List.foldl_cons, List.foldl_nil, hk]

theorem forInjectors_invariant (P : State → Prop) (f : InjId → State → State)
    (hk : ∀ k s, P s → P (f k s)) {s : State} (h : P s) : P (forInjectors f s) := by
  simp only [forInjectors, injIds, List.foldl_cons, List.foldl_nil]
  exact hk _ _ (hk _ _ (hk _ _ (hk _ _ (hk _ _ (hk _ _ h)))))

/-! ### The arbiter (R145, R146) -/

/-- What an offer of work leaves as it is: of an arm, all but the owed counts of its components; of an
injector, its configuration, bad count and creep count; of the rest, everything. -/
structure OfferFrame (s t : State) : Prop where
  rest : t = { s with arms := t.arms, injectors := t.injectors }
  arm : ∀ n, t.arm n = { s.arm n with components := (t.arm n).components }
  components : ∀ n, (t.arm n).components.map (fun x => { x with owed := 0 })
    = (s.arm n).components.map (fun x => { x with owed := 0 })
  owed : ∀ n, ∀ x ∈ (t.arm n).components, ∃ y ∈ (s.arm n).components,
    x.injector = y.injector ∧ x.owed ≤ y.owed
  injector : ∀ i, (t.injector i).config = (s.injector i).config
    ∧ (t.injector i).badCount = (s.injector i).badCount
    ∧ (t.injector i).creep = (s.injector i).creep
  state : ∀ i, (t.injector i).state = (s.injector i).state
    ∨ ((s.injector i).state = .idle
        ∧ ∃ r : Shot, (t.injector i).state = .shot r ∧ r.phase = .opened ∧ r.pulses = 0)

theorem OfferFrame.refl (s : State) : OfferFrame s s :=
  ⟨rfl, fun _ => rfl, fun _ => rfl, fun _ x hx => ⟨x, hx, rfl, le_rfl⟩, fun _ => ⟨rfl, rfl, rfl⟩,
    fun _ => .inl rfl⟩

theorem OfferFrame.trans {s t u : State} (a : OfferFrame s t) (b : OfferFrame t u) :
    OfferFrame s u := by
  refine ⟨?_, fun n => ?_, fun n => (b.components n).trans (a.components n), fun n x hx => ?_,
    fun i => ?_, fun i => ?_⟩
  · have h := b.rest; rw [a.rest] at h; exact h
  · have h := b.arm n; rw [a.arm n] at h; exact h
  · obtain ⟨y, hy, h1, h2⟩ := b.owed n x hx
    obtain ⟨z, hz, h3, h4⟩ := a.owed n y hy
    exact ⟨z, hz, h1.trans h3, h2.trans h4⟩
  · have h1 := a.injector i
    have h2 := b.injector i
    exact ⟨h2.1.trans h1.1, h2.2.1.trans h1.2.1, h2.2.2.trans h1.2.2⟩
  · rcases b.state i with h | ⟨h, r⟩
    · rw [h]; exact a.state i
    · rcases a.state i with h' | ⟨h', r', h'', _⟩
      · exact .inr ⟨h'.symm.trans h, r⟩
      · rw [h''] at h; cases h

/-- The shot that starts (R146). -/
theorem startShot_frame (i : InjId) (c : InjectorConfig) (n : ArmId) (s : State)
    (hi : (s.injector i).state = .idle) : OfferFrame s (startShot i c n s) := by
  refine ⟨rfl, fun k => ?_, fun k => ?_, fun k => ?_, fun k => ?_, fun k => ?_⟩
  · simp only [startShot, setInjector_arm, arm_updArm]; split
    · next h => subst h; rfl
    · rfl
  · simp only [startShot, setInjector_arm, arm_updArm]; split
    · next h =>
      subst h
      simp only [Arm.updComponents, List.map_map]
      refine List.map_congr_left fun x _ => ?_
      simp only [Function.comp]; split <;> rfl
    · rfl
  · simp only [startShot, setInjector_arm, arm_updArm]; split
    · next h =>
      subst h
      intro x hx
      simp only [Arm.updComponents, List.mem_map] at hx
      obtain ⟨y, hy, rfl⟩ := hx
      refine ⟨y, hy, ?_⟩
      split
      · exact ⟨rfl, Nat.sub_le ..⟩
      · exact ⟨rfl, le_rfl⟩
    · exact fun x hx => ⟨x, hx, rfl, le_rfl⟩
  · by_cases h : k = i
    · subst h; simp [startShot]
    · simp [startShot, injector_setInjector_of_ne _ _ h]
  · by_cases h : k = i
    · subst h
      have e : ((startShot k c n s).injector k).state = .shot
          { arm := n, phase := .opened, target := targetPulses c, pulses := 0,
            timer := .start c.shotTimeLimit } := by
        simp only [startShot, injector_setInjector_same]
      exact .inr ⟨hi, _, e, rfl, rfl⟩
    · exact .inl (by simp [startShot, injector_setInjector_of_ne _ _ h])

/-- All that an offer of work can do (R145, R146). -/
theorem offer_frame (i : InjId) (s : State) : OfferFrame s (offer i s) := by
  unfold offer
  split
  · next c _ h =>
    split
    · exact startShot_frame _ _ _ _ h
    · exact .refl s
  · exact .refl s

/-- All that an offer of work to every injector can do. -/
theorem offerAll_frame (s : State) : OfferFrame s (offerAll s) :=
  forInjectors_invariant (fun t => OfferFrame s t) offer
    (fun i t h => h.trans (offer_frame i t)) (.refl s)

/-! ### Entry to HELD and to CLOSING, and the return to IDLE (R115, R120, R121) -/

/-- All that a hold can do: an arm in a flowing state enters HELD and BATCH HELD is posted, and any
other arm is left as it is (R115). -/
theorem enterHeld_cases (k : HoldCause) (n : ArmId) (s : State) :
    ((s.arm n).flowing = true ∧ enterHeld k n s
        = post .batchHeld (armNumber n) k.code (s.arm n).figures.gross
            (s.updArm n (Arm.holdFor k)))
      ∨ ((s.arm n).flowing = false ∧ enterHeld k n s = s) := by
  unfold enterHeld
  cases h : (s.arm n).flowing
  · exact .inr ⟨rfl, rfl⟩
  · exact .inl ⟨rfl, rfl⟩

/-- An entry to CLOSING but for what a new shot takes up: the arm's own change (R120, R155). -/
def Arm.closedFor (s : State) (o : BatchOutcome) (a : Arm) : Arm :=
  if a.inRun then a.closeFor o
  else
    { a.closeFor o with
      components :=
        if o = .complete ∨ o = .allocation then
          a.components.map fun c => c.trail (s.earnsNone c.injector)
        else a.components.map Component.discard
      trailingTimer := .start 30000 }

/-- All that an entry to CLOSING can do (R120, R155). -/
theorem enterClosing_frame (o : BatchOutcome) (n : ArmId) (s : State) :
    OfferFrame (s.updArm n (Arm.closedFor s o)) (enterClosing o n s)
      ∧ (o ≠ .complete → o ≠ .allocation → enterClosing o n s = s.updArm n (Arm.closedFor s o)) := by
  have hrun : ((s.updArm n (Arm.closeFor o)).arm n).inRun = (s.arm n).inRun := by
    simp only [arm_updArm_same]; rfl
  unfold enterClosing additivesClosing
  cases h : (s.arm n).inRun
  · have e : Arm.closedFor s o (s.arm n) =
        { (s.arm n).closeFor o with
          components :=
            if o = .complete ∨ o = .allocation then
              (s.arm n).components.map fun c => c.trail (s.earnsNone c.injector)
            else (s.arm n).components.map Component.discard
          trailingTimer := .start 30000 } := by
      simp only [Arm.closedFor, h]; rfl
    rw [if_neg (by rw [hrun, h]; decide)]
    have hs : ∀ i, (s.updArm n (Arm.closeFor o)).earnsNone i = s.earnsNone i := fun _ => rfl
    have hu : ∀ f : Arm → Arm, (s.updArm n (Arm.closeFor o)).updArm n f
        = s.setArm n (f ((s.arm n).closeFor o)) := by
      intro f; simp [State.updArm, State.setArm, State.arm]
    have hv : s.updArm n (Arm.closedFor s o) = s.setArm n (Arm.closedFor s o (s.arm n)) := rfl
    rw [hv, e]
    cases o
    case complete | allocation =>
      simp only [hu, hs]
      exact ⟨offerAll_frame _, fun h1 h2 => absurd rfl (by first | exact h1 | exact h2)⟩
    all_goals
      simp only [hu]
      exact ⟨.refl _, fun _ _ => rfl⟩
  · have e : Arm.closedFor s o (s.arm n) = (s.arm n).closeFor o := by
      simp only [Arm.closedFor, h]; rfl
    have hv : s.updArm n (Arm.closedFor s o) = s.updArm n (Arm.closeFor o) := by
      simp only [State.updArm, e]
    rw [if_pos (by rw [hrun, h]), hv]
    exact ⟨.refl _, fun _ _ => rfl⟩

/-! ### The plan and the load (R45, R55, R68) -/

/-- A class of an account changes, and nothing else. -/
theorem releaseEntry_frame (e : PlanEntry) (s : State) :
    releaseEntry e s = { s with accounts := (releaseEntry e s).accounts } := by
  unfold releaseEntry; split <;> rfl

/-- A cancellation changes the accounts, the plan and the arm (R45, R55, R103). -/
theorem cancelArmed_frame (n : ArmId) (s : State) :
    cancelArmed n s = { s with
        accounts := (cancelArmed n s).accounts, load.record := (cancelArmed n s).load.record
        arms := (cancelArmed n s).arms }
      ∧ ∀ k, k ≠ n → (cancelArmed n s).arm k = s.arm k := by
  unfold cancelArmed
  split
  · split
    · refine ⟨?_, fun k h => ?_⟩
      · rw [releaseEntry_frame]; rfl
      · rw [arm_updArm_of_ne _ _ h, updRecord_arm, releaseEntry_frame]; rfl
    · exact ⟨rfl, fun _ _ => rfl⟩
  · exact ⟨rfl, fun _ _ => rfl⟩

/-- The plan after a cancellation: the entries of other arms stay in their order (R55). -/
theorem cancelArmed_plan (n : ArmId) (s : State) :
    (cancelArmed n s).plan = s.plan ∨ (cancelArmed n s).plan = s.plan.filter (·.arm ≠ n) := by
  unfold cancelArmed
  split
  · split
    · refine .inr ?_
      rw [releaseEntry_frame]
      simp only [State.plan, updArm_load, State.updRecord]
      cases s.load.record <;> rfl
    · exact .inl rfl
  · exact .inl rfl

/-- An entry of another arm is found as before. -/
theorem find?_filter_arm (l : List PlanEntry) {n k : ArmId} (h : k ≠ n) :
    (l.filter (·.arm ≠ n)).find? (·.arm == k) = l.find? (·.arm == k) := by
  rw [List.find?_filter]
  congr 1
  funext a
  by_cases ha : a.arm = k
  · simp [ha, h]
  · simp [ha]

theorem cancelArmed_entryOf {n k : ArmId} (s : State) (h : k ≠ n) :
    (cancelArmed n s).entryOf k = s.entryOf k := by
  unfold State.entryOf
  rcases cancelArmed_plan n s with e | e <;> rw [e]
  exact find?_filter_arm _ h

/-- An entry is found by its arm when no arm has two. -/
theorem entryOf_mem {s : State} (h : (s.plan.map (·.arm)).Nodup) {e : PlanEntry} (he : e ∈ s.plan) :
    s.entryOf e.arm = some e := by
  unfold State.entryOf
  generalize s.plan = l at *
  induction l with
  | nil => simp at he
  | cons a l ih =>
    simp only [List.map_cons, List.nodup_cons, List.mem_map, not_exists, not_and] at h
    rw [List.find?_cons]
    rcases List.mem_cons.mp he with rfl | he'
    · simp
    · have hne : (a.arm == e.arm) = false := by
        simp only [beq_eq_false_iff_ne]
        exact fun hq => h.1 e he' hq.symm
      simp only [hne]
      exact ih h.2 he'

/-- STOP changes one arm (R65, R116). -/
theorem stopArmNow_cases (n : ArmId) (s : State) :
    stopArmNow n s = s.updArm n (Arm.closedFor s .stopped) ∨ stopArmNow n s = s := by
  unfold stopArmNow
  split
  · exact .inl ((enterClosing_frame .stopped n s).2 (by decide) (by decide))
  · exact .inr rfl

/-! ### Resuming an arm (R90, R92, R118) -/

theorem Arm.align_single {c : ArmConfig} (h : c.singleChannel = true) (a : Arm) :
    a.align c = { a with channel.integrityArmed := true } := by
  simp [Arm.align, h]

theorem Arm.align_pair {c : ArmConfig} (h : c.singleChannel = false) (a : Arm) :
    a.align c = { a with
      figures.bTotal := a.figures.aTotal, channel.integrityArmed := true } := by
  simp [Arm.align, h]

@[simp] theorem Arm.align_control (c : ArmConfig) (a : Arm) : (a.align c).control = a.control := rfl
@[simp] theorem Arm.align_config (c : ArmConfig) (a : Arm) : (a.align c).config = a.config := rfl
@[simp] theorem Arm.align_components (c : ArmConfig) (a : Arm) :
    (a.align c).components = a.components := rfl
@[simp] theorem Arm.align_totals (c : ArmConfig) (a : Arm) : (a.align c).totals = a.totals := rfl
@[simp] theorem Arm.align_run (c : ArmConfig) (a : Arm) : (a.align c).run = a.run := rfl
@[simp] theorem Arm.align_gross (c : ArmConfig) (a : Arm) :
    (a.align c).figures.gross = a.figures.gross := rfl

@[simp] theorem Arm.resumed_figures (c : ArmConfig) (a : Arm) :
    (a.resumed c).figures = a.figures := rfl
@[simp] theorem Arm.resumed_config (c : ArmConfig) (a : Arm) :
    (a.resumed c).config = a.config := rfl
@[simp] theorem Arm.resumed_components (c : ArmConfig) (a : Arm) :
    (a.resumed c).components = a.components := rfl
@[simp] theorem Arm.resumed_totals (c : ArmConfig) (a : Arm) :
    (a.resumed c).totals = a.totals := rfl

/-! ### Reserved litres (R38) -/

@[simp] theorem State.reservedBy_nil (s : State) (c : ClassId) : s.reservedBy [] c = 0 := rfl

theorem State.reservedBy_append (s : State) (l m : List PlanEntry) (c : ClassId) :
    s.reservedBy (l ++ m) c = s.reservedBy l c + s.reservedBy m c := by
  simp [State.reservedBy]

theorem State.reservedBy_cons (s : State) (e : PlanEntry) (l : List PlanEntry) (c : ClassId) :
    s.reservedBy (e :: l) c
      = (if s.recipeClass e.recipe = some c then e.reservation else 0) + s.reservedBy l c := by
  by_cases h : s.recipeClass e.recipe = some c <;> simp [State.reservedBy, h]

/-- What entries with a property and those without it reserve is what all of them reserve. -/
theorem State.reservedBy_filter (s : State) (p : PlanEntry → Bool) (l : List PlanEntry)
    (c : ClassId) :
    s.reservedBy (l.filter p) c + s.reservedBy (l.filter fun e => !p e) c = s.reservedBy l c := by
  induction l with
  | nil => rfl
  | cons e l ih =>
    cases h : p e <;>
      simp only [List.filter_cons, h, Bool.not_false, Bool.not_true, if_true, Bool.false_eq_true,
        if_false, State.reservedBy_cons] <;> omega

/-! ### Work stops (R184) -/

@[simp] theorem stopWork_arm (supply : Supply) (s : State) (n : ArmId) :
    (stopWork supply s).arm n = (s.arm n).shut := by
  fin_cases n <;> rfl

end Sys2Proof.Machine
end

