-- ==== Sys2Proof/Laws/Queries.lean ====
section
/-! SUPPORT. What numbers, fields and lookups give, and that the arrival of a valid frame leaves every
lookup and every check as it is. -/

namespace Sys2Proof.Machine

/-! ### Numbers of arms, injectors and products -/

@[simp] theorem armOf_val (n : ArmId) : armOf (n.val + 1) = some n := by simp [armOf]

@[simp] theorem injectorOf_val (i : InjId) : injectorOf (i.val + 1) = some i := by
  simp [injectorOf]

@[simp] theorem productIndexOf_val (i : Fin 8) : productIndexOf (i.val + 1) = some i := by
  simp [productIndexOf]

theorem armOf_none {v : Nat} (h : v = 0 ∨ 4 < v) : armOf v = none := by simp [armOf]; omega

theorem injectorOf_none {v : Nat} (h : v = 0 ∨ 6 < v) : injectorOf v = none := by
  simp [injectorOf]; omega

theorem productIndexOf_none {v : Nat} (h : v = 0 ∨ 8 < v) : productIndexOf v = none := by
  simp [productIndexOf]; omega

/-! ### Fields -/

theorem fit_of_lt {w v : Nat} (h : v < 2 ^ w) : fit w v = v := by simp [fit, h]

theorem fitSigned_of_mem {w : Nat} {v : Int} (h : -(2 ^ (w - 1)) ≤ v) (k : v < 2 ^ (w - 1)) :
    fitSigned w v = v := by simp [fitSigned, h, k]

@[simp] theorem be_length (n v : Nat) : (be n v).length = n := by
  induction n generalizing v with
  | zero => rfl
  | succ n ih => simp [be, ih]

@[simp] theorem field_length (n v : Nat) : (field n v).length = n := be_length ..

@[simp] theorem flagField_length (b : Bool) : (flagField b).length = 1 := be_length ..

@[simp] theorem beSigned_length (n : Nat) (v : Int) : (beSigned n v).length = n := be_length ..

theorem find?_isSome_eq_any {α : Type} (l : List α) (p : α → Bool) :
    (l.find? p).isSome = l.any p := by
  induction l with
  | nil => rfl
  | cons a l ih => simp [List.find?, List.any_cons]; cases h : p a <;> simp_all

/-- A filter bit written (R22). -/
theorem writeFilterBit_getLsbD (i j : Nat) (v : Bool) (filter : BitVec 256) (hi : i < 256) :
    (writeFilterBit i v filter).getLsbD j = if j = i then v else filter.getLsbD j := by
  unfold writeFilterBit
  cases v <;> simp [BitVec.getLsbD_or, BitVec.getLsbD_and]
  · by_cases hj : j < 256
    · by_cases h : j = i
      · subst h; simp [hj]
      · simp [h, hj]; intro _; by_cases hlt : j < i
        · simp [hlt]
        · simp [hlt, show j - i ≠ 0 by omega]
    · have : filter.getLsbD j = false := by apply BitVec.getLsbD_of_ge; omega
      simp [this, hj]
  · by_cases h : j = i
    · subst h; simp [hi]
    · simp [h]; intro h1 h2 h3; omega

/-! ### Entries written keep their numbers -/

theorem driverOf_fields {card suspended valid account classes bound limit : Nat} {d : Driver}
    (h : driverOf card suspended valid account classes bound limit = some d) :
    d.card = card ∧ d.dailyLimit = limit := by
  unfold driverOf at h
  split at h
  · cases h
  · split at h
    · cases h
    · cases h; exact ⟨rfl, rfl⟩

theorem vehicleOf_number {number valid : Nat} {cs : List (Nat × Nat)} {v : Vehicle}
    (h : vehicleOf number valid cs = some v) : v.number = number := by
  unfold vehicleOf at h
  split at h
  · cases h
  · cases h; rfl

theorem productOf_code {code cls base alpha beta low high subst basis : Nat} {p : Product}
    (h : productOf code cls base alpha beta low high subst basis = some p) : p.code = code := by
  unfold productOf at h
  split at h
  · dsimp only at h
    split at h
    · cases h
    · cases h; rfl
  · cases h

/-! ### A valid frame leaves lookups and checks as they are (R12) -/

@[simp] theorem frameTaken_driver (s : State) (c : Nat) : (frameTaken s).driver c = s.driver c := by
  simp [State.driver]

@[simp] theorem frameTaken_vehicle (s : State) (c : Nat) :
    (frameTaken s).vehicle c = s.vehicle c := by simp [State.vehicle]

@[simp] theorem frameTaken_account (s : State) (c : Nat) :
    (frameTaken s).account c = s.account c := by simp [State.account]

@[simp] theorem frameTaken_recipe (s : State) (c : Nat) : (frameTaken s).recipe c = s.recipe c := by
  simp [State.recipe]

@[simp] theorem frameTaken_recipeProduct (s : State) (c : Nat) :
    (frameTaken s).recipeProduct c = s.recipeProduct c := by simp [State.recipeProduct]

@[simp] theorem frameTaken_plan (s : State) : (frameTaken s).plan = s.plan := by simp [State.plan]

@[simp] theorem frameTaken_entryOf (s : State) (n : ArmId) :
    (frameTaken s).entryOf n = s.entryOf n := by simp [State.entryOf]

@[simp] theorem frameTaken_day (s : State) : (frameTaken s).day = s.day := by simp [State.day]

@[simp] theorem frameTaken_meterRun (s : State) : (frameTaken s).meterRun = s.meterRun := by
  simp [State.meterRun]

@[simp] theorem frameTaken_currentCard (s : State) :
    (frameTaken s).currentCard = s.currentCard := by simp [State.currentCard]

@[simp] theorem frameTaken_vehicleInUse (s : State) (c : Nat) :
    (frameTaken s).vehicleInUse c = s.vehicleInUse c := by simp [State.vehicleInUse]

@[simp] theorem frameTaken_accountInUse (s : State) (c : Nat) :
    (frameTaken s).accountInUse c = s.accountInUse c := by simp [State.accountInUse]

@[simp] theorem frameTaken_productInUse (s : State) (i : Fin 8) :
    (frameTaken s).productInUse i = s.productInUse i := by simp [State.productInUse]

@[simp] theorem frameTaken_codeElsewhere (s : State) (i : Fin 8) (c : Nat) :
    (frameTaken s).codeElsewhere i c = s.codeElsewhere i c := by simp [State.codeElsewhere]

@[simp] theorem frameTaken_earnsNone (s : State) (i : InjId) :
    (frameTaken s).earnsNone i = s.earnsNone i := by simp [State.earnsNone]

@[simp] theorem frameTaken_plumbed (s : State) (r : Recipe) (n : ArmId) :
    (frameTaken s).plumbed r n = s.plumbed r n := by simp [State.plumbed]

@[simp] theorem frameTaken_compartmentFree (s : State) (n : ArmId) (c : Nat) :
    (frameTaken s).compartmentFree n c = s.compartmentFree n c := by simp [State.compartmentFree]

@[simp] theorem frameTaken_mandatoryInjectors (s : State) (c : Nat) :
    (frameTaken s).mandatoryInjectors c = s.mandatoryInjectors c := by
  simp [State.mandatoryInjectors]

@[simp] theorem frameTaken_injectorsReady (s : State) (c : Nat) :
    (frameTaken s).injectorsReady c = s.injectorsReady c := by simp [State.injectorsReady]

@[simp] theorem frameTaken_newComponents (s : State) (c : Nat) :
    newComponents (frameTaken s) c = newComponents s c := by
  have : newComponent (frameTaken s) = newComponent s := by funext x; simp [newComponent]
  simp [newComponents, this]

@[simp] theorem frameTaken_admissionRefusal (s : State) :
    admissionRefusal (frameTaken s) = admissionRefusal s := by
  simp [admissionRefusal, State.configured, State.storeTakes]

@[simp] theorem frameTaken_localCheck (s : State) (c : Nat) :
    localCheck (frameTaken s) c = localCheck s c := by simp [localCheck]

@[simp] theorem frameTaken_namingRefusal (s : State) (p : Permit) (n : Nat) :
    namingRefusal (frameTaken s) p n = namingRefusal s p n := by simp [namingRefusal]

@[simp] theorem frameTaken_planGrant (s : State) (r : OpenLoad) (n : ArmId) (a b c : Nat) :
    planGrant (frameTaken s) r n a b c = planGrant s r n a b c := by
  simp [planGrant, planChecks]

@[simp] theorem frameTaken_startRefusal (s : State) (n : ArmId) (b : Binding) :
    startRefusal (frameTaken s) n b = startRefusal s n b := by simp [startRefusal]

@[simp] theorem frameTaken_holdCleared (s : State) (n : ArmId) :
    holdCleared (frameTaken s) n = holdCleared s n := by simp [holdCleared]

@[simp] theorem frameTaken_resumeRefusal (s : State) (n : ArmId) :
    resumeRefusal (frameTaken s) n = resumeRefusal s n := by simp [resumeRefusal]

/-- An entry to another load state (R50, R73). -/
theorem enterLoad_of_ne {s : State} {l : LoadState} (h : s.load.state ≠ l) :
    enterLoad l s = { s with load.state := l, console := s.console.show l s.loadNote } := by
  unfold enterLoad; rw [if_neg h]

/-- An entry to the load state that stands changes nothing. -/
theorem enterLoad_of_eq {s : State} {l : LoadState} (h : s.load.state = l) : enterLoad l s = s := by
  unfold enterLoad; rw [if_pos h]

theorem tick_arm {s : State} (h : s.running = true) (n : ArmId) : s.tick.arm n = (s.arm n).tick := by
  simp [State.tick, h, State.arm]

end Sys2Proof.Machine
end

