-- ==== Sys2Proof/Laws/Effects.lean ====
section
/-! SUPPORT. The operations of more than one block that the commands share, each by what it can change:
all that an equation does not name, the operation leaves as it is. -/

namespace Sys2Proof.Machine

/-! ### Posting, the load state, the display -/

theorem post_rest (k : EventKind) (a c v : Nat) (s : State) :
    post k a c v s = { s with
      port.events := (post k a c v s).port.events
      port.overflow := (post k a c v s).port.overflow } := by
  unfold post; split <;> rfl

/-- Posting loses no record that waits (R7). -/
theorem post_events_prefix (k : EventKind) (a c v : Nat) (s : State) :
    s.port.events <+: (post k a c v s).port.events := by
  unfold post; split
  · exact List.prefix_append ..
  · exact List.prefix_rfl

theorem enterLoad_rest (l : LoadState) (s : State) :
    enterLoad l s = { s with load.state := l, console := (enterLoad l s).console } := by
  unfold enterLoad; split
  · next h => subst h; rfl
  · rfl

theorem enterIdentifying_rest (l : LoadState) (s : State) :
    enterIdentifying l s = { s with
      load.state := l, load.identTimer := .start (s.load.identTimeout * 1000)
      console := (enterIdentifying l s).console } := by
  unfold enterIdentifying; exact enterLoad_rest ..

theorem leaveIdentifying_rest (s : State) :
    leaveIdentifying s = { s with
      load.state := .noLoad, load.identTimer := .stopped
      console := (leaveIdentifying s).console } := by
  unfold leaveIdentifying; exact enterLoad_rest ..

/-- A denial ends in NO_LOAD with no permit held (R27). -/
theorem denyIdentification_rest (r : DenyReason) (card : Nat) (s : State) :
    denyIdentification r card s = { s with
      port.events := (denyIdentification r card s).port.events
      port.overflow := (denyIdentification r card s).port.overflow
      console := (denyIdentification r card s).console
      permit.held := none, load.state := .noLoad, load.identTimer := .stopped } := by
  simp only [denyIdentification]
  rw [leaveIdentifying_rest, post_rest]; rfl

/-- A held permit is a load in VEHICLE_WAIT (R26, R29). -/
theorem holdPermit_rest (p : Permit) (s : State) :
    holdPermit p s = { s with
      console := (holdPermit p s).console, permit.held := some p, load.state := .vehicleWait
      load.identTimer := .start (s.load.identTimeout * 1000) } := by
  unfold holdPermit; rw [enterIdentifying_rest]

/-- A referral that opens (R28). -/
theorem openReferral_rest (card : Nat) (r : ReferralReason) (s : State) :
    openReferral card r s = { s with
      port.events := (openReferral card r s).port.events
      port.overflow := (openReferral card r s).port.overflow
      console := (openReferral card r s).console
      permit.referral := .pending card r
      permit.referralTimer := .start (s.permit.referralTimeout * 1000)
      load.state := .referred, load.identTimer := .start (s.load.identTimeout * 1000) } := by
  simp only [openReferral]
  rw [post_rest, enterIdentifying_rest]

/-- A load that opens takes the next note number and an empty plan (R35, R54). -/
theorem openLoad_rest (p : Permit) (vehicle : Nat) (s : State) :
    openLoad p vehicle s = { s with
      port.events := (openLoad p vehicle s).port.events
      port.overflow := (openLoad p vehicle s).port.overflow
      console := (openLoad p vehicle s).console
      permit.held := none
      permit.drivers := s.permit.drivers.map fun d =>
        if d.card = p.card then { d with loadsToday := countedLoads d } else d
      load.state := .opened
      load.record := some (newLoad p vehicle s.store.next s.port.clock)
      load.identTimer := .stopped
      load.idleTimer := .start (s.load.idleTimeout * 60000)
      store.next := nextNoteAfter s.store.next } := by
  simp only [openLoad]
  rw [post_rest, enterLoad_rest]; rfl

/-- Naming a vehicle opens the load or denies it, and says which (R34). -/
theorem nameFor_cases (p : Permit) (number : Nat) (s : State) :
    (namingRefusal s p number = none ∧ nameFor p number s = (openLoad p number s, none))
      ∨ ∃ r, namingRefusal s p number = some r
          ∧ nameFor p number s = (denyIdentification r p.card s, some r) := by
  unfold nameFor
  cases h : namingRefusal s p number with
  | none => exact .inl ⟨rfl, rfl⟩
  | some r => exact .inr ⟨r, rfl, rfl⟩

/-! ### The end of a load -/

/-- The note joins the store behind the others, and the load is over (R68, R172). -/
theorem storeNote_rest (r : OpenLoad) (cause : EndCause) (s : State) :
    storeNote r cause s = { s with
      console := (storeNote r cause s).console
      store.notes := s.store.notes ++ [noteOf r cause s.port.clock]
      load.state := .noLoad, load.record := none, load.idleTimer := .stopped } := by
  simp only [storeNote]
  rw [enterLoad_rest]; rfl

/-- Sealing stores the note of a load that has its end cause and posts LOAD SEALED; without a cause
nothing is sealed (R68). -/
theorem sealLoad_cases (s : State) :
    (∃ r cause, s.load.record = some r ∧ r.endCause = some cause
        ∧ sealLoad s = post .loadSealed 0 cause.code r.note (storeNote r cause s))
      ∨ ((∀ r, s.load.record = some r → r.endCause = none) ∧ sealLoad s = s) := by
  unfold sealLoad
  cases h : s.load.record with
  | none => exact .inr ⟨nofun, rfl⟩
  | some r =>
    cases e : r.endCause with
    | none => exact .inr ⟨fun _ h' => by cases h'; exact e, by simp [e]⟩
    | some cause => exact .inl ⟨r, cause, rfl, e, by simp [e]⟩

theorem sealLoad_rest (s : State) :
    sealLoad s = { s with
      port.events := (sealLoad s).port.events, port.overflow := (sealLoad s).port.overflow
      console := (sealLoad s).console, store.notes := (sealLoad s).store.notes
      load.state := (sealLoad s).load.state, load.record := (sealLoad s).load.record
      load.idleTimer := (sealLoad s).load.idleTimer } := by
  obtain ⟨r, cause, -, -, h⟩ | ⟨-, h⟩ := sealLoad_cases s
  · rw [h, post_rest, storeNote_rest]
  · rw [h]

/-- An emptied plan of an OPEN load starts the idle timer (R61, R62, R67). -/
theorem planMayHaveEmptied_cases (s : State) :
    ((s.load.state = .opened ∧ s.plan = []) ∧ planMayHaveEmptied s = startIdleTimer s)
      ∨ (¬(s.load.state = .opened ∧ s.plan = []) ∧ planMayHaveEmptied s = s) := by
  unfold planMayHaveEmptied State.planEmpty
  by_cases h : s.load.state = .opened ∧ s.plan = []
  · exact .inl ⟨h, by simp [h.1, h.2]⟩
  · exact .inr ⟨h, by rw [if_neg (by simpa using h)]⟩

theorem reserve_rest (a : Nat) (c : ClassId) (l : Nat) (s : State) :
    reserve a c l s = { s with accounts := (reserve a c l s).accounts } := rfl

theorem release_rest (a : Nat) (c : ClassId) (l : Nat) (s : State) :
    release a c l s = { s with accounts := (release a c l s).accounts } := rfl

theorem charge_rest (a : Nat) (c : ClassId) (r u : Nat) (s : State) :
    charge a c r u s = { s with accounts := (charge a c r u s).accounts } := rfl

/-- A line changes the account, the open load record and the standard totalizer of its arm (R46, R61,
R97). -/
theorem makeLine_rest (o : BatchOutcome) (n : ArmId) (s : State) :
    makeLine o n s = { s with
        accounts := (makeLine o n s).accounts, load.record := (makeLine o n s).load.record
        arms := (makeLine o n s).arms }
      ∧ (∀ k, k ≠ n → (makeLine o n s).arm k = s.arm k)
      ∧ (makeLine o n s).arm n = { s.arm n with
          totals.standard := ((makeLine o n s).arm n).totals.standard } := by
  unfold makeLine
  split
  · split
    · refine ⟨rfl, fun k h => ?_, ?_⟩
      · rw [arm_updArm_of_ne _ _ h]; rfl
      · simp only [arm_updArm_same]; rfl
    · exact ⟨rfl, fun _ _ => rfl, rfl⟩
  · exact ⟨rfl, fun _ _ => rfl, rfl⟩

/-! ### Holds and losses -/

/-- A hold changes the event queue and the arm (R115). -/
theorem enterHeld_rest (k : HoldCause) (n : ArmId) (s : State) :
    enterHeld k n s = { s with
        port.events := (enterHeld k n s).port.events
        port.overflow := (enterHeld k n s).port.overflow, arms := (enterHeld k n s).arms }
      ∧ ∀ m, m ≠ n → (enterHeld k n s).arm m = s.arm m := by
  obtain ⟨-, h⟩ | ⟨-, h⟩ := enterHeld_cases k n s
  · rw [h]
    refine ⟨by rw [post_rest]; rfl, fun m hm => ?_⟩
    rw [post_rest]; exact arm_updArm_of_ne _ _ hm
  · rw [h]; exact ⟨rfl, fun _ _ => rfl⟩

/-- The bay permissive follows its inputs, and a change is posted (R128). -/
theorem recomputed_rest (s : State) :
    recomputed s = { s with
      port.events := (recomputed s).port.events, port.overflow := (recomputed s).port.overflow
      monitor.permissiveOk := bayPermissiveOf s.monitor s.bay.vapourRequired } := by
  simp only [recomputed]
  split
  · next h => rw [h]
  · rw [post_rest]

theorem losePermissive_rest (n : ArmId) (s : State) :
    losePermissive n s = { s with
        port.events := (losePermissive n s).port.events
        port.overflow := (losePermissive n s).port.overflow, arms := (losePermissive n s).arms }
      ∧ ∀ m, m ≠ n → (losePermissive n s).arm m = s.arm m := by
  unfold losePermissive
  split
  · refine ⟨by rw [(enterHeld_rest ..).1]; rfl, fun m hm => ?_⟩
    rw [(enterHeld_rest ..).2 m hm, arm_updArm_of_ne _ _ hm]
  · exact ⟨rfl, fun _ _ => rfl⟩

theorem loseCoupler_rest (n : ArmId) (s : State) :
    loseCoupler n s = { s with
        port.events := (loseCoupler n s).port.events
        port.overflow := (loseCoupler n s).port.overflow, arms := (loseCoupler n s).arms }
      ∧ ∀ m, m ≠ n → (loseCoupler n s).arm m = s.arm m := by
  unfold loseCoupler
  split
  · refine ⟨by rw [(enterHeld_rest ..).1]; rfl, fun m hm => ?_⟩
    rw [(enterHeld_rest ..).2 m hm, arm_updArm_of_ne _ _ hm]
  · exact ⟨rfl, fun _ _ => rfl⟩

/-- The rack stop at an arm changes that arm alone (R119, R155). -/
theorem rackStopArm_rest (n : ArmId) (s : State) :
    rackStopArm n s = { s with arms := (rackStopArm n s).arms }
      ∧ ∀ m, m ≠ n → (rackStopArm n s).arm m = s.arm m := by
  unfold rackStopArm
  split
  · rw [(enterClosing_frame .aborted n s).2 (by decide) (by decide)]
    exact ⟨rfl, fun m hm => arm_updArm_of_ne _ _ hm⟩
  · split
    · exact ⟨rfl, fun m hm => arm_updArm_of_ne _ _ hm⟩
    · exact ⟨rfl, fun _ _ => rfl⟩

/-! ### Shots and faults -/

/-- Counting changes the component records of one arm (R144). -/
theorem countCycles_rest (d : Nat) (n : ArmId) (s : State) :
    countCycles d n s = { s with arms := (countCycles d n s).arms }
      ∧ (∀ m, m ≠ n → (countCycles d n s).arm m = s.arm m)
      ∧ (countCycles d n s).arm n = { s.arm n with
          components := (s.arm n).components.map fun c => c.count d (s.earnsNone c.injector) } :=
  ⟨rfl, fun _ h => arm_updArm_of_ne _ _ h, arm_updArm_same ..⟩

/-- A credit changes the component records of one arm (R148). -/
theorem creditShot_rest (i : InjId) (n : ArmId) (ml : Nat) (s : State) :
    creditShot i n ml s = { s with arms := (creditShot i n ml s).arms }
      ∧ ∀ m, m ≠ n → (creditShot i n ml s).arm m = s.arm m :=
  ⟨rfl, fun _ h => arm_updArm_of_ne _ _ h⟩

/-- What the additive side and the holds can change: the event queue, the arms and the injectors. -/
def AdditiveFrame (s t : State) : Prop :=
  t = { s with
    port.events := t.port.events, port.overflow := t.port.overflow
    arms := t.arms, injectors := t.injectors }

theorem AdditiveFrame.refl (s : State) : AdditiveFrame s s := rfl

theorem AdditiveFrame.trans {s t u : State} (a : AdditiveFrame s t) (b : AdditiveFrame t u) :
    AdditiveFrame s u := by
  unfold AdditiveFrame at *
  rw [a] at b; exact b

theorem AdditiveFrame.post {s t : State} (h : AdditiveFrame s t) (k : EventKind) (a c v : Nat) :
    AdditiveFrame s (Machine.post k a c v t) :=
  h.trans (by unfold AdditiveFrame; rw [post_rest])

theorem AdditiveFrame.held {s t : State} (h : AdditiveFrame s t) (k : HoldCause) (n : ArmId) :
    AdditiveFrame s (enterHeld k n t) :=
  h.trans (by unfold AdditiveFrame; rw [(enterHeld_rest k n t).1])

theorem AdditiveFrame.updArm {s t : State} (h : AdditiveFrame s t) (n : ArmId) (f : Arm → Arm) :
    AdditiveFrame s (t.updArm n f) := h.trans rfl

theorem AdditiveFrame.setInjector {s t : State} (h : AdditiveFrame s t) (i : InjId)
    (j : Injector) : AdditiveFrame s (t.setInjector i j) := h.trans rfl

theorem OfferFrame.additive {s t : State} (h : OfferFrame s t) : AdditiveFrame s t := by
  unfold AdditiveFrame; rw [h.rest]

theorem AdditiveFrame.closed {s t : State} (h : AdditiveFrame s t) (o : BatchOutcome) (n : ArmId) :
    AdditiveFrame s (enterClosing o n t) :=
  (h.updArm n _).trans (enterClosing_frame o n t).1.additive

theorem faultInjector_rest (i : InjId) (c : InjectorConfig) (n : ArmId) (ml : Nat) (s : State) :
    AdditiveFrame s (faultInjector i c n ml s) := by
  simp only [faultInjector]
  split
  · refine forArms_invariant _ _ (fun k t h => ?_)
      (AdditiveFrame.post (AdditiveFrame.setInjector (.refl s) ..) ..)
    unfold mandatoryFault; split
    · exact (h.updArm ..).held ..
    · exact h
  · refine forArms_invariant _ _ (fun k t h => ?_)
      (AdditiveFrame.post (AdditiveFrame.setInjector (.refl s) ..) ..)
    unfold optionalFault; split
    · exact h.updArm ..
    · exact h

theorem endShot_rest (i : InjId) (c : InjectorConfig) (r : Shot) (s : State) :
    AdditiveFrame s (endShot i c r s) := by
  simp only [endShot, creditShot]
  generalize (if shotGood c r.pulses = true then 0 else (s.injector i).badCount + 1) = bad
  split
  · exact (AdditiveFrame.updArm (AdditiveFrame.setInjector (.refl s) ..) ..).trans
      (faultInjector_rest ..)
  · exact (AdditiveFrame.setInjector
      (AdditiveFrame.updArm (AdditiveFrame.setInjector (.refl s) ..) ..) ..).trans
      (offer_frame ..).additive

/-- The end of a proving shot changes the event queue and the injector (R167). -/
theorem endProveShot_rest (i : InjId) (c : InjectorConfig) (p : ProvingRecord) (r : ProveShot)
    (mark : ProveEnd) (s : State) :
    endProveShot i c p r mark s = { s with
        port.events := (endProveShot i c p r mark s).port.events
        port.overflow := (endProveShot i c p r mark s).port.overflow
        injectors := (endProveShot i c p r mark s).injectors }
      ∧ (∀ k, k ≠ i → (endProveShot i c p r mark s).injector k = s.injector k)
      ∧ (endProveShot i c p r mark s).injector i = { s.injector i with
          state := .proving { p with shots := min 65535 (p.shots + 1), shot := none } } := by
  unfold endProveShot
  refine ⟨by rw [post_rest]; rfl, fun k h => ?_, ?_⟩
  · rw [post_rest]; exact injector_setInjector_of_ne _ _ h
  · rw [post_rest]; exact injector_setInjector_same ..

theorem rackStopInjector_rest (i : InjId) (s : State) :
    AdditiveFrame s (rackStopInjector i s) := by
  unfold rackStopInjector
  split
  · split
    · exact (AdditiveFrame.setInjector (AdditiveFrame.updArm (.refl s) ..) ..).trans
        (offer_frame ..).additive
    · exact .refl s
  · split
    · unfold AdditiveFrame; rw [(endProveShot_rest ..).1]
    · exact .refl s
  · exact .refl s

/-- A change of the bay permissive and its hand-over (R113, R128, R145). -/
theorem recomputePermissive_rest (s : State) :
    recomputePermissive s = { s with
      port.events := (recomputePermissive s).port.events
      port.overflow := (recomputePermissive s).port.overflow
      monitor.permissiveOk := bayPermissiveOf s.monitor s.bay.vapourRequired
      arms := (recomputePermissive s).arms, injectors := (recomputePermissive s).injectors } := by
  have hr := recomputed_rest s
  have hl : ∀ k t u, AdditiveFrame t u → AdditiveFrame t (losePermissive k u) := fun k t u h =>
    h.trans (by unfold AdditiveFrame; rw [(losePermissive_rest k u).1])
  have h : AdditiveFrame (recomputed s) (recomputePermissive s) := by
    simp only [recomputePermissive]
    split
    · exact .refl _
    · split
      · exact (offerAll_frame _).additive
      · exact forArms_invariant _ _ (fun k u hu => hl k _ u hu) (.refl _)
  unfold AdditiveFrame at h
  rw [hr] at h; exact h

/-! ### Samples -/

/-- A sample of the engine changes the event queue, the capture record and its arm (R79, R94, R99). -/
theorem engineSample_rest (n : ArmId) (c : ArmConfig) (p : Product) (probe : Option Int)
    (s : State) :
    (engineSample n c p probe s).1 = { s with
        port.events := (engineSample n c p probe s).1.port.events
        port.overflow := (engineSample n c p probe s).1.port.overflow
        capture := (engineSample n c p probe s).1.capture
        arms := (engineSample n c p probe s).1.arms }
      ∧ (∀ m, m ≠ n → (engineSample n c p probe s).1.arm m = s.arm m)
      ∧ (engineSample n c p probe s).1.arm n = ((s.arm n).engine c p probe).1
      ∧ (engineSample n c p probe s).2 = ((s.arm n).engine c p probe).2 := by
  have hu : ∀ (b : Nat) (t : State), postUnbatched n b t = { t with
      port.events := (postUnbatched n b t).port.events
      port.overflow := (postUnbatched n b t).port.overflow } := by
    intro b t; simp only [postUnbatched]; split
    · rw [post_rest]
    · rfl
  have hf : ∀ (f : Option Nat) (t : State), postFault n f t = { t with
      port.events := (postFault n f t).port.events
      port.overflow := (postFault n f t).port.overflow
      capture := (postFault n f t).capture } := by
    intro f t; unfold postFault; split
    · rw [post_rest]; rfl
    · rfl
  simp only [engineSample]
  refine ⟨by rw [hf, hu]; rfl, fun m h => ?_, ?_, trivial⟩
  · rw [hf, hu]; exact arm_setArm_of_ne _ _ h
  · rw [hf, hu]; exact arm_setArm_same ..

/-- The controller's share of a flowing sample (section 6.4). -/
theorem flowingShare_rest (n : ArmId) (c : ArmConfig) (r : SampleReport) (cause : Option HoldCause)
    (owed : List Nat) (s : State) : AdditiveFrame s (flowingShare n c r cause owed s) := by
  unfold flowingShare
  split
  · exact (AdditiveFrame.refl s).held ..
  · split
    · exact (AdditiveFrame.refl s).closed ..
    · exact (AdditiveFrame.refl s).updArm ..

/-- The end of a run changes the event queue and its arm (R163). -/
theorem endRun_rest (n : ArmId) (r : MeterRun) (s : State) :
    endRun n r s = { s with
        port.events := (endRun n r s).port.events, port.overflow := (endRun n r s).port.overflow
        arms := (endRun n r s).arms }
      ∧ ∀ m, m ≠ n → (endRun n r s).arm m = s.arm m := by
  simp only [endRun]
  refine ⟨by rw [post_rest]; rfl, fun m h => ?_⟩
  rw [arm_updArm_of_ne _ _ h, post_rest]; rfl

/-- What a sample can change: the event queue, the display, the accounts, the load, the capture record,
the arms, the injectors, the notes and the count of open choices. -/
def SampleFrame (s t : State) : Prop :=
  t = { s with
    port.events := t.port.events, port.overflow := t.port.overflow, console := t.console
    accounts := t.accounts, load := t.load, capture := t.capture, arms := t.arms
    injectors := t.injectors, store.notes := t.store.notes, choices := t.choices }

theorem SampleFrame.refl (s : State) : SampleFrame s s := rfl

theorem SampleFrame.trans {s t u : State} (a : SampleFrame s t) (b : SampleFrame t u) :
    SampleFrame s u := by
  unfold SampleFrame at *
  rw [a] at b; exact b

theorem AdditiveFrame.sample {s t : State} (h : AdditiveFrame s t) : SampleFrame s t := by
  unfold AdditiveFrame at h; unfold SampleFrame; rw [h]

/-- The end of a batch (R121). -/
theorem endBatch_rest (n : ArmId) (c : ArmConfig) (s : State) :
    SampleFrame s (endBatch n c s) := by
  have hm : ∀ o, SampleFrame s (makeLine o n s) := fun o => by
    unfold SampleFrame; rw [(makeLine_rest o n s).1]
  have hu : ∀ t f, SampleFrame s t → SampleFrame s (t.updArm n f) :=
    fun t f h => h.trans ((AdditiveFrame.refl t).updArm n f).sample
  have hp : ∀ k a b v t, SampleFrame s t → SampleFrame s (post k a b v t) :=
    fun k a b v t h => h.trans ((AdditiveFrame.refl t).post k a b v).sample
  have hs : ∀ t, SampleFrame s t → SampleFrame s (sealLoad t) := fun t h =>
    h.trans (by unfold SampleFrame; rw [sealLoad_rest])
  have he : ∀ t, SampleFrame s t → SampleFrame s (planMayHaveEmptied t) := fun t h => by
    obtain ⟨-, e⟩ | ⟨-, e⟩ := planMayHaveEmptied_cases t
    · rw [e]; exact h.trans rfl
    · rw [e]; exact h
  have hl : SampleFrame s
      (if (s.arm n).endOutcome = .complete then
        (makeLine (s.arm n).endOutcome n s).updArm n (Arm.learn c)
      else makeLine (s.arm n).endOutcome n s) := by
    split
    · exact hu _ _ (hm _)
    · exact hm _
  simp only [endBatch]
  generalize (if (s.arm n).endOutcome = .complete then
        (makeLine (s.arm n).endOutcome n s).updArm n (Arm.learn c)
      else makeLine (s.arm n).endOutcome n s) = t at *
  split
  · exact hs _ (hu _ _ (hp _ _ _ _ _ hl))
  · exact he _ (hu _ _ (hp _ _ _ _ _ hl))

/-- The controller's share of a sample in CLOSING (R121). -/
theorem closingShare_rest (n : ArmId) (c : ArmConfig) (pulses : Nat) (s : State) :
    SampleFrame s (closingShare n c pulses s) := by
  have hu : ∀ f, SampleFrame s (s.updArm n f) := fun f => ((AdditiveFrame.refl s).updArm n f).sample
  have hr : ∀ r t, SampleFrame t (endRun n r t) := fun r t => by
    unfold SampleFrame; rw [(endRun_rest n r t).1]
  simp only [closingShare]
  split
  · split
    · exact (hu _).trans (hr ..)
    · exact (hu _).trans (endBatch_rest ..)
  · exact hu _

/-- All that a sample of an arm can change (R79). -/
theorem sampleArm_rest (n : ArmId) (probe : Option Int) (s : State) :
    SampleFrame s (sampleArm n probe s) := by
  have hb : ∀ c r cause (t : State), SampleFrame t (flowingBatchSample n c r cause t) := by
    intro c r cause t
    have h0 : SampleFrame t (countCycles r.delta n t.chosen) := rfl
    have h1 : SampleFrame t (if t.choice 3 = 2 then offerAll (countCycles r.delta n t.chosen)
        else countCycles r.delta n t.chosen) := by
      split
      · exact h0.trans (offerAll_frame _).additive.sample
      · exact h0
    simp only [flowingBatchSample]
    exact (h1.trans (flowingShare_rest ..).sample).trans (offerAll_frame _).additive.sample
  have hc : ∀ c r (t : State), SampleFrame t (controllerSample n c r t) := by
    intro c r t
    have h0 : SampleFrame t (if r.fault.isSome && r.overspeed then t.chosen else t) := by
      split <;> rfl
    simp only [controllerSample]
    generalize (if r.fault.isSome && r.overspeed then t.chosen else t) = u at *
    split
    · split
      · exact (h0.trans ((AdditiveFrame.refl u).updArm ..).sample).trans (flowingShare_rest ..).sample
      · exact h0.trans (hb ..)
    · split
      · exact h0.trans (closingShare_rest ..)
      · exact h0
  have he : ∀ c p, SampleFrame s (engineSample n c p probe s).1 := fun c p => by
    unfold SampleFrame; rw [(engineSample_rest n c p probe s).1]
  unfold sampleArm
  split
  · exact .refl s
  · split
    · exact .refl s
    · exact (he _ _).trans (hc _ _ _)

end Sys2Proof.Machine
end

