-- ==== Sys2Proof/Tests/Slice0.lean ====
section
/-! SUPPORT. Tests: ill-formed commands that WellFormed refuses, the spec's worked figures, and for each
statement with hypotheses a concrete state and operands that meet them (`witness_…`). -/

-- One theorem at a time: each kernel evaluation would otherwise hold a thread of its own.
set_option Elab.async false

namespace Sys2Proof.Tests

open Sys2Proof Sys2Proof.Machine

/-! ### Building frames and states -/

/-- A frame for station 1 with a right check. -/
def frame (kind : Byte) (body : List Byte) : Frame :=
  { address := 1, tag := 0x5A, body := body, check := frameCheck 1 0x5A kind body }

/-- Fields of the given sizes. -/
def fields (ws vs : List Nat) : List Byte := (List.zipWith be ws vs).flatten

/-- The part takes a frame of a kind whose body holds these fields. -/
def takes (s : State) (kind : Byte) (ws vs : List Nat) : Bool :=
  validFrame s kind (frame kind (fields ws vs)) && readFields ws (fields ws vs) == some vs

/-- The state after a step, or the state before it where the step stops. -/
def after (c : Instr) (s : State) : State :=
  match exec c s with
  | .next t => t
  | _ => s

/-- A step of the command answers a next state. -/
def ran (c : Instr) (s : State) : Bool :=
  match exec c s with
  | .next _ => true
  | _ => false

/-- The bytes of the reply a request gets. -/
def replyTo (c : Instr) (s : State) : List Nat :=
  match (after c s).port.reply with
  | some r => r.body.map (·.toNat)
  | none => []

/-- The record of a console line. -/
def typed (t : String) (s : State) : State := { s with console.buffer := ascii t }

/-- The product of section 5.4.1, with basis STANDARD. -/
def product : Product :=
  { code := 111, productClass := 2, baseTemp := 1500, alpha := 12000, beta := 1152,
    lowLimit := -2000, highLimit := 6000, substitute := 1500, basis := .standard }

/-- The settings of section 6.9.1. -/
def settings : ArmConfig :=
  { product := 0, kFactor := 450000, singleChannel := false, overspeedRate := 3000,
    integrityLimit := 10, lowTarget := 400, highTarget := 2400, startVolume := 200,
    slowdownVolume := 300, noFlowTimeout := 30, resumeLimit := 3, lateClose := 10000 }

/-- Injector 3 of section 8.9.1. -/
def injector3 : InjectorConfig :=
  { additiveCode := 77, meterK := 5000, shotMl := 20, shotTimeLimit := 1000, tolerance := 10,
    faultLimit := 3, injectorClass := .mandatory, firstArm := 0, secondArm := some 1,
    scheme := .roundRobin, creepLimit := 20 }

/-- Recipe 21 of section 8.9.1. -/
def recipe21 : Recipe := { code := 21, product := 0, components := [{ injector := 2, dose := 2000 }] }

/-- A component record of recipe 21. -/
def component : Component :=
  { injector := 2, additiveCode := 77, dose := 2000, tolerance := 10, cycle := 10000,
    accumulated := 0, owed := 0, shots := 0, injected := 0, status := .ok }

/-- An account with litres remaining and reserved in class 2. -/
def accountWith (remaining : Remaining) (reserved : Nat) : Account :=
  { number := 40017, hold := false
    classes := (Bank8.replicate { remaining := .litres 0, reserved := 0 }).set 2
      { remaining := remaining, reserved := reserved } }

def driver255 : Driver :=
  { card := 255, suspended := false, validUntil := 0, account := 40017, classes := 0xFF,
    bound := none, dailyLimit := 0, loadsToday := 3 }

def vehicle4711 : Vehicle :=
  { number := 4711, validUntil := 0
    compartments := List.replicate 6 { capacity := 8000, classes := 0xFF } }

/-- A bay with one product, arm 1 deployed at compartment 1, one injector, one recipe and the bay
permissive OK. -/
def bay : State :=
  { State.reset with
    port.link := .up
    permit.drivers := [driver255], permit.vehicles := [vehicle4711]
    accounts := [accountWith (.litres 12000) 0]
    products := (Bank8.replicate none).set 0 (some product)
    arms := (Bank4.replicate Arm.cold).set 0 { Arm.cold with config := some settings }
    injectors := (Bank6.replicate Injector.cold).set 2 { Injector.cold with config := some injector3 }
    recipes := [recipe21]
    monitor :=
      { State.reset.monitor with
        ground := .at 1 1, overfill := .at 1 1, vapour := .at 1 1, permissiveOk := true
        stow := .replicate (.at 0 1)
        coupler := (Bank4.replicate (.at 15 0)).set 0 (.at 14 1) } }

/-- An OPEN load of card 255 and vehicle 4711 under note 3109. -/
def openRecord : OpenLoad :=
  { note := 3109, source := .fromTable, card := 255, vehicle := 4711, account := 40017,
    classes := 0xFF, opened := 0, endCause := none, plan := [], lines := [] }

def loaded : State :=
  { bay with
    load.state := .opened, load.record := some openRecord, load.idleTimer := .start 1200000
    store.next := 3110 }

def entry (st : EntryState) : PlanEntry :=
  { compartment := 1, recipe := 21, arm := 0, preset := 3000, reservation := 3000, state := st }

def binding : Binding :=
  { compartment := 1, recipe := 21, preset := 3000, basis := .standard, reservation := 3000 }

/-- Arm 1 in a state of its batch. -/
def batchArm (st : ArmState) : Arm :=
  { Arm.cold with
    config := some settings, control.state := st, control.binding := some binding
    components := [component] }

/-- The load with arm 1 bound to its entry, in a state. -/
def withBatch (st : ArmState) : State :=
  { loaded with
    load.record := some { openRecord with
      plan := [entry (if st = .armed then .armed else .active)] }
    accounts := [accountWith (.litres 12000) 3000]
    arms := loaded.arms.set 0 (batchArm st) }

/-- Arm 1 in a meter run, in a state. -/
def inRun (st : ArmState) : State :=
  { bay with
    monitor.coupler := .replicate (.at 15 0)
    arms := bay.arms.set 0
      { Arm.cold with
        config := some settings, control.state := st
        run := some { volume := 3000, flowingMs := 79500, mfUsed := 10009,
                      reachedFullFlow := true } } }

/-- Injector 3 in a state. -/
def withInjector (st : InjectorState) (s : State) : State :=
  { s with injectors := s.injectors.set 2 { s.injector 2 with state := st } }

def shotOf (phase : ShotPhase) (pulses : Nat) : Shot :=
  { arm := 0, phase := phase, target := 100, pulses := pulses, timer := .start 1000 }

def proveShotOf (phase : ShotPhase) (pulses : Nat) : ProveShot :=
  { phase := phase, target := 100, pulses := pulses, timer := .start 1000
    ended := if phase = .tail then some .target else none }

def proving (shots total : Nat) (shot : Option ProveShot) : InjectorState :=
  .proving { shots := shots, pulseTotal := total, shot := shot }

def record (k : EventKind) : Event := { kind := k, arm := 0, code := 0, value := 0, clock := 0 }

def noteOf (number lines : Nat) : Note :=
  { number := number, opened := 0, closed := 0, card := 255, vehicle := 4711, account := 40017,
    source := .fromTable, endCause := .host
    lines := List.replicate lines
      (lineOf (entry .active) product .complete 0 (batchArm .closing)) }

/-! ### Ill-formed commands (one for each check of WellFormed) -/

theorem test_long_body_is_ill_formed :
    (Instr.poll (frame 0x01 (List.replicate 241 0))).wellFormed = false
      ∧ (Instr.poll (frame 0x01 (List.replicate 240 0))).wellFormed = true := by decide +kernel

theorem test_long_source_is_ill_formed :
    (Instr.endLoad (.host (frame 0x33 (List.replicate 241 0)))).wellFormed = false := by
  decide +kernel

theorem test_catalogue_kind_is_not_unknown :
    (Instr.unknownKind 0x70 (frame 0x70 [])).wellFormed = false
      ∧ (Instr.unknownKind 0x72 (frame 0x72 [])).wellFormed = true := by decide +kernel

theorem test_level_without_pin_is_ill_formed :
    (Instr.rawInputChange .overfill 4).wellFormed = false
      ∧ (Instr.rawInputChange .ground 2).wellFormed = false
      ∧ (Instr.rawInputChange (.coupler 3) 15).wellFormed = true := by decide

theorem test_overflow_characters :
    (Instr.consoleRecordOverflow 0x0D []).wellFormed = false
      ∧ (Instr.consoleRecordOverflow 0x41 [0x0D]).wellFormed = false
      ∧ (Instr.consoleRecordOverflow 0x41 [0x0A]).wellFormed = true := by decide

/-! ### The catalogue and the check codes -/

/-- WellFormed and the receiver agree on the catalogue (section 1.3). -/
theorem test_catalogues_agree :
    ∀ k : Fin 256, definedKind (BitVec.ofFin k) = inCatalogue (BitVec.ofFin k) := by
  decide +kernel

/-- The catalogue has 49 kinds, each with one command (section 1.3). -/
theorem test_forty_nine_requests :
    (fixedRequests.map (·.kind) ++ countedRequests.map (·.kind)).Nodup
      ∧ (fixedRequests.map (·.kind) ++ countedRequests.map (·.kind)).all inCatalogue = true
      ∧ fixedRequests.length + countedRequests.length = 49 := by decide +kernel

/-- The test of R2. -/
theorem test_crc : crc [0x31, 0x32, 0x33, 0x34, 0x35, 0x36, 0x37, 0x38, 0x39] = 0x29B1 := by
  decide +kernel

/-- The table under R21. -/
theorem test_filter_index :
    filterIndex 1 = 7 ∧ filterIndex 0xFF = 243 ∧ filterIndex 0x100 = 21 := by decide +kernel

/-! ### Worked figures of the spec -/

/-- Section 3.6: the third plan, and the three charges. -/
theorem test_charges :
    allocationBound .standard 2000 (some 880) = 880 ∧ reservationOf .gross 6000 = 6120
      ∧ chargeOf { remaining := .litres 12000, reserved := 12000 } 5000 5046 = 5000
      ∧ chargeOf { remaining := .litres 7300, reserved := 7000 } 6120 5955 = 5955
      ∧ chargeOf { remaining := .litres 1345, reserved := 880 } 880 905 = 905 := by decide

/-- Section 5.4.1, both columns and the cold batch. -/
theorem test_correction :
    rawCtl product 2400 = 98911 ∧ standardOf 12000000 98911 = 11869320
      ∧ fwaOf 75600000000 30000000 2600 = 2520
      ∧ rawCtl product 2520 = 98764 ∧ standardOf 30000000 98764 = 29629200
      ∧ rawCtl product 500 = 101188 ∧ standardOf 10000000 101188 = 10118800 := by decide +kernel

/-- R82, and section 9.1.1 at a rate of 2,410. -/
theorem test_meter_factor :
    meterFactor [⟨1800, 10012⟩, ⟨3000, 10005⟩] 2400 = 10009
      ∧ meterFactor [⟨400, 10020⟩, ⟨2400, 10009⟩, ⟨4000, 10001⟩] 2410 = 10009 := by decide

/-- Section 6.9.1: targets, valve commands, thresholds and learning. -/
theorem test_regulation :
    flowTarget settings .fullFlow false 4000 2 = 2000 ∧ valveCommand 2000 390 = .openStep
      ∧ flowTarget settings .fullFlow false 4000 1 = 2400 ∧ valveCommand 2400 2450 = .hold
      ∧ valveCommand 400 2380 = .closeStep ∧ slowdownThreshold settings 0 = 300000
      ∧ slowdownThreshold settings 7 = 600000 := by decide

def grossArm (gross closeGross overrun : Nat) : Arm :=
  { batchArm .closing with
    control.binding := some { binding with basis := .gross, reservation := 3060 }
    control.closeGross := closeGross, control.overrun := overrun, figures.gross := gross }

theorem test_overrun_learning :
    ((grossArm 3006300 2977500 24000).learn settings).control.overrun = 25200
      ∧ ((grossArm 3006300 2977500 24000).learn settings).control.pacing = 0
      ∧ ((grossArm 3017200 2975200 25200).learn settings).control.overrun = 29400
      ∧ ((grossArm 3017200 2975200 25200).learn settings).control.pacing = 7 := by decide +kernel

/-- Section 6.9.2: the allocation stop. -/
def coldArm (gross standard : Nat) : Arm :=
  { batchArm .trim with
    control.binding := some { binding with basis := .gross, preset := 6000, reservation := 6120 }
    control.overrun := 25200
    figures.gross := gross, figures.standard := standard, figures.ctl := 103000 }

theorem test_allocation_stop :
    (coldArm 5913667 6091077).closeTest = none
      ∧ (coldArm 5917000 6094510).closeTest = some .allocation := by decide +kernel

/-- Section 8.9.1 and section 9.2.1: cycle, target pulses and measures. -/
theorem test_shots :
    cycleOf 20 2000 = 10000 ∧ targetPulses injector3 = 100
      ∧ targetPulses { injector3 with meterK := 5101 } = 103 ∧ measuredMl injector3 101 = 20
      ∧ shotGood injector3 103 = true ∧ shotGood injector3 80 = false := by decide

/-- Section 9.1.1 and section 9.2.1: the average rate and the new factors. -/
theorem test_proving :
    averageRate 3006800 79500 = 2269
      ∧ newFactor { gross := 3006800, mfUsed := 10009 } 3030000 = 10086
      ∧ newFactor { gross := 3006800, mfUsed := 10009 } 3011200 = 10024
      ∧ newMeterK { shots := 5, pulseTotal := 505, shot := none } 88 = 5739
      ∧ newMeterK { shots := 5, pulseTotal := 505, shot := none } 99 = 5101 := by decide +kernel

/-! ### One step of commands -/

/-- The table of line speeds (R3). -/
theorem test_line_speeds :
    [0, 1, 2, 3].map (fun b => (after (.startUp 1 b) bay).lineSpeed)
      = [19200, 38400, 57600, 115200] := by decide +kernel

/-- After a cold start COLD START waits, and NEXT EVENT takes it (R9, R185). -/
theorem test_next_event :
    replyTo (.nextEvent (frame 0x02 [])) { State.reset with port.link := .up }
        = [0, 0, 1, 0, 0, 0, 0, 0, 0, 0, 0, 0, 0, 0]
      ∧ (after (.nextEvent (frame 0x02 [])) { State.reset with port.link := .up }).port.events
        = [] := by decide +kernel

/-- Section 3.6: a write below the reserved total is clamped up to it (R40). -/
theorem test_set_allocation :
    replyTo (.setAllocation (frame 0x21 (fields [4, 1, 4] [40017, 2, 6500])))
        { bay with accounts := [accountWith (.litres 7000) 7000] } = [0, 0, 0, 0x1B, 0x58] := by
  decide +kernel

/-- Section 3.6: the third plan is granted 880 L (R43, R60). -/
theorem test_plan_grant :
    replyTo (.planCompartment (.host (frame 0x32 (fields [1, 2, 1, 2] [3, 21, 1, 2000]))))
        { loaded with accounts := [accountWith (.litres 12000) 11120] } = [0, 0x03, 0x70] := by
  decide +kernel

/-- Section 10.5.1: the card and the vehicle with 15 notes stored. -/
theorem test_nearly_full_store :
    replyTo (.presentCard (.host (frame 0x30 (fields [5] [0xFF]))))
        { bay with store.notes := List.replicate 15 (noteOf 3094 0), store.next := 3109 } = [0, 2]
      ∧ replyTo (.presentCard (.host (frame 0x30 (fields [5] [0xFF]))))
        { bay with store.notes := List.replicate 16 (noteOf 3095 0), store.next := 3111 }
          = [11, 9] := by decide +kernel

/-- Section 9.1.1: METER RESULT, refused and taken (R164). -/
def proved : State :=
  { bay with
    arms := bay.arms.set 0
      { Arm.cold with
        config := some settings, curve := [⟨400, 10020⟩, ⟨2400, 10009⟩, ⟨4000, 10001⟩]
        result := some { gross := 3006800, mfUsed := 10009 } } }

theorem test_meter_result :
    replyTo (.meterResult (frame 0x69 (fields [1, 1, 4] [1, 2, 3030000]))) proved
        = [3, 0x27, 0x66, 0x27, 0x19]
      ∧ replyTo (.meterResult (frame 0x69 (fields [1, 1, 4] [1, 2, 3011200]))) proved
        = [0, 0x27, 0x28]
      ∧ ((after (.meterResult (frame 0x69 (fields [1, 1, 4] [1, 2, 3011200]))) proved).arm 0).curve
        = [⟨400, 10020⟩, ⟨2400, 10024⟩, ⟨4000, 10001⟩] := by decide +kernel

/-- Section 9.2.1: INJECTOR RESULT, refused and taken (R168). -/
theorem test_injector_result :
    replyTo (.injectorResult (frame 0x6C (fields [1, 4] [3, 88])))
        (withInjector (proving 5 505 none) bay) = [3, 0, 0, 0x16, 0x6B]
      ∧ replyTo (.injectorResult (frame 0x6C (fields [1, 4] [3, 99])))
        (withInjector (proving 5 505 none) bay) = [0, 0, 0, 0x13, 0xED] := by decide +kernel

/-- Section 7.4.1: CPL2_1 and CPL2_2 grounded give compartment 6, accepted and posted. -/
theorem test_coupler :
    (after (.debounceWindowExpiry (.coupler 1))
        { bay with
          port.events := []
          monitor.coupler := bay.monitor.coupler.set 1
            { levels := 9, accepted := 0, candidate := some (rawValue (.coupler 1) 9)
              window := .start 200 } }).port.events
      = [{ kind := .couplerChange, arm := 2, code := 0x0106, value := 0, clock := 0 }] := by
  decide +kernel

/-- A sample of 100 pulses at factor 1.0000 and K-factor 450,000 on an idle arm counts 222 mL unbatched
and keeps the remainder (R79, R80, R96). -/
theorem test_sample_at_rest :
    let s := after (.sample 0 (some 2000))
      { bay with
        arms := bay.arms.set 0
          { Arm.cold with
            config := some settings, channel.pulsesA := 100, channel.pulsesB := 100 } }
    (s.arm 0).totals.unbatched = 222 ∧ (s.arm 0).channel.remainder = 100000
      ∧ (s.arm 0).channel.pulsesA = 0 := by decide +kernel

/-! ### Witnesses: states and operands that meet the hypotheses of the statements -/

/-- The part takes a frame of the kind for each of the operand lists. -/
def takesAll (s : State) (kind : Byte) (ws : List Nat) (vss : List (List Nat)) : Bool :=
  vss.all (takes s kind ws)

/-- Frames of the kind with one operand each. -/
def takesEach (s : State) (kind : Byte) (w : Nat) (vs : List Nat) : Bool :=
  vs.all fun v => takes s kind [w] [v]

/-- A frame of the kind with an empty body. -/
def takesEmpty (s : State) (kind : Byte) : Bool := validFrame s kind (frame kind [])

def withEvents (n : Nat) : State :=
  { bay with port.events := List.replicate n (record .cardRead) }

/-- Card 255 referred to the host. -/
def referred : State :=
  { bay with
    permit.mode := .host, permit.referral := .pending 255 .mode
    permit.referralTimer := .start 20000, load.state := .referred
    load.identTimer := .start 60000, port.silence := .start 10000 }

/-- Card 255 identified and asked for its vehicle. -/
def waiting : State :=
  { bay with
    permit.held := some { source := .fromTable, card := 255, account := 40017, classes := 0xFF,
                          bound := none }
    load.state := .vehicleWait, load.identTimer := .start 60000 }

def off (sup : Supply) (good : Bool) : State :=
  { loaded with backup := { markerGood := good, supply := sup } }

def stopped (s : State) : State :=
  { s with
    monitor.rackStop := true, monitor.permissiveOk := false
    monitor.estop := .at 1 0 }

theorem witness_StepRunsFrontCommandOrIdles :
    { bay with pending := [.clockAdvance, .replyEnd] }.pending = .clockAdvance :: [.replyEnd]
      ∧ bay.pending = [] ∧ bay.running = true ∧ (off .reset true).running = false
      ∧ (Timer.start 10).running = true ∧ (Timer.start 10).elapsed < (Timer.start 10).limit := by
  decide +kernel

theorem witness_FramesEventsAndReplies :
    bay.port.link = .up ∧ State.reset.port.link = .lost
      ∧ (withEvents 31).port.events.length < 32 ∧ 32 ≤ (withEvents 32).port.events.length
      ∧ (0x71 : Byte).toNat < 128 ∧ (Answer.denied .bayBusy).reason = some .bayBusy
      ∧ Answer.ok.reason = none := by decide +kernel

/-- A frame for another station and one of the wrong check; a body one byte short and one too long. -/
theorem witness_FramesAreChecked_fixed : fixedRequests.all (fun r =>
    !validFrame bay r.kind { frame r.kind [] with address := 2 }
      && !validFrame bay r.kind { frame r.kind [] with check := ~~~(frame r.kind []).check }
      && validFrame bay r.kind (frame r.kind (List.replicate (r.sizes.sum + 1) 0))
      && (r.sizes.sum == 0
        || validFrame bay r.kind (frame r.kind (List.replicate (r.sizes.sum - 1) 0)))) = true := by
  decide +kernel

/-- A body that ends with its count. -/
def counting (r : CountedRequest) (n : Nat) : List Byte :=
  List.replicate r.offset 0 ++ be r.width n

/-- A body too short for its count, counts of 0 and of one above the most, and the right counts in
bodies that end with them. -/
theorem witness_FramesAreChecked_counted : countedRequests.all (fun r =>
    !validFrame bay r.kind { frame r.kind [] with address := 2 }
      && validFrame bay r.kind (frame r.kind (List.replicate (r.offset + r.width - 1) 0))
      && [0, 1, r.most, r.most + 1].all (fun n =>
        validFrame bay r.kind (frame r.kind (counting r n))
          && r.offset + r.width ≤ (counting r n).length
          && beNat (((counting r n).drop r.offset).take r.width) == n
          && (n == 0 || (counting r n).length != (r.sizes n).sum))) = true := by decide +kernel

theorem witness_FramesAreChecked_unknown :
    inCatalogue 0x72 = false ∧ validFrame bay 0x72 (frame 0x72 []) = true
      ∧ validFrame bay 0x72 { frame 0x72 [] with address := 2 } = false
      ∧ inCatalogue 0x71 = true := by decide +kernel

theorem witness_TheLineAndTheSilenceTimer :
    bay.running = true ∧ bay.port.reply = none
      ∧ ({ frame 1 [] with address := 2 } : Frame).address ≠ bay.port.station
      ∧ ({ frame 1 [] with check := 0 } : Frame).check ≠ frameCheck 1 0x5A 1 []
      ∧ referred.port.silence.running = true ∧ referred.port.link = .up
      ∧ referred.permit.referral = .pending 255 .mode
      ∧ { loaded with port.silence := .start 10000 }.port.silence.running = true
      ∧ loaded.permit.referral.pendingCard = none := by decide +kernel

theorem witness_TheEventQueueIsRead :
    takesEmpty bay 0x01 = true ∧ takesEmpty bay 0x02 = true ∧ takesEmpty bay 0x03 = true
      ∧ (frameTaken (withEvents 0)).port.events = []
      ∧ (frameTaken (withEvents 2)).port.events = record .cardRead :: [record .cardRead] := by
  decide +kernel

theorem witness_NumbersOutOfRange_numbers :
    ([0x43, 0x44, 0x48, 0x49, 0x4A].all (takesEach bay · 1 [0, 5, 255])
      && [0x62, 0x63, 0x6A, 0x6B].all (takesEach bay · 1 [0, 7, 255])
      && [0x22, 0x23].all (takesEach bay · 4 [0]) && takesEach bay 0x64 2 [0]
      && [0x14, 0x15].all (takesEach bay · 4 [0, 1000000, 4294967295])
      && [0x11, 0x12].all (takesEach bay · 5 [0])
      && takesAll bay 0x68 [1, 2] [[0, 3000], [5, 3000]]
      && takesAll bay 0x69 [1, 1, 4] [[0, 1, 1], [5, 1, 1]]
      && takesAll bay 0x6C [1, 4] [[0, 99], [7, 99]]
      && takesAll bay 0x6D [1, 1] [[2, 1], [0, 0], [1, 0], [0, 5], [1, 7]]
      && takesAll bay 0x21 [4, 1, 4] [[0, 7, 1], [1, 8, 1]]) = true := by decide +kernel

def productFields : List Nat := [111, 2, 1500, 12000, 1152, 63536, 6000, 1500, 1]
def armSettings : List Nat := [1, 450000, 0, 400, 2400, 200, 300, 3000, 30, 3, 20, 10000, 10]
def injectorSettings : List Nat := [77, 5000, 20, 1000, 10, 3, 0, 1, 2, 0, 20]
def productSizes : List Nat := [1, 2, 1, 2, 2, 2, 2, 2, 2, 1]
def armSizes : List Nat := [1, 1, 4, 1, 2, 2, 2, 2, 2, 1, 1, 2, 4, 1]
def injectorSizes : List Nat := [1, 2, 4, 2, 2, 1, 1, 1, 1, 1, 1, 2]

theorem witness_NumbersOutOfRange_entries :
    (takesAll bay 0x40 productSizes [0 :: productFields, 9 :: productFields]
      && takesAll bay 0x41 armSizes [0 :: armSettings, 5 :: armSettings]
      && takesAll bay 0x60 injectorSizes [0 :: injectorSettings, 7 :: injectorSettings]
      && takesAll bay 0x42 [1, 1, 2, 2] [[0, 1, 1800, 10012], [5, 1, 1800, 10012]]
      && takesAll bay 0x42 [1, 1, 2, 2, 2, 2, 2, 2, 2, 2]
        [[0, 4, 1, 10000, 2, 10000, 3, 10000, 4, 10000]]) = true := by decide +kernel

theorem witness_ClockAndSettingsAreTaken :
    (takesEach bay 0x04 4 [0, 4294967295] && takesEach bay 0x05 1 [0, 1, 60, 61]
      && takesAll bay 0x18 [1, 1] [[0, 5], [2, 60], [3, 20], [0, 4], [0, 61]]
      && takesAll bay 0x35 [2, 1] [[10, 1], [300, 60], [9, 1], [301, 1], [10, 0], [10, 61]]) = true
      ∧ authorityModeOf 0 = some .localMode ∧ authorityModeOf 2 = some .hostFallback
      ∧ bay.running = true ∧ (86399 : BitVec 32).toNat / 86400 = bay.port.clock.toNat / 86400
      ∧ (86400 : BitVec 32).toNat / 86400 ≠ bay.port.clock.toNat / 86400 := by decide +kernel

def driverSizes : List Nat := [5, 1, 2, 4, 1, 4, 1]

theorem witness_DriversAndVehiclesAreWritten :
    takesAll bay 0x10 driverSizes
        [[255, 0, 0, 40017, 255, 0, 15], [0, 0, 0, 1, 0, 0, 0], [1, 0, 0, 0, 0, 0, 0],
         [1, 0, 0, 1, 0, 1000000, 0], [1, 0, 0, 1, 0, 0, 16], [1, 2, 0, 1, 0, 0, 0]] = true
      ∧ (driverOf 255 0 0 40017 255 0 2).isSome = true ∧ (driverOf 9 1 0 1 255 999999 15).isSome = true
      ∧ loaded.driver 255 = some driver255 ∧ loaded.currentCard = some 255
      ∧ bay.driver 255 = some driver255 ∧ bay.currentCard ≠ some 255
      ∧ bay.driver 9 = none ∧ bay.permit.drivers.length < 64
      ∧ takes { bay with permit.drivers := List.replicate 64 driver255 } 0x10 driverSizes
          [9, 0, 0, 1, 255, 0, 0] = true
      ∧ { bay with permit.drivers := List.replicate 64 driver255 }.driver 9 = none := by
  decide +kernel

theorem witness_VehiclesAreWritten :
    takesAll loaded 0x13 [4, 2, 1, 2, 1] [[4711, 1, 1, 8000, 255], [0, 1, 1, 8000, 255]] = true
      ∧ takes bay 0x13 ([4, 2, 1] ++ (List.replicate 8 [2, 1]).flatten)
          ([9, 1, 8] ++ (List.replicate 8 [8000, 255]).flatten) = true
      ∧ vehicleOf 0 1 [(8000, 255)] = none ∧ (vehicleOf 4711 1 [(8000, 255)]).isSome = true
      ∧ (vehicleOf 9 1 (List.replicate 8 (8000, 255))).isSome = true
      ∧ loaded.vehicleInUse 4711 = true ∧ bay.vehicleInUse 4711 = false
      ∧ (bay.vehicle 4711).isSome = true ∧ bay.vehicleInUse 9 = false ∧ bay.vehicle 9 = none
      ∧ bay.permit.vehicles.length < 32
      ∧ { bay with permit.vehicles := List.replicate 32 vehicle4711 }.vehicle 9 = none := by
  decide +kernel

/-- The ranges' ends, and an entry of each field list. -/
theorem witness_DriverAndVehicleFields :
    (driverOf 1 0 0 1 0 0 0).isSome = true
      ∧ (driverOf (2 ^ 40 - 1) 1 65535 4294967295 255 999999 15).isSome = true
      ∧ driverOf (2 ^ 40) 0 0 1 0 0 0 = none
      ∧ driverOf 255 0 0 40017 255 0 0 = some { driver255 with loadsToday := 0 }
      ∧ (vehicleOf 999999 65535 [(100, 0), (20000, 255)]).isSome = true
      ∧ vehicleOf 1 0 [(100, 0)] = none ∧ vehicleOf 1 1 [(99, 0)] = none
      ∧ vehicleOf 1 1 [(20001, 0)] = none ∧ pairs [100, 1, 200, 2] = [(100, 1), (200, 2)] := by
  decide +kernel

theorem witness_DropsRemoveOneEntry :
    (takesEach loaded 0x11 5 [1, 255, 2 ^ 40 - 1] && takesEach loaded 0x14 4 [1, 4711, 999999]
      && takesEach loaded 0x23 4 [1, 40017] && takesEach loaded 0x64 2 [1, 21]) = true
      ∧ loaded.driver 1 = none ∧ (loaded.driver 255).isSome = true ∧ loaded.currentCard = some 255
      ∧ (bay.driver 255).isSome = true ∧ bay.currentCard ≠ some 255
      ∧ bay.vehicle 999999 = none ∧ loaded.vehicleInUse 4711 = true
      ∧ bay.vehicleInUse 4711 = false ∧ bay.account 1 = none
      ∧ bay.account 40017 = some (accountWith (.litres 12000) 0)
      ∧ loaded.accountInUse 40017 = true ∧ bay.accountInUse 40017 = false
      ∧ (∀ c : ClassId, ((accountWith (.litres 12000) 0).classes.get c).reserved = 0)
      ∧ bay.recipe 1 = none ∧ (bay.recipe 21).isSome = true
      ∧ (withBatch .armed).recipeInUse 21 = true ∧ bay.recipeInUse 21 = false := by
  decide +kernel

theorem witness_SetFilterWritesARun :
    takesAll bay 0x16 [1, 2, 1] [[0, 1, 0x80], [255, 1, 0x80], [255, 2, 0xC0]] = true
      ∧ takesAll bay 0x16 ([1, 2] ++ List.replicate 32 1)
          [[0, 256] ++ List.replicate 32 0xA5, [1, 256] ++ List.replicate 32 0xA5] = true := by
  decide +kernel

theorem witness_PresentCardBeginsIdentification :
    (takesEach bay 0x30 5 [0, 1, 255, 2 ^ 40 - 1] && takesEach loaded 0x30 5 [255]) = true
      ∧ admissionRefusal bay = none ∧ admissionRefusal loaded = some (.denied .bayBusy)
      ∧ referralNeed (frameTaken { bay with permit.mode := .host }) 255 = some .mode
      ∧ admissionRefusal { bay with permit.mode := .host } = none
      ∧ referralNeed (frameTaken bay) 255 = none
      ∧ localCheck bay 255 = .ok driver255 ∧ driver255.bound = none
      ∧ localCheck bay 1 = .error .cardUnknown := by
  decide +kernel

/-- Card 255 bound to a vehicle. -/
def boundTo (v : Nat) : State :=
  { bay with permit.drivers := [{ driver255 with bound := some v }] }

def permitTo (v : Nat) : Permit :=
  { source := .fromTable, card := 255, account := 40017, classes := 0xFF, bound := some v }

theorem witness_PresentCardNamesTheBoundVehicle :
    localCheck (boundTo 4711) 255 = .ok { driver255 with bound := some 4711 }
      ∧ namingRefusal (boundTo 4711) (permitTo 4711) 4711 = none
      ∧ namingRefusal (boundTo 9) (permitTo 9) 9 = some .vehicleUnknown
      ∧ admissionRefusal (boundTo 9) = none ∧ referralNeed (frameTaken (boundTo 9)) 255 = none := by
  decide +kernel

theorem witness_AdmissionAndReferral :
    State.reset.configured = false ∧ bay.configured = true ∧ loaded.load.state ≠ .noLoad
      ∧ (stopped bay).monitor.rackStop = true ∧ (stopped bay).configured = true
      ∧ 16 ≤ { bay with store.notes := List.replicate 16 (noteOf 1 0) }.store.notes.length
      ∧ 4294967295 ≤ { bay with store.next := 4294967295 }.store.next
      ∧ bay.store.next < 4294967295 ∧ (inRun .trim).meterRun = true ∧ (inRun .trim).configured = true
      ∧ bay.meterRun = false ∧ bay.hitsFilter 255 = false
      ∧ { bay with permit.filter := BitVec.allOnes 256 }.hitsFilter 255 = true
      ∧ { bay with permit.mode := .hostFallback, port.link := .lost }.hitsFilter 255 = false := by
  decide +kernel

/-- Card 255 with a table entry, on a day. -/
def cardOn (day : Nat) (d : Driver) : State :=
  { bay with port.clock := BitVec.ofNat 32 (day * 86400), permit.drivers := [d] }

theorem witness_LocalChecks :
    (cardOn 7 driver255).driver 1 = none
      ∧ (cardOn 7 { driver255 with suspended := true }).driver 255
          = some { driver255 with suspended := true }
      ∧ (let s := cardOn 7 { driver255 with validUntil := 6 }
         s.driver 255 = some { driver255 with validUntil := 6 }
           ∧ 6 < s.port.clock.toNat / 86400 ∧ s.port.clock.toNat / 86400 ≤ 7)
      ∧ (let d := { driver255 with validUntil := 7, dailyLimit := 3 }
         d.suspended = false ∧ d.dailyLimit ≠ 0 ∧ d.dailyLimit ≤ d.loadsToday
           ∧ (cardOn 7 d).driver 255 = some d)
      ∧ (let d := { driver255 with dailyLimit := 4 }
         d.loadsToday < d.dailyLimit ∧ d.validUntil = 0
           ∧ (cardOn 7 d).driver 255 = some d) := by decide +kernel

theorem witness_ConsoleCardWithoutHost :
    let s := typed "CARD 00000000FF"
      { bay with permit.mode := .host, port.link := .lost, console.replies := [.ok, .ok, .ok] }
    s.running = true ∧ s.console.dropping = false ∧ s.console.buffer ≠ []
      ∧ s.console.replies.length < 4 ∧ parseRecord s.console.buffer = some (.card 255)
      ∧ admissionRefusal s = none ∧ referralNeed s 255 = some .mode ∧ s.port.link = .lost := by
  decide +kernel

theorem witness_NameVehicleOpensTheLoad :
    (takesEach waiting 0x31 4 [0, 1, 4711, 999999, 1000000] && takesEach bay 0x31 4 [1, 999999]
      && takesEach (stopped waiting) 0x31 4 [4711]) = true
      ∧ waiting.load.state = .vehicleWait ∧ waiting.permit.held.isSome = true
      ∧ waiting.monitor.rackStop = false
      ∧ namingRefusal waiting { permitTo 1 with bound := none } 4711 = none
      ∧ namingRefusal waiting { permitTo 1 with bound := none } 1 = some .vehicleUnknown
      ∧ bay.load.state ≠ .vehicleWait := by decide +kernel

/-- Vehicle 4711 valid until a day, on day 7. -/
def vehicleOn (validUntil : Nat) : State :=
  { bay with
    port.clock := BitVec.ofNat 32 (7 * 86400)
    permit.vehicles := [{ vehicle4711 with validUntil := validUntil }] }

theorem witness_NamingChecks :
    (vehicleOn 7).vehicle 1 = none
      ∧ [6, 7].all (fun d =>
          (vehicleOn d).vehicle 4711 == some { vehicle4711 with validUntil := d }) = true
      ∧ 6 < (vehicleOn 6).port.clock.toNat / 86400 ∧ (vehicleOn 7).port.clock.toNat / 86400 ≤ 7
      ∧ (permitTo 9).bound = some 9 ∧ 9 ≠ 4711 ∧ (permitTo 4711).bound = some 4711
      ∧ (let d := { driver255 with dailyLimit := 4 }; d.loadsToday < d.dailyLimit)
      ∧ (let d := { driver255 with dailyLimit := 3 }; d.dailyLimit ≤ d.loadsToday)
      ∧ driver255.dailyLimit = 0 ∧ { driver255 with loadsToday := 14 }.loadsToday < 15
      ∧ 15 ≤ { driver255 with loadsToday := 15 }.loadsToday := by decide +kernel

def answerSizes : List Nat := [5, 1, 4, 1, 4]

/-- `referred` with arm and vehicle as they stand, its record EXPIRED for a card. -/
def expired (card : Nat) : State :=
  { bay with permit.referral := .expired card }

theorem witness_AnswerReferralDecides :
    (takesAll referred 0x17 answerSizes
        [[255, 0, 0, 0, 0], [255, 1, 1, 255, 0], [255, 1, 40017, 255, 4711], [255, 1, 1, 255, 999999],
         [255, 2, 0, 0, 0], [7, 0, 0, 0, 0], [7, 1, 1, 255, 0], [0, 0, 0, 0, 0], [255, 1, 0, 255, 0],
         [255, 1, 1, 255, 1000000]]
      && takesAll (expired 255) 0x17 answerSizes [[255, 0, 0, 0, 0], [7, 1, 1, 255, 0]]
      && takesAll bay 0x17 answerSizes [[255, 0, 0, 0, 0], [255, 1, 1, 255, 0]]
      && takesAll (stopped referred) 0x17 answerSizes [[255, 1, 40017, 255, 4711]]) = true
      ∧ referred.permit.referral = .pending 255 .mode ∧ referred.load.state = .referred
      ∧ (expired 255).permit.referral = .expired 255 ∧ bay.permit.referral = .empty
      ∧ referred.monitor.rackStop = false
      ∧ namingRefusal referred { permitTo 4711 with source := .referred } 4711 = none
      ∧ namingRefusal referred { permitTo 1 with source := .referred } 1 = some .vehicleUnknown := by
  decide +kernel

theorem witness_DenialsEndTheIdentification :
    referred.running = true ∧ referred.permit.referralTimer.running = true
      ∧ referred.load.identTimer.running = true ∧ waiting.load.identTimer.running = true
      ∧ waiting.permit.held.isSome = true ∧ bay.permit.referralTimer.running = false
      ∧ bay.load.identTimer.running = false := by decide +kernel

theorem witness_AccountsAreWritten :
    (takesAll bay 0x20 [4, 1] [[0, 0], [1, 2], [1, 0], [40017, 1]]
      && takesAll bay 0x21 [4, 1, 4]
        [[40017, 0, 0], [40017, 7, 99999999], [40017, 2, 0xFFFFFFFF], [1, 2, 5],
         [40017, 2, 100000000], [40017, 2, 0xFFFFFFFE]]) = true
      ∧ bay.account 40017 = some (accountWith (.litres 12000) 0) ∧ bay.account 1 = none
      ∧ bay.accounts.length < 16
      ∧ 16 ≤ { bay with accounts := List.replicate 16 (accountWith .unlimited 0) }.accounts.length
      ∧ { bay with accounts := List.replicate 16 (accountWith .unlimited 0) }.account 1 = none := by
  decide +kernel

theorem witness_GrantFitsAllocationAndRoom :
    allocationCheck (some (accountWith (.litres 12000) 11120)) 2 .standard 2000 8000 = .ok 880
      ∧ allocationCheck (some (accountWith (.litres 12000) 0)) 2 .gross 100 100 = .ok 100 := by
  decide +kernel

theorem witness_AllocationChecks :
    let a := accountWith (.litres 12000) 11120
    let poor := accountWith (.litres 12000) 11901
    { a with hold := true }.hold = true ∧ a.hold = false
      ∧ (a.classes.get 2).remaining = .litres 12000 ∧ (a.classes.get 2).reserved = 11120
      ∧ allocationBound .standard 2000 (some (12000 - 11120)) = 880
      ∧ min 2000 (880 : Int).toNat = 880 ∧ min 2000 (99 : Int).toNat = 99
      ∧ min 2000 (-1 : Int).toNat = 0
      ∧ (poor.classes.get 2).reserved = 11901
      ∧ allocationBound .standard 2000 (some (12000 - 11901)) = 99 ∧ 99 < min 2000 (880 : Int).toNat
      ∧ allocationBound .gross 100 (some 102) = 100
      ∧ ((accountWith .unlimited 500).classes.get 2).remaining = .unlimited := by decide +kernel

theorem witness_ChargeKeepsReservedCovered :
    (accountWith (.litres 7300) 7000).classes.get 2 = { remaining := .litres 7300, reserved := 7000 }
      ∧ 7000 ≤ 7300 ∧ 6120 ≤ 7000 := by decide

theorem witness_PlanArmsAndReserves :
    (takesAll loaded 0x32 [1, 2, 1, 2]
        [[1, 21, 1, 3000], [8, 21, 1, 3000], [1, 21, 0, 3000], [1, 21, 5, 3000], [9, 21, 1, 3000],
         [1, 0, 1, 3000], [1, 21, 1, 99], [1, 21, 4, 20001]]
      && takes bay 0x32 [1, 2, 1, 2] [1, 21, 4, 100]
      && takes (stopped loaded) 0x32 [1, 2, 1, 2] [1, 21, 4, 20000]) = true
      ∧ planInRange 1 21 3000 = true ∧ planInRange 8 65535 20000 = true ∧ planInRange 1 1 100 = true
      ∧ planInRange 9 21 3000 = false ∧ planInRange 1 21 99 = false
      ∧ loaded.load.state = .opened ∧ loaded.load.record = some openRecord
      ∧ planGrant loaded openRecord 0 1 21 3000 = .ok (3000, product)
      ∧ planGrant loaded openRecord 0 8 21 3000 = .error (.refused .badValue) := by decide +kernel

/-- A state and a record for each of the nine checks, in their order, that pass the ones before it. -/
theorem witness_PlanChecks :
    let line := lineOf (entry .active) product .complete 0 (batchArm .closing)
    let full := { openRecord with lines := List.replicate 8 { line with compartment := 2 } }
    let busy := { openRecord with plan := [{ entry .armed with arm := 1 }] }
    ((withBatch .armed).arm 0).control.state ≠ .idle ∧ (loaded.arm 0).control.state = .idle
      ∧ (loaded.vehicle openRecord.vehicle).bind (·.compartment 7) = none
      ∧ (loaded.vehicle openRecord.vehicle).bind (·.compartment 1)
          = some { capacity := 8000, classes := 0xFF }
      ∧ loaded.recipe 1 = none ∧ loaded.recipe 21 = some recipe21
      ∧ (loaded.arm 2).config.map (·.product) ≠ some recipe21.product
      ∧ loaded.plumbed recipe21 2 = false ∧ loaded.plumbed recipe21 0 = true
      ∧ (loaded.arm 0).config.map (·.product) = some recipe21.product
      ∧ loaded.products.get recipe21.product = some product
      ∧ { openRecord with classes := 0xFB }.classes.getLsbD product.productClass.val = false
      ∧ openRecord.classes.getLsbD product.productClass.val = true
      ∧ ({ capacity := 8000, classes := 0xFB } : Compartment).classes.getLsbD
          product.productClass.val = false
      ∧ (let k : Compartment := { capacity := 8000, classes := 0xFF }
         let check (s : State) (r : OpenLoad) := allocationCheck (s.account r.account)
           product.productClass product.basis 3000 (roomOf k 1 r)
         k.classes.getLsbD product.productClass.val = true
           ∧ check { loaded with accounts := [] } openRecord = .error .noAllocation
           ∧ check loaded openRecord = .ok 3000
           ∧ check loaded full = .ok 3000 ∧ 8 ≤ full.plan.length + full.lines.length
           ∧ check loaded busy = .ok 3000 ∧ busy.plan.length + busy.lines.length < 8)
      ∧ (∃ e ∈ busy.plan, e.compartment = 1) ∧ (∀ e ∈ openRecord.plan, e.compartment ≠ 1) := by
  decide +kernel

theorem witness_EndLoadSealsOrStopsTheArms :
    ([bay, referred, waiting, loaded, { loaded with load.state := .ending }].all
        (takesEach · 0x33 1 [0, 1, 2, 3])) = true
      ∧ endLoadCauseOf 0 = none ∧ endLoadCauseOf 3 = none ∧ endLoadCauseOf 1 = some .driver
      ∧ endLoadCauseOf 2 = some .host ∧ openRecord.plan = [] := by decide +kernel

/-- A batch in a state meets the premises of the statement's second part. -/
theorem witness_EndLoadWithAPlan :
    [ArmState.armed, .trim, .held, .closing].all (fun st =>
      let s := withBatch st
      s.load.state = .opened && s.load.record.isSome && !s.permit.referral.pendingCard.isSome
        && (s.arm 0).control.state == st && !(s.arm 0).inRun && (s.arm 1).control.state == .idle)
      = true := by decide +kernel

/-- The premises of the statement's second part, with an arm that flows. -/
theorem witness_EndLoadStopsAFlowingArm :
    LoadStateSound (withBatch .trim) ∧ PlanSound (withBatch .trim)
      ∧ ((withBatch .trim).arm 0).flowing = true := by
  refine ⟨by unfold LoadStateSound; decide +kernel, ⟨by decide +kernel, by decide +kernel,
    by decide +kernel, fun e he => ?_, by decide +kernel⟩, by decide +kernel⟩
  obtain rfl : e = entry .active := List.mem_singleton.mp he
  exact ⟨by decide +kernel, (by decide +kernel : ((withBatch .trim).arm 0).beyondArmed = true),
    by decide +kernel⟩

/-- The premises of END LOAD with a plan: an arm that flows, one that is HELD, one in CLOSING and one
that is ARMED, each with its entry. -/
theorem witness_EndLoadMeetsEachArm :
    [ArmState.armed, .trim, .held, .closing].all (fun st =>
        let s := withBatch st
        let e := entry (if st = .armed then .armed else .active)
        takes s 0x33 [1] [2] && s.load.record == some { openRecord with plan := [e] }
          && s.plan == [e] && (s.arm 0).control.state == st) = true
      ∧ (∃ e ∈ [entry .active], e.state = .active) ∧ (∀ e ∈ [entry .armed], e.state = .armed) := by
  decide +kernel

theorem witness_EndLoadCancelsAnArmedArm :
    LoadStateSound (withBatch .armed) ∧ PlanSound (withBatch .armed)
      ∧ ((withBatch .armed).arm 0).control.state = .armed := by
  refine ⟨by unfold LoadStateSound; decide +kernel, ⟨by decide +kernel, by decide +kernel,
    by decide +kernel, fun e he => ?_, by decide +kernel⟩, by decide +kernel⟩
  obtain rfl : e = entry .armed := List.mem_singleton.mp he
  exact ⟨by decide +kernel,
    (by decide +kernel : ((withBatch .armed).arm 0).control.state = .armed), by decide +kernel⟩

theorem witness_IdleTimerSealsTheLoad :
    loaded.running = true ∧ loaded.load.idleTimer.running = true ∧ loaded.load.state = .opened
      ∧ loaded.load.record = some openRecord ∧ openRecord.plan = [] := by decide +kernel

theorem witness_ReadsAlterNoRecord :
    let s := { loaded with store.notes := [noteOf 3000 8] }
    (takesEach s 0x12 5 [1, 255, 2 ^ 40 - 1] && takesEach s 0x15 4 [1, 4711, 999999]
      && takesEach s 0x22 4 [1, 40017] && takesEmpty s 0x34 && takesEach s 0x44 1 [1, 4]
      && takesEach s 0x43 1 [1, 4] && takesEmpty s 0x50 && takesEach s 0x62 1 [1, 6]
      && takesEach s 0x70 1 [0, 8]) = true
      ∧ (s.driver 255).isSome = true ∧ (s.vehicle 4711).isSome = true
      ∧ (s.account 40017).isSome = true ∧ s.store.notes = noteOf 3000 8 :: []
      ∧ ((noteOf 3000 8).section 0).isSome = true ∧ ((noteOf 3000 8).section 8).isSome = true
      ∧ s.driver 1 = none ∧ s.vehicle 999999 = none ∧ s.account 1 = none := by decide +kernel

theorem witness_ReleaseTakesTheOldestNote :
    let s := { bay with store.notes := [noteOf 7 1, noteOf 8 0], store.next := 9 }
    (takesEach s 0x71 4 [0, 1, 7] && takesEach s 0x70 1 [2, 8, 9] && takesEach bay 0x71 4 [1]
      && takesEach bay 0x70 1 [0, 8]) = true
      ∧ s.store.notes = noteOf 7 1 :: [noteOf 8 0] ∧ (noteOf 7 1).number = 7
      ∧ (noteOf 7 1).lines.length < 2 ∧ bay.store.notes = [] := by decide +kernel

/-- Arm 1 of a state with pulses counted since its last sample. -/
def pulsed (pulses : Nat) (s : State) : State :=
  { s with
    arms := s.arms.set 0
      { s.arm 0 with channel.pulsesA := pulses, channel.pulsesB := pulses } }

theorem witness_MeterPulsesAreCounted :
    bay.running = true ∧ (bay.arm 0).config = some settings ∧ settings.singleChannel = false
      ∧ (bay.arm 1).config = none
      ∧ { settings with singleChannel := true }.singleChannel = true := by decide +kernel

theorem witness_SampleAtRestMetersUnbatched :
    let s := pulsed 1000 bay
    let ch := (settleTemperature product (some 2000) (s.arm 0).channel).1
    s.running = true ∧ (s.arm 0).config = some settings
      ∧ s.products.get settings.product = some product
      ∧ (s.arm 0).control.state = .idle ∧ (s.arm 0).inRun = false
      ∧ settleTemperature product (some 2000) (s.arm 0).channel = (ch, 2000)
      ∧ 1000 * 10000 * 100 + 0 < 2 ^ 64 ∧ 0 + 2222 < 2 ^ 64 := by decide +kernel

theorem witness_SampleAdvancesTheFigures :
    let s := pulsed 1000 (withBatch .fullFlow)
    s.running = true ∧ (s.arm 0).config = some settings
      ∧ s.products.get settings.product = some product ∧ (s.arm 0).beyondArmed = true
      ∧ (s.arm 0).inRun = false ∧ ((pulsed 1000 (inRun .trim)).arm 0).inRun = true
      ∧ (s.arm 0).figures.gross + 2222 < 2 ^ 31
      ∧ (s.arm 0).figures.sumTV + 2000 * 2222 < 2 ^ 63 := by decide +kernel

/-- Readings at both ends of the limits and outside them, and last valid temperatures of every age. -/
theorem witness_SampleSettlesTemperature :
    let aged (since : Nat) (last : Option Int) : State :=
      { withBatch .fullFlow with
        arms := (withBatch .fullFlow).arms.set 0
          { batchArm .fullFlow with channel.lastValid := last, channel.sinceValid := since } }
    validReading product (some 6000) = some 6000 ∧ validReading product (some 6001) = none
      ∧ validReading product none = none
      ∧ [aged 9900 (some 2000), aged 9901 (some 2000), aged 0 none].all (fun s =>
          s.running && (s.arm 0).config == some settings && (s.arm 0).beyondArmed) = true
      ∧ ((aged 9900 (some 2000)).arm 0).channel.sinceValid + 100 ≤ 10000
      ∧ 10000 < ((aged 9901 (some 2000)).arm 0).channel.sinceValid + 100
      ∧ ((aged 0 none).arm 0).channel.lastValid = none := by decide +kernel

theorem witness_SampleLeavesOtherArms :
    ran (.sample 0 (some 2000)) (pulsed 1000 (withBatch .fullFlow)) = true := by decide +kernel

theorem witness_MeterFactorFollowsTheCurve :
    ascending ([⟨400, 10020⟩, ⟨2400, 10009⟩] ++ [⟨4000, 10001⟩]) = true
      ∧ ascending ([] ++ ⟨400, 10020⟩ :: ⟨2400, 10009⟩ :: []) = true
      ∧ curveValid [⟨400, 9000⟩, ⟨2400, 11000⟩] = true := by decide +kernel

theorem witness_StageArithmetic :
    readingValid product (-2000) = true ∧ readingValid product 6000 = true
      ∧ validReading product (some 6001) = none ∧ validReading product none = none
      ∧ MeterChannel.cleared.lastValid = none ∧ 9900 + 100 ≤ 10000 ∧ 10000 < 9901 + 100
      ∧ ctlLimited 90000 = false ∧ ctlLimited 89999 = true ∧ ctlLimited 110001 = true := by
  decide +kernel

/-- An arm in FULL_FLOW whose channels are apart, and one whose thirtieth fast sample is due. -/
def apart : State :=
  { withBatch .fullFlow with
    arms := (withBatch .fullFlow).arms.set 0
      { batchArm .fullFlow with figures.aTotal := 111 } }

def fast : State :=
  { withBatch .fullFlow with
    arms := (withBatch .fullFlow).arms.set 0
      { batchArm .fullFlow with
        channel.overspeedCount := 29, channel.window := List.replicate 10 6000 } }

theorem witness_MeterFaultHoldsAndIsCaptured :
    takesEmpty bay 0x45 = true ∧ bay.capture = none
      ∧ (let a := ((apart.arm 0).engine settings product none).1
         (apart.arm 0).flowing = true ∧ settings.integrityLimit < discrepancy a.figures
           ∧ overspeedCountWith settings a.channel.rate (apart.arm 0).channel.overspeedCount = 0)
      ∧ (let a := ((fast.arm 0).engine settings product none).1
         (fast.arm 0).flowing = true ∧ discrepancy a.figures = 0
           ∧ overspeedCountWith settings a.channel.rate (fast.arm 0).channel.overspeedCount = 30)
      := by decide +kernel

/-- Channels apart at the thirtieth fast sample, and apart in CLOSING. -/
theorem witness_FaultWithOverspeedAndInClosing :
    let both := { fast with arms := fast.arms.set 0 { fast.arm 0 with figures.aTotal := 111 } }
    let closing :=
      { withBatch .closing with
        arms := (withBatch .closing).arms.set 0
          { batchArm .closing with figures.aTotal := 111 } }
    (let a := ((both.arm 0).engine settings product none).1
     (both.arm 0).flowing = true ∧ settings.singleChannel = false
       ∧ (both.arm 0).channel.integrityArmed = true ∧ settings.integrityLimit < discrepancy a.figures
       ∧ 30 ≤ overspeedCountWith settings a.channel.rate (both.arm 0).channel.overspeedCount)
      ∧ (let a := ((closing.arm 0).engine settings product none).1
         (closing.arm 0).control.state = .closing ∧ (closing.arm 0).channel.integrityArmed = true
           ∧ settings.integrityLimit < discrepancy a.figures ∧ closing.port.events.length < 32) := by
  decide +kernel

theorem witness_MeteringConfigurationIsWritten :
    (takesAll bay 0x40 productSizes [1 :: productFields, 8 :: productFields]
      && takesAll (withBatch .armed) 0x40 productSizes [1 :: productFields]
      && takesAll bay 0x41 armSizes [1 :: armSettings, 4 :: armSettings]
      && takesAll (withBatch .armed) 0x41 armSizes [1 :: armSettings]
      && takesAll bay 0x42 [1, 1, 2, 2] [[1, 1, 1800, 10012], [4, 1, 6001, 10012]]
      && takesAll (withBatch .trim) 0x42 [1, 1, 2, 2] [[1, 1, 1800, 10012]]
      && takesAll bay 0x42 [1, 1, 2, 2, 2, 2, 2, 2, 2, 2]
        [[4, 4, 400, 10000, 800, 10000, 1200, 10000, 1600, 10000]]) = true
      ∧ productOf 111 2 1500 12000 1152 63536 6000 1500 1 = some product
      ∧ productOf 0 2 1500 12000 1152 63536 6000 1500 1 = none
      ∧ bay.productInUse 0 = false ∧ (withBatch .armed).productInUse 0 = true
      ∧ (bay.products.get 0).map (·.code) = some 111
      ∧ curveValid [⟨1800, 10012⟩] = true ∧ curveValid [⟨6001, 10012⟩] = false
      ∧ curveValid [⟨6000, 9000⟩] = true
      ∧ (bay.arm 0).beyondArmed = false ∧ ((withBatch .trim).arm 0).beyondArmed = true
      ∧ armConfigOf 1 450000 0 400 2400 200 300 3000 30 3 20 10000 10 = some settings
      ∧ armConfigOf 1 999 0 400 2400 200 300 3000 30 3 20 10000 10 = none
      ∧ (bay.arm 0).control.state = .idle ∧ ((withBatch .armed).arm 0).control.state ≠ .idle
      ∧ (bay.products.get 0).isSome = true ∧ bay.products.get 7 = none := by decide +kernel

/-- The entries of the field lists, with the coded values at both ends. -/
theorem witness_FieldRanges :
    (productOf 111 7 2000 30000 5000 61536 8000 61536 0).isSome = true
      ∧ productOf 111 8 1500 12000 1152 63536 6000 1500 1 = none
      ∧ signedOf 2 32767 = 32767 ∧ signedOf 2 32768 = -32768
      ∧ injectorConfigOf 77 5000 20 1000 10 0 1 2 0 1 0xFFFF
          = some { injector3 with
              faultLimit := 3, injectorClass := .optional, firstArm := 1, secondArm := none
              scheme := .fixed, creepLimit := 20 }
      ∧ (armConfigOf 8 100000000 1 50 5000 2000 50 6000 120 15 50000 200000 100).isSome = true := by
  decide +kernel

theorem witness_StartArmStartsTheBatch :
    (takesEach (withBatch .armed) 0x48 1 [1, 4] && takesEach (stopped (withBatch .armed)) 0x48 1 [1])
        = true
      ∧ ((withBatch .armed).arm 0).control.state = .armed
      ∧ ((withBatch .armed).arm 3).control.state ≠ .armed
      ∧ ((withBatch .armed).arm 0).control.binding = some binding
      ∧ ((withBatch .armed).arm 0).config = some settings
      ∧ startRefusal (withBatch .armed) 0 binding = none
      ∧ startRefusal (stopped (withBatch .armed)) 0 binding = some (.refused .rackStopped)
      ∧ (bay.monitor.stow.get 0).accepted = 1 ∧ (State.reset.monitor.stow.get 0).accepted ≠ 1
      ∧ (bay.monitor.coupler.get 0).accepted = 1 ∧ (bay.monitor.coupler.get 1).accepted ≠ 1
      ∧ bay.recipe 21 = some recipe21 ∧ bay.injectorsReady 21 = true
      ∧ (withInjector .faulted bay).injectorsReady 21 = false := by decide +kernel

/-- Arm 2 beyond IDLE at compartment 1. -/
theorem witness_CompartmentBusy :
    let s := { withBatch .armed with arms := (withBatch .armed).arms.set 1 (batchArm .trim) }
    (s.arm 1).control.state ≠ .idle
      ∧ (s.arm 1).control.binding.map (·.compartment) = some binding.compartment := by
  decide +kernel

theorem witness_StopArmClosesOrCancels :
    ([ArmState.armed, .starting, .held, .closing].all fun st =>
        takesEach (withBatch st) 0x49 1 [1, 4]) = true
      ∧ ((withBatch .starting).arm 0).flowing = true ∧ ((inRun .starting).arm 0).flowing = true
      ∧ ((withBatch .held).arm 0).control.state = .held
      ∧ ((withBatch .closing).arm 0).control.state = .closing
      ∧ ((withBatch .closing).arm 3).control.state = .idle
      ∧ ((withBatch .armed).load.record.map (·.plan)) = some [entry .armed]
      ∧ [entry .armed].find? (fun x => x.arm == 0) = some (entry .armed)
      ∧ (entry .armed).state = .armed ∧ (withBatch .armed).recipeProduct 21 = some product := by
  decide +kernel

/-- Arm 1 HELD for a cause, with resumes taken. -/
def heldFor (cause : HoldCause) (resumes : Nat) (s : State) : State :=
  { s with
    arms := s.arms.set 0
      { s.arm 0 with control.holdCause := some cause, control.resumeCount := resumes } }

theorem witness_ResumeArmRestartsOrAborts :
    let cleared := heldFor .noFlow 2 (withBatch .held)
    let atLimit := heldFor .noFlow 3 (withBatch .held)
    let lost := heldFor .permissive 0 (stopped (withBatch .held))
    let refused := heldFor .noFlow 0 (stopped (withBatch .held))
    ([cleared, atLimit, lost, refused, withBatch .trim].all (takesEach · 0x4A 1 [1, 4])) = true
      ∧ (cleared.arm 0).control.state = .held ∧ (cleared.arm 3).control.state ≠ .held
      ∧ (cleared.arm 0).config = some settings ∧ holdCleared lost 0 = false
      ∧ holdCleared cleared 0 = true ∧ holdCleared atLimit 0 = true
      ∧ (atLimit.arm 0).control.resumeCount = settings.resumeLimit
      ∧ (cleared.arm 0).control.resumeCount ≠ settings.resumeLimit
      ∧ resumeRefusal cleared 0 = none ∧ holdCleared refused 0 = true
      ∧ resumeRefusal refused 0 = some (.denied .permissive)
      ∧ ((inRun .held).arm 0).inRun = true ∧ resumeRefusal (inRun .held) 0 = none := by
  decide +kernel

/-- RESUME ARM equals the B total to the A total (R92), and not on a single-channel arm (R90). -/
theorem test_resume_aligns_two_channels_alone :
    [false, true].map (fun single =>
        let s := heldFor .noFlow 0 (withBatch .held)
        let t := { s with
          arms := s.arms.set 0
            { s.arm 0 with
              config := some { settings with singleChannel := single }, figures.aTotal := 5 } }
        ((after (.resumeArm (.host (frame 0x4A (fields [1] [1])))) t).arm 0).figures.bTotal)
      = [5, 0] := by decide +kernel

/-- A HELD batch whose injector is FAULTED, and a HELD single-channel arm. -/
theorem witness_ResumeAfterAdditiveFault :
    let faulted := withInjector .faulted (heldFor .additiveFault 0 (withBatch .held))
    let cleared := heldFor .additiveFault 0 (withBatch .held)
    let single :=
      { cleared with
        arms := cleared.arms.set 0
          { cleared.arm 0 with config := some { settings with singleChannel := true } } }
    (faulted.arm 0).control.holdCause = some .additiveFault
      ∧ (faulted.arm 0).control.binding = some binding ∧ faulted.recipe 21 = some recipe21
      ∧ holdCleared faulted 0 = false ∧ holdCleared cleared 0 = true
      ∧ ((withBatch .held).arm 0).control.holdCause = none
      ∧ (let s := withInjector .faulted (heldFor .noFlow 0 (withBatch .held))
         s.monitor.permissiveOk = true ∧ (s.monitor.stow.get 0).accepted = 1
           ∧ (s.monitor.coupler.get 0).accepted = (s.arm 0).wantedCode ∧ (s.arm 0).inRun = false
           ∧ s.injectorsReady 21 = false ∧ cleared.injectorsReady 21 = true)
      ∧ ((inRun .held).monitor.coupler.get 0).accepted = ((inRun .held).arm 0).wantedCode
      ∧ (single.arm 0).control.state = .held ∧ holdCleared single 0 = true
      ∧ resumeRefusal single 0 = none ∧ takesEach single 0x4A 1 [1] = true
      ∧ (single.arm 0).control.resumeCount ≠ settings.resumeLimit := by decide +kernel

/-- Arm 1 in a flowing state with its gross and standard volume. -/
def flowingAt (st : ArmState) (gross standard : Nat) : Arm :=
  { batchArm st with figures.gross := gross, figures.standard := standard }

theorem witness_CloseTestAndStages :
    (flowingAt .trim 3000000 3000000).remaining ≤ (flowingAt .trim 3000000 3000000).closeLead
      ∧ ¬(flowingAt .trim 2999999 2999999).remaining ≤ (flowingAt .trim 2999999 2999999).closeLead
      ∧ (coldArm 5917000 6094510).allocationMargin.isSome = true
      ∧ ((inRun .trim).arm 0).run.isSome = true ∧ ((inRun .trim).arm 0).allocationMargin = none
      ∧ (batchArm .trim).run = none ∧ (batchArm .trim).control.binding = some binding
      ∧ binding.basis = .standard ∧ binding.reservation = binding.preset
      ∧ (flowingAt .starting 199999 0).figures.gross < 0 + settings.startVolume * 1000
      ∧ 0 + settings.startVolume * 1000 ≤ (flowingAt .starting 200000 0).figures.gross
      ∧ (flowingAt .fullFlow 2700000 2700000).remaining ≤ slowdownThreshold settings 0
      ∧ ¬(flowingAt .fullFlow 2699999 2699999).remaining ≤ slowdownThreshold settings 0 := by
  decide +kernel

/-- Owed counts on both sides of the flag's two limits. -/
theorem witness_DebtFlag :
    (∃ x ∈ [0, 3], 2 < x) ∧ (∀ x ∈ [0, 1, 1], x ≤ 1)
      ∧ (∀ x ∈ [1, 2], x ≤ 2) ∧ (∃ x ∈ [1, 2], 1 < x) := by decide

theorem witness_FlowingSampleClosesOrRegulates :
    let closes :=
      { withBatch .trim with
        arms := (withBatch .trim).arms.set 0 (flowingAt .trim 3010000 3010000) }
    let regulates := pulsed 1000 (withBatch .fullFlow)
    ([closes, regulates].all fun s =>
        s.running && (s.arm 0).config == some settings && (s.arm 0).flowing
          && s.products.get settings.product == some product
          && ((s.arm 0).engine settings product (some 2000)).2.fault.isNone
          && !((s.arm 0).engine settings product (some 2000)).2.overspeed) = true
      ∧ ((closes.arm 0).engine settings product (some 2000)).1.closeTest = some .complete
      ∧ ((regulates.arm 0).engine settings product (some 2000)).1.closeTest = none := by
  decide +kernel

/-- A meter run and a batch that a sample regulates. -/
theorem witness_FlowingSampleOfARun :
    let s := pulsed 1000 (inRun .fullFlow)
    s.running = true ∧ (s.arm 0).config = some settings ∧ (s.arm 0).flowing = true
      ∧ (s.arm 0).inRun = true ∧ s.products.get settings.product = some product
      ∧ ((s.arm 0).engine settings product (some 2000)).2.fault = none
      ∧ ((s.arm 0).engine settings product (some 2000)).2.overspeed = false
      ∧ ((s.arm 0).engine settings product (some 2000)).1.closeTest = none
      ∧ ((pulsed 1000 (withBatch .fullFlow)).arm 0).inRun = false := by decide +kernel

/-- Arm 1 in CLOSING with a settle count. -/
def settled (n : Nat) : State :=
  { withBatch .closing with
    arms := (withBatch .closing).arms.set 0
      { batchArm .closing with
        control.settle := n, control.outcome := some .complete
        control.closingTimer := .start 60000 } }

theorem witness_ClosingSampleEndsTheBatch :
    ([18, 19].all fun n =>
        let s := settled n
        s.running && (s.arm 0).config == some settings && !(s.arm 0).inRun
          && (s.arm 0).control.state == .closing && (s.arm 0).channel.pulsesA == 0
          && !(s.arm 0).control.closingTimer.done && !additivesPending s 0) = true
      ∧ min 20 (((settled 19).arm 0).control.settle + 1) = 20
      ∧ min 20 (((settled 18).arm 0).control.settle + 1) ≠ 20
      ∧ (settled 19).load.record = some { openRecord with plan := [entry .active] }
      ∧ [entry .active].find? (fun x => x.arm == 0) = some (entry .active)
      ∧ (settled 19).recipeProduct 21 = some product ∧ (settled 19).load.state = .opened
      ∧ (entry .active).arm = 0 := by decide +kernel

/-- The end of a batch in OPEN and in ENDING, with entries left and with none. -/
theorem witness_BatchEndsInOpenAndEnding :
    let s := settled 19
    let others := { openRecord with
      plan := [entry .active, { entry .armed with arm := 1, compartment := 2 }] }
    let ending := { openRecord with plan := [entry .active], endCause := some .host }
    (s.arm 0).control.outcome = some .complete ∧ s.load.state = .opened
      ∧ [entry .active].filter (·.arm ≠ 0) = []
      ∧ others.plan.find? (fun x => x.arm == 0) = some (entry .active)
      ∧ others.plan.filter (·.arm ≠ 0) ≠ []
      ∧ [others, ending].all (fun r =>
          let t := { s with load.state := .ending, load.record := some r }
          t.load.state == .ending && t.recipeProduct 21 == some product
            && !additivesPending t 0 && (t.arm 0).control.state == .closing) = true
      ∧ ending.endCause = some .host
      ∧ (let a := ((s.arm 0).engine settings product (some 2000)).1
         a.totals.standard + a.figures.standard < 2 ^ 64) := by decide +kernel

theorem witness_ArmTimersAndOverrun :
    ((withBatch .trim).arm 0).flowing = true
      ∧ ((settled 0).arm 0).control.closingTimer.running = true
      ∧ (Timer.start 30000).running = true ∧ (bay.arm 0).control.noFlowTimer.running = false
      ∧ (bay.arm 0).trailingTimer.running = false
      ∧ (24000 : Int) + ((3006300 : Int) - 2977500 - 24000).tdiv 4 = 25200
      ∧ (10000 : Int) < (3017200 : Int) - (3000 : Int) * 1000 := by decide +kernel

/-- Arm 1 in a meter run in CLOSING, with a settle count and an outcome. -/
def runSettled (n : Nat) (outcome : BatchOutcome) : State :=
  { inRun .closing with
    arms := (inRun .closing).arms.set 0
      { (inRun .closing).arm 0 with
        control.settle := n, control.outcome := some outcome
        control.closingTimer := .start 60000, figures.gross := 3006800 } }

theorem witness_RunEndsByASample :
    [BatchOutcome.complete, .stopped].all (fun o => [18, 19].all fun n =>
        let s := runSettled n o
        s.running && (s.arm 0).config == some settings && (s.arm 0).control.state == .closing
          && (s.arm 0).run.isSome && (s.arm 0).channel.pulsesA == 0
          && s.products.get settings.product == some product
          && (s.arm 0).control.outcome == some o
          && (min 20 ((s.arm 0).control.settle + 1) == 20) == (n == 19)) = true
      ∧ 0 < 79500 ∧ max 1 (3006800 * 60 / 79500) < 65536
      ∧ ((runSettled 19 .stopped).arm 0).control.outcome ≠ some .complete
      ∧ (bay.arm 0).control.closingTimer.running = false := by decide +kernel

theorem witness_InputsAreDebounced :
    let changed := after (.rawInputChange .ground 0) bay
    bay.running = true ∧ rawValue .ground 0 ≠ rawValue .ground (bay.monitor.input .ground).levels
      ∧ rawValue .ground 0 ≠ (bay.monitor.input .ground).accepted
      ∧ (changed.monitor.input .ground).candidate = some 0
      ∧ (changed.monitor.input .ground).window.running = true
      ∧ rawValue .ground 1 ≠ rawValue .ground (changed.monitor.input .ground).levels
      ∧ rawValue .ground 1 = (changed.monitor.input .ground).accepted
      ∧ (bay.monitor.input .ground).window.running = false ∧ Input.vapour ≠ .ground := by
  decide +kernel

theorem witness_PermissiveLossHoldsTheArms :
    bayPermissiveOf bay.monitor bay.bay.vapourRequired = true ∧ bay.monitor.permissiveOk = true
      ∧ (let s := { withBatch .trim with monitor.ground := .at 0 0 }
         s.monitor.permissiveOk = true
           ∧ bayPermissiveOf s.monitor s.bay.vapourRequired = false ∧ (s.arm 0).flowing = true
           ∧ (s.arm 1).beyondArmed = false)
      ∧ ((withBatch .closing).arm 0).control.state = .closing
      ∧ ((withBatch .held).arm 0).control.state = .held
      ∧ (let s := { bay with monitor.permissiveOk := false }
         s.monitor.permissiveOk = false
           ∧ bayPermissiveOf s.monitor s.bay.vapourRequired = true)
      ∧ takesAll bay 0x46 [2, 1]
        [[0, 0], [200, 1], [20000, 1], [199, 0], [1, 0], [20001, 0], [0, 2]] = true := by
  decide +kernel

/-- CLEAR RACK STOP with the latch set and the stop released. -/
theorem witness_RackStopIsCleared :
    let s := { stopped bay with monitor.estop := .at 0 0 }
    takesEmpty s 0x51 = true ∧ s.monitor.rackStop = true ∧ s.monitor.estop.accepted = 0 := by
  decide +kernel

theorem witness_CouplerLossHoldsTheArm :
    (bay.monitor.coupler.get 0).accepted ≠ (bay.arm 0).wantedCode
      ∧ ((withBatch .trim).monitor.coupler.get 0).accepted = ((withBatch .trim).arm 0).wantedCode
      ∧ (bay.monitor.stow.get 0).accepted = 1 ∧ (State.reset.monitor.stow.get 0).accepted ≠ 1
      ∧ ((withBatch .trim).arm 0).flowing = true ∧ ((inRun .trim).arm 0).flowing = true
      ∧ ((withBatch .closing).arm 0).control.state = .closing
      ∧ ((withBatch .held).arm 0).flowing = false
      ∧ ((withBatch .trim).arm 0).control.binding = some binding := by decide +kernel

theorem witness_RackStopAbortsTheBayUntilCleared :
    (withBatch .trim).monitor.rackStop = false
      ∧ (∀ i, ((withBatch .trim).injector i).config = none →
          ((withBatch .trim).injector i).state = .idle)
      ∧ ((withBatch .trim).arm 0).beyondArmed = true ∧ ((withBatch .trim).arm 1).beyondArmed = false
      ∧ takesEmpty bay 0x51 = true ∧ takesEmpty (stopped bay) 0x51 = true
      ∧ (stopped bay).monitor.rackStop = true ∧ (stopped bay).monitor.estop.accepted = 0
      ∧ ({ stopped bay with monitor.estop := .at 0 1 } : State).monitor.estop.accepted ≠ 0 := by
  decide +kernel

theorem witness_InjectorsAndRecipesAreWritten :
    ([1, 3, 6].all (fun n => takes bay 0x60 injectorSizes (n :: injectorSettings))
      && takesAll (withBatch .trim) 0x60 injectorSizes [3 :: injectorSettings]
      && takesEach bay 0x63 1 [1, 3, 6] && takesEach (withInjector .faulted bay) 0x63 1 [3]
      && takesAll bay 0x61 [2, 1, 1, 1, 2]
        [[21, 1, 1, 3, 2000], [1, 1, 1, 3, 2000], [1, 8, 1, 3, 2000], [1, 1, 1, 3, 4001],
         [0, 1, 1, 3, 2000]]
      && takesAll (withBatch .armed) 0x61 [2, 1, 1, 1, 2] [[21, 1, 1, 3, 2000]]
      && takesAll bay 0x61 [2, 1, 1, 1, 2, 1, 2, 1, 2] [[9, 1, 3, 3, 2000, 3, 2000, 3, 2000]])
        = true
      ∧ injectorConfigOf 77 5000 20 1000 10 3 0 1 2 0 20 = some injector3
      ∧ injectorConfigOf 77 99 20 1000 10 3 0 1 2 0 20 = none
      ∧ bay.injectorInUse 2 = false ∧ (withBatch .trim).injectorInUse 2 = true
      ∧ 9 * 1000000 / 2000 < 5000 ∧ 5000 ≤ 10 * 1000000 / 2000
      ∧ (bay.injector 0).config = none ∧ (bay.injector 2).state ≠ .faulted
      ∧ ((withInjector .faulted bay).injector 2).state = .faulted
      ∧ recipeOf 21 1 [(3, 2000)] = some recipe21 ∧ recipeOf 0 1 [(3, 2000)] = none
      ∧ bay.recipeFound recipe21 = true ∧ bay.recipeFound { recipe21 with product := 7 } = false
      ∧ bay.cyclesLongEnough recipe21 = true
      ∧ bay.cyclesLongEnough { recipe21 with components := [⟨2, 4001⟩] } = false
      ∧ (bay.recipe 21).isSome = true ∧ bay.recipeInUse 21 = false
      ∧ (withBatch .armed).recipeInUse 21 = true ∧ bay.recipe 1 = none ∧ bay.recipes.length < 16
      ∧ { bay with recipes := List.replicate 16 recipe21 }.recipe 1 = none := by decide +kernel

/-- The ranges' ends of PUT RECIPE. -/
theorem witness_RecipeFields :
    (recipeOf 65535 8 [(1, 10), (6, 5000)]).isSome = true ∧ recipeOf 1 9 [(1, 10)] = none
      ∧ recipeOf 1 1 [(7, 10)] = none ∧ recipeOf 1 1 [(1, 9)] = none
      ∧ recipeOf 1 1 [(1, 5001)] = none ∧ recipeOf 1 1 [(1, 10), (1, 20)] = none := by
  decide +kernel

theorem witness_AdditivePulsesFollowTheState :
    bay.running = true ∧ (bay.injector 0).config = none
      ∧ (bay.injector 2).config = some injector3 ∧ (bay.injector 2).state = .idle
      ∧ (shotOf .opened 99).target ≤ (shotOf .opened 99).pulses + 1
      ∧ (shotOf .opened 98).pulses + 1 < (shotOf .opened 98).target
      ∧ (proveShotOf .opened 99).target ≤ (proveShotOf .opened 99).pulses + 1
      ∧ (proveShotOf .opened 98).pulses + 1 < (proveShotOf .opened 98).target
      ∧ (shotOf .tail 100).phase = .tail ∧ (proveShotOf .tail 100).phase = .tail
      ∧ { injector3 with creepLimit := 0 }.creepLimit = 0
      ∧ 0 < injector3.creepLimit ∧ 19 + 1 ≤ injector3.creepLimit ∧ injector3.creepLimit < 20 + 1
      ∧ (20 + 1) * 1000 / injector3.meterK < 2 ^ 32
      ∧ (bay.arm 0).uses 2 = false ∧ ((withBatch .trim).arm 0).uses 2 = true := by decide +kernel

theorem witness_ShotsAreJudged :
    let s (p : ShotPhase) (n : Nat) := withInjector (.shot (shotOf p n)) (withBatch .trim)
    (s .tail 100).running = true ∧ ((s .tail 100).injector 2).config = some injector3
      ∧ ((s .tail 100).injector 2).state = .shot (shotOf .tail 100)
      ∧ (shotOf .tail 0).timer.running = true ∧ (shotOf .opened 0).phase = .opened
      ∧ injector3.shotMl * (100 - injector3.tolerance) ≤ 90 * 1000 / injector3.meterK * 100
      ∧ ¬injector3.shotMl * (100 - injector3.tolerance) ≤ 89 * 1000 / injector3.meterK * 100
      ∧ 1 + 1 < injector3.faultLimit ∧ injector3.faultLimit ≤ 2 + 1
      ∧ ((s .tail 0).arm 0).uses 2 = true ∧ ((s .tail 0).arm 0).flowing = true
      ∧ injector3.injectorClass = .mandatory ∧ ((s .tail 0).arm 1).uses 2 = false
      ∧ (s .tail 0).port.events.length < 32 ∧ (bay.injector 2).state = .idle := by decide +kernel

/-- The last bad shot before the fault limit, of an injector of either class, with one batch that uses it
flowing, HELD or in CLOSING. -/
theorem witness_InjectorFaults :
    [InjectorClass.mandatory, .optional].all (fun k => [ArmState.trim, .held, .closing].all fun st =>
      let c := { injector3 with injectorClass := k }
      let s := { withBatch st with
        injectors := (withBatch st).injectors.set 2
          { Injector.cold with config := some c, state := .shot (shotOf .tail 0), badCount := 2 } }
      s.running && (s.injector 2).config == some c && (shotOf .tail 0).timer.running
        && c.faultLimit ≤ (s.injector 2).badCount + 1 && (s.arm 0).uses 2
        && (s.arm 0).components.all (fun x => x.injected + 0 < 2 ^ 32)) = true := by decide +kernel

/-- Both arms of injector 3 wait for shots. -/
def bothWait (last : Option ArmId) (scheme : Scheme) : State :=
  let owing : Arm := { batchArm .trim with components := [{ component with owed := 1 }] }
  { withBatch .trim with
    arms := ((withBatch .trim).arms.set 0 owing).set 1 owing
    injectors := bay.injectors.set 2
      { Injector.cold with
        config := some { injector3 with scheme := scheme }, lastServed := last } }

theorem witness_ArbiterServesWaitingArms :
    let s := bothWait (some 0) .roundRobin
    waits s 2 0 = true ∧ waits s 2 1 = true ∧ (s.injector 2).state = .idle
      ∧ injector3.secondArm = some 1 ∧ (1 : ArmId) ≠ injector3.firstArm
      ∧ chooseArm s 2 { injector3 with scheme := .roundRobin } = some 1
      ∧ (∀ n, waits bay 2 n = false) ∧ (s.injector 2).lastServed = some injector3.firstArm
      ∧ ((bothWait none .fixed).injector 2).lastServed = none
      ∧ (withInjector .faulted bay |>.injector 2).state ≠ .idle
      ∧ component.owed ≤ 254 ∧ component.cycle ≤ 5000 * 2 ∧ 4999 * 2 < component.cycle
      ∧ (s.arm 0).inRun = false ∧ ((inRun .trim).arm 0).inRun = true := by decide +kernel

/-- A flowing batch that a sample keeps flowing, and one that it closes. -/
theorem witness_SampleCountsCycles :
    let keeps := pulsed 1000 (withBatch .fullFlow)
    let closes :=
      { withBatch .trim with
        arms := (withBatch .trim).arms.set 0 (flowingAt .trim 3010000 3010000) }
    [keeps, closes].all (fun s =>
      s.running && (s.arm 0).config == some settings && (s.arm 0).flowing && !(s.arm 0).inRun
        && s.products.get settings.product == some product
        && (s.arm 0).components[0]? == some component) = true
      ∧ ((keeps.arm 0).engine settings product (some 2000)).1.closeTest = none
      ∧ ((closes.arm 0).engine settings product (some 2000)).1.closeTest = some .complete := by
  decide +kernel

theorem witness_MeterRunsAreBegunAndAnswered :
    let ready := { bay with monitor.coupler := .replicate (.at 15 0) }
    (takesAll ready 0x68 [1, 2] [[1, 100], [1, 5000], [1, 99], [1, 5001], [4, 100]]
      && [bay, stopped bay, loaded, inRun .trim, { ready with monitor.permissiveOk := false },
          { ready with monitor.stow := .replicate (.at 1 0) }].all
        (takesAll · 0x68 [1, 2] [[1, 3000]])
      && takesAll proved 0x69 [1, 1, 4]
        [[1, 1, 3011200], [1, 3, 3011200], [1, 4, 3011200], [1, 2, 3030000], [1, 0, 1], [1, 5, 1],
         [1, 1, 0]]
      && takesAll bay 0x69 [1, 1, 4] [[1, 1, 1]]) = true
      ∧ (ready.arm 0).config = some settings ∧ (ready.arm 3).config = none
      ∧ loaded.load.state ≠ .noLoad ∧ (inRun .trim).meterRun = true
      ∧ ready.load.state = .noLoad ∧ ready.meterRun = false ∧ (ready.arm 0).control.state = .idle
      ∧ (stopped bay).monitor.rackStop = true ∧ (State.reset.monitor.stow.get 0).accepted ≠ 1
      ∧ (bay.monitor.coupler.get 0).accepted ≠ 0 ∧ (ready.monitor.coupler.get 0).accepted = 0
      ∧ (bay.arm 0).result = none ∧ (proved.arm 0).result.isSome = true
      ∧ (proved.arm 0).curve.length < 4 ∧ 3 ≤ (proved.arm 0).curve.length
      ∧ 10009 * 3011200 < 2 ^ 64 := by decide +kernel

theorem witness_InjectorProvingRuns :
    let quiet := proving 0 0 none
    let busy := proving 0 0 (some (proveShotOf .tail 100))
    (([bay, withInjector quiet bay, withInjector busy bay, withBatch .trim,
        stopped (withInjector quiet bay)].all fun s =>
          takesEach s 0x6A 1 [1, 3, 6] && takesEach s 0x6B 1 [3]
            && takesAll s 0x6C [1, 4] [[3, 0], [3, 99], [3, 88]]
            && takesAll s 0x6D [1, 1] [[1, 3], [0, 1], [0, 4]])
      && takesAll proved 0x6D [1, 1] [[0, 1]] && takesAll (inRun .trim) 0x6D [1, 1] [[0, 1]]) = true
      ∧ (bay.injector 0).config = none ∧ bay.earnsNone 2 = false ∧ bay.batchUses 2 = false
      ∧ (withInjector .faulted bay).earnsNone 2 = true ∧ (withBatch .trim).batchUses 2 = true
      ∧ ((withInjector quiet bay).injector 2).config = some injector3
      ∧ (proveShotOf .tail 100).ended = some .target
      ∧ (proveShotOf .tail 100).timer.running = true
      ∧ (proveShotOf .opened 100).phase = .opened
      ∧ (proved.arm 0).result.isSome = true ∧ ((inRun .trim).arm 0).inRun = true
      ∧ 505 * 1000 < 2 ^ 64 ∧ (bay.injector 2).state = .idle := by decide +kernel

/-- A console with characters, replies and the mark of a record too long. -/
def consoleWith (chars replies : Nat) (dropping : Bool) : State :=
  { bay with
    console.buffer := List.replicate chars 0x41, console.dropping := dropping
    console.replies := List.replicate replies .ok }

theorem witness_ConsoleCollectsRecords :
    (consoleWith 39 0 false).console.buffer.length < 40
      ∧ 40 ≤ (consoleWith 40 3 false).console.buffer.length
      ∧ (consoleWith 40 3 false).console.replies.length < 4
      ∧ (consoleWith 0 3 true).console.dropping = true ∧ (∀ b ∈ ([0x0A] : List Byte), b ≠ 0x0D)
      ∧ parseRecord (consoleWith 3 0 false).console.buffer = none
      ∧ 4 ≤ (consoleWith 3 4 false).console.replies.length := by decide +kernel

/-- The seven records of section 4.8.1; one decimal digit more than a field may have is malformed. -/
theorem witness_ConsoleRequestsAndOutput :
    parseRecord (ascii "CARD 00000000fF") = some (.card 255)
      ∧ parseRecord (ascii "VEH 4711") = some (.veh 4711)
      ∧ parseRecord (ascii "PLAN 3  21 1 2000 ") = some (.plan 3 21 1 2000)
      ∧ parseRecord (ascii "GO 1") = some (.go 1) ∧ parseRecord (ascii "HALT 1") = some (.halt 1)
      ∧ parseRecord (ascii "AGAIN 99999999") = some (.again 99999999)
      ∧ parseRecord (ascii "DONE") = some .done ∧ parseRecord (ascii "GO 000000001") = none
      ∧ (typed "DONE" bay).running = true ∧ (typed "DONE" bay).console.dropping = false
      ∧ (typed "DONE" bay).console.buffer ≠ [] ∧ (typed "DONE" bay).console.replies.length < 4
      ∧ Answer.ok.status = .ok ∧ (Answer.denied .bayBusy).status ≠ .ok := by decide +kernel

/-- Words and characters of a record: with fields, without, and a character that none may have. -/
theorem witness_ConsoleRecordForms :
    (∀ c ∈ ascii "PLAN", printable c = true ∧ c ≠ 0x20)
      ∧ (∀ w ∈ [ascii "3", ascii "21", ascii "1", ascii "2000"],
          w ≠ [] ∧ ∀ c ∈ w, printable c = true ∧ c ≠ 0x20)
      ∧ parseWords (ascii "PLAN") [ascii "3", ascii "21", ascii "1", ascii "2000"]
          = some (.plan 3 21 1 2000)
      ∧ (∃ c ∈ ascii "DONE" ++ [0x1F], c.toNat < 0x20 ∨ 0x7E < c.toNat)
      ∧ (∃ c ∈ ascii "DONE" ++ [0x7F], c.toNat < 0x20 ∨ 0x7E < c.toNat)
      ∧ decimalField (ascii "99999999") = some 99999999 ∧ decimalField [] = none
      ∧ decimalField (ascii "000000001") = none ∧ decimalField (ascii "1A") = none
      ∧ cardField (ascii "fFFFFFFFFF") = some (2 ^ 40 - 1) ∧ cardField (ascii "FF") = none := by
  decide +kernel

theorem witness_SupplyLossAndColdStart :
    bay.backup.supply ≠ .off ∧ (off .off true).backup.supply = .off
      ∧ (off .off false).backup.markerGood = false := by decide +kernel

/-- DIV of an injector not configured, with one arm, and with two arms at either end, in a part that runs
and with RESET asserted (R138). -/
theorem witness_DivFollowsTheDiverter :
    let one := { bay with
      injectors := bay.injectors.set 3
        { Injector.cold with config := some { injector3 with secondArm := none } } }
    let second := { bay with injectors := bay.injectors.set 2 { bay.injector 2 with diverter := 1 } }
    (bay.injector 0).config = none ∧ bay.running = true ∧ injector3.secondArm = some 1
      ∧ (bay.injector 2).config = some injector3 ∧ second.running = true
      ∧ (bay.div 2, second.div 2) = (false, true)
      ∧ ((after .resetAsserted one).div 0, (after .resetAsserted one).div 3) = (false, false)
      ∧ ((after .resetAsserted bay).div 2, (after .resetAsserted second).div 2) = (false, true)
      ∧ (off .off true).backup.supply = .off := by decide +kernel

theorem witness_WarmStartKeepsTheRecords :
    bay.backup.markerGood = true ∧ bay.load.record = none
      ∧ (∀ n, (bay.arm n).control.state = .idle) ∧ bay.load.state ≠ .opened
      ∧ bay.load.state ≠ .ending ∧ bay.port.clock.toNat / 86400 = bay.permit.countDay
      ∧ rawValue .ground (bay.monitor.input .ground).levels ≠ 0
      ∧ rawValue .estop (bay.monitor.input .estop).levels = 0 := by decide +kernel

/-- A meter run that was cut, on a day other than the count day. -/
theorem witness_WarmStartEndsAMeterRun :
    let s := { inRun .trim with port.clock := 86400 }
    s.backup.markerGood = true ∧ s.load.record = none
      ∧ (∀ n, (s.arm n).control.state = .idle ∨ (s.arm n).inRun = true)
      ∧ s.load.state ≠ .opened ∧ s.load.state ≠ .ending
      ∧ s.port.clock.toNat / 86400 ≠ s.permit.countDay := by decide +kernel

theorem witness_WarmStartClosesOutTheLoad :
    let s := withBatch .trim
    s.backup.markerGood = true
      ∧ s.load.record = some { openRecord with plan := [entry .active] }
      ∧ s.load.state = .opened ∧ s.port.clock.toNat / 86400 = s.permit.countDay
      ∧ (s.arm 0).beyondArmed = true := by decide +kernel

/-- A load cut with an ARMED entry and an ACTIVE one. -/
theorem witness_WarmStartReleasesAndCharges :
    let s := { withBatch .trim with
      port.clock := 86400
      load.record := some { openRecord with
        plan := [entry .active, { entry .armed with arm := 1, compartment := 2 }] }
      arms := (withBatch .trim).arms.set 1 (batchArm .armed) }
    s.backup.markerGood = true ∧ s.load.state = .opened
      ∧ s.port.clock.toNat / 86400 ≠ s.permit.countDay
      ∧ (∀ n, (s.arm n).totals.standard + (s.arm n).figures.standard < 2 ^ 64)
      ∧ (s.arm 0).beyondArmed = true ∧ (s.arm 1).beyondArmed = false
      ∧ s.recipeProduct 21 = some product := by decide +kernel

/-- A state with a flowing arm, notes and a reservation meets the premises of the five invariants, and
a step answers next in it. -/
theorem witness_EveryStepKeeps :
    let s := { withBatch .trim with store.notes := [noteOf 3000 1, noteOf 3108 0] }
    FlowSafe s ∧ AccountsSound s ∧ PortSound s ∧ ConsoleSound s ∧ LoadStateSound s ∧ NotesSound s
      ∧ (s.arm 0).flowing = true ∧ step s = .next s.tick := by
  refine ⟨?_, ?_, ?_, ?_, ?_, ?_, by decide +kernel, rfl⟩
  · simp only [FlowSafe, flowAllowed, Arm.atRest]; decide +kernel
  · simp only [AccountsSound]
    refine ⟨by decide +kernel, fun a ha => ?_⟩
    obtain rfl : a = accountWith (.litres 12000) 3000 := List.mem_singleton.mp ha
    intro c
    fin_cases c <;> simp [accountWith, Allocation.sound, Bank8.replicate, Bank8.set, Bank8.get]
  · simp only [PortSound]; decide +kernel
  · simp only [ConsoleSound]; decide +kernel
  · simp only [LoadStateSound]; decide +kernel
  · simp only [NotesSound]; decide +kernel

/-- A flowing batch with a shot in flight, beside a single-channel arm. -/
def shotInFlight : State :=
  { withBatch .trim with
    arms := (withBatch .trim).arms.set 1
      { Arm.cold with config := some { settings with singleChannel := true } }
    injectors := bay.injectors.set 2
      { Injector.cold with
        config := some injector3, state := .shot (shotOf .opened 5), lastServed := some 0 } }

/-- The state meets the premises of the invariants of plan, reservations, totalizers, single channels
and injectors, and a step answers next in it. -/
theorem witness_EveryStepKeepsPlanAndTotals :
    PlanSound shotInFlight ∧ ReservedSound shotInFlight ∧ LoadStateSound shotInFlight
      ∧ TotalsSound shotInFlight ∧ SingleChannelSound shotInFlight ∧ InjectorsSound shotInFlight
      ∧ (∀ n, (shotInFlight.arm n).totals.gross + (shotInFlight.arm n).nextIncrement < 2 ^ 64)
      ∧ step shotInFlight = .next shotInFlight.tick := by
  have arms : ∀ n, (shotInFlight.arm n).channel.pulsesB = 0
      ∧ (shotInFlight.arm n).figures.bTotal = 0 := by decide +kernel
  have injectors : ∀ i, (shotInFlight.injector i).state = .idle
      ∨ (i = 2 ∧ (shotInFlight.injector i).state = .shot (shotOf .opened 5)) := by decide +kernel
  have configs : ∀ i, (shotInFlight.injector i).config = none
      ∨ (shotInFlight.injector i).config = some injector3 := by decide +kernel
  refine ⟨⟨by decide +kernel, by decide +kernel, by decide +kernel, fun e he => ?_, by decide +kernel⟩,
    ⟨fun a ha c => ?_, fun r hr _ => ?_⟩, by unfold LoadStateSound; decide +kernel,
    by unfold TotalsSound; decide +kernel, fun n c _ _ => ⟨(arms n).1, fun _ => (arms n).2⟩,
    ⟨by decide +kernel, fun i c hc => ?_, fun i c r hc hr => ?_, fun e he => ?_⟩, by decide +kernel,
    rfl⟩
  · obtain rfl : e = entry .active := List.mem_singleton.mp he
    exact ⟨by decide +kernel, (by decide +kernel : (shotInFlight.arm 0).beyondArmed = true),
      by decide +kernel⟩
  · obtain rfl : a = accountWith (.litres 12000) 3000 := List.mem_singleton.mp ha
    revert c
    decide +kernel
  · obtain rfl : _ = r := Option.some.inj hr
    decide +kernel
  · obtain h | h := configs i <;> rw [h] at hc
    · cases hc
    · obtain rfl : injector3 = c := Option.some.inj hc
      decide
  · obtain h | ⟨rfl, h⟩ := injectors i <;> rw [h] at hr
    · cases hr
    · obtain rfl : shotOf .opened 5 = r := InjectorState.shot.inj hr
      obtain rfl : injector3 = c := Option.some.inj hc
      unfold ShotSound
      decide +kernel
  · obtain rfl : e = entry .active := List.mem_singleton.mp he
    exact ⟨⟨.standard, by decide +kernel⟩, fun _ r hr => by
      obtain rfl : _ = r := Option.some.inj hr
      decide +kernel⟩

/-- The premises of the rack stop: a flowing batch, a shot for it in flight and a proving shot. -/
def shotsInFlight : State :=
  { shotInFlight with
    injectors := shotInFlight.injectors.set 3
      { Injector.cold with
        config := some injector3, state := proving 1 101 (some (proveShotOf .opened 90)) } }

theorem witness_RackStopEndsShots :
    shotsInFlight.monitor.rackStop = false ∧ PlanSound shotsInFlight ∧ FlowSafe shotsInFlight
      ∧ (∀ i, (shotsInFlight.injector i).config = none → (shotsInFlight.injector i).state = .idle)
      ∧ (shotsInFlight.injector 2).state = .shot (shotOf .opened 5)
      ∧ (shotsInFlight.injector 3).state = proving 1 101 (some (proveShotOf .opened 90))
      ∧ (∀ x ∈ (shotsInFlight.arm 0).components, x.injected + 5 * 1000 / injector3.meterK < 2 ^ 32)
      ∧ 90 * 1000 / injector3.meterK < 2 ^ 32 ∧ shotsInFlight.monitor.permissiveOk = true
      ∧ (shotsInFlight.arm 0).flowing = true := by
  refine ⟨by decide +kernel, ⟨by decide +kernel, by decide +kernel, by decide +kernel,
    fun e he => ?_, by decide +kernel⟩, by simp only [FlowSafe, flowAllowed, Arm.atRest]; decide +kernel,
    by decide +kernel⟩
  obtain rfl : e = entry .active := List.mem_singleton.mp he
  exact ⟨by decide +kernel, (by decide +kernel : (shotsInFlight.arm 0).beyondArmed = true),
    by decide +kernel⟩

end Sys2Proof.Tests
end

section
/-! SUPPORT AND PROOF. The three requests that read and empty the event queue (chapter 1, R9 to R11). -/

namespace Sys2Proof.Machine

/-- A valid request whose kind has no fields and whose body is empty goes to its owner. -/
theorem bodyless_answered {kind : Byte} {owner : Owner} {f : Frame} {s : State}
    (h : validFrame s kind f = true) (hb : f.body = []) :
    takeRequest kind (fixedForm [] fun _ => owner) f s
      = answered kind f (owner (frameTaken s)).2 (owner (frameTaken s)).1 :=
  fixed_answered h (hb ▸ rfl : readFields [] f.body = some [])

/-! ### The owners -/

/-- POLL reads a link that is up as 1 and the four arms in order (R10). -/
theorem pollFields_of_link_up {s : State} (h : s.port.link = .up) :
    pollFields s = field 1 s.port.events.length ++ flagField s.port.overflow ++ field 1 1
      ++ flagField s.monitor.rackStop ++ field 1 s.store.notes.length ++ field 1 s.load.state.code
      ++ field 1 (s.arm 0).control.state.code ++ field 1 (s.arm 1).control.state.code
      ++ field 1 (s.arm 2).control.state.code ++ field 1 (s.arm 3).control.state.code := by
  simp [pollFields, h, LinkState.code, armIds]

theorem nextEvent_of_empty {s : State} (h : s.port.events = []) :
    nextEvent s = (s, .okWith (field 1 0)) := by
  unfold nextEvent; rw [h]

theorem nextEvent_of_cons {s : State} {e : Event} {rest : List Event}
    (h : s.port.events = e :: rest) :
    nextEvent s
      = ({ s with port.events := rest }, .okWith (field 1 rest.length ++ e.bytes)) := by
  unfold nextEvent; rw [h]

/-- ATTN is released while no record waits (R8). -/
theorem attn_of_no_events {s : State} (h : s.port.events = []) : s.attn = false := by
  simp [State.attn, h]

/-! ### The commands -/

theorem exec_poll {f : Frame} {s : State} (h : validFrame s 0x01 f = true) (hb : f.body = []) :
    exec (.poll f) s = answered 0x01 f (.okWith (pollFields (frameTaken s)))
      { frameTaken s with port.overflow := false } :=
  bodyless_answered (owner := poll) h hb

theorem exec_nextEvent {f : Frame} {s : State} (h : validFrame s 0x02 f = true)
    (hb : f.body = []) :
    exec (.nextEvent f) s
      = answered 0x02 f (nextEvent (frameTaken s)).2 (nextEvent (frameTaken s)).1 :=
  bodyless_answered h hb

theorem exec_linkReset {f : Frame} {s : State} (h : validFrame s 0x03 f = true)
    (hb : f.body = []) :
    exec (.linkReset f) s = answered 0x03 f .ok
      { frameTaken s with port.events := [], port.overflow := false, capture := none } :=
  bodyless_answered (owner := linkReset) h hb

/-- Settles O7: each request has an empty form, so its owner runs on the state the frame leaves, in
which the link is up; NEXT EVENT splits on whether a record waits. -/
theorem theEventQueueIsRead : Obligations.TheEventQueueIsRead := by
  unfold Obligations.TheEventQueueIsRead
  refine ⟨fun f s h hb => ?poll, fun f s h hb => ⟨fun he => ?empty, fun e rest he => ?oldest⟩,
    fun f s h hb => ⟨exec_linkReset h hb, attn_of_no_events rfl⟩⟩
  case poll =>
    rw [exec_poll h hb, pollFields_of_link_up (frameTaken_link s)]
    simp only [frameTaken_monitor, frameTaken_store, frameTaken_load, frameTaken_arm]
  case empty => rw [exec_nextEvent h hb, nextEvent_of_empty he]
  case oldest =>
    rw [exec_nextEvent h hb, nextEvent_of_cons he]
    simp only [Event.bytes, List.append_assoc]

end Sys2Proof.Machine
end

section
/-! SUPPORT AND PROOF. SET FILTER, the request that writes the revocation filter (chapter 2, R21 and
R22). -/

namespace Sys2Proof.Machine

/-- A valid request of variable length whose count is in range and whose body fits its fields. -/
theorem counted_answered {kind : Byte} {offset width most n : Nat} {ws : Nat → List Nat}
    {owner : List Nat → Owner} {f : Frame} {s : State} {vs : List Nat}
    (h : validFrame s kind f = true) (hlen : offset + width ≤ f.body.length)
    (hcount : beNat ((f.body.drop offset).take width) = n) (h1 : 1 ≤ n) (hmost : n ≤ most)
    (hr : readFields (ws n) f.body = some vs) :
    takeRequest kind (countedForm offset width most ws owner) f s
      = answered kind f (owner vs (frameTaken s)).2 (owner vs (frameTaken s)).1 := by
  subst hcount
  rw [takeRequest_valid h, countedForm_fixed hlen h1 hmost, fixedForm_read hr]

/-! ### The bits of the filter -/

/-- Writing filter bit `i` sets that bit and leaves every other one. -/
theorem getLsbD_writeFilterBit {i : Nat} (hi : i < 256) (v : Bool) (filter : BitVec 256) (j : Nat) :
    (writeFilterBit i v filter).getLsbD j = if j = i then v else filter.getLsbD j := by
  have mask : (1#256 <<< i).getLsbD j = decide (j = i) := by
    rw [← BitVec.twoPow_eq, BitVec.getLsbD_twoPow]
    simp only [hi, decide_true, Bool.true_and, eq_comm]
  have inside : (filter.getLsbD j && decide (j < 256)) = filter.getLsbD j := by
    rw [Bool.and_eq_left_iff_imp, decide_eq_true_eq]
    exact BitVec.lt_of_getLsbD
  cases v with
  | true =>
    rw [writeFilterBit, if_pos rfl, BitVec.getLsbD_or, mask]
    by_cases hji : j = i <;> simp [hji]
  | false =>
    rw [writeFilterBit, if_neg Bool.false_ne_true, BitVec.getLsbD_and, BitVec.getLsbD_not, mask,
      ← Bool.and_assoc, inside]
    by_cases hji : j = i <;> simp [hji]

/-- A run one bit longer writes that bit last. -/
theorem writeFilterRun_succ (start n : Nat) (values : List Nat) (filter : BitVec 256) :
    writeFilterRun start (n + 1) values filter
      = writeFilterBit (start + n) (runBit values n) (writeFilterRun start n values filter) := by
  simp only [writeFilterRun, List.range_succ, List.foldl_append, List.foldl_cons, List.foldl_nil]

/-- A run that ends by bit 255 gives its bits to the places from `start` on, and no other place
changes. -/
theorem getLsbD_writeFilterRun {start n : Nat} (h : start + n ≤ 256) (values : List Nat)
    (filter : BitVec 256) (i : Nat) :
    (writeFilterRun start n values filter).getLsbD i
      = if start ≤ i ∧ i < start + n then runBit values (i - start) else filter.getLsbD i := by
  induction n with
  | zero => rw [if_neg (by omega)]; rfl
  | succ n ih =>
    rw [writeFilterRun_succ, getLsbD_writeFilterBit (by omega), ih (by omega)]
    by_cases hi : i = start + n
    · rw [if_pos hi, if_pos (by omega), hi, Nat.add_sub_cancel_left]
    · have same : (start ≤ i ∧ i < start + n) ↔ (start ≤ i ∧ i < start + (n + 1)) := by omega
      simp only [if_neg hi, same]

/-! ### The owner and the command -/

theorem setFilter_past {start n : Nat} (h : 256 < start + n) (values : List Nat) (s : State) :
    setFilter start n values s = (s, .refused .badValue) := if_pos h

theorem setFilter_fits {start n : Nat} (h : start + n ≤ 256) (values : List Nat) (s : State) :
    setFilter start n values s
      = ({ s with permit.filter := writeFilterRun start n values s.permit.filter }, .ok) :=
  if_neg (Nat.not_lt.mpr h)

theorem exec_setFilter {f : Frame} {s : State} {start n : Nat} {values : List Nat}
    (h : validFrame s 0x16 f = true) (hlen : 3 ≤ f.body.length)
    (hcount : beNat ((f.body.drop 1).take 2) = n) (h1 : 1 ≤ n) (hmost : n ≤ 256)
    (hr : readFields ([1, 2] ++ List.replicate (ceilDiv n 8) 1) f.body
      = some (start :: n :: values)) :
    exec (.setFilter f) s
      = answered 0x16 f (setFilter start n values (frameTaken s)).2
          (setFilter start n values (frameTaken s)).1 :=
  counted_answered (ws := fun n => [1, 2] ++ List.replicate (ceilDiv n 8) 1)
    h hlen hcount h1 hmost hr

/-- Settles O12: the owner splits on whether the run ends by bit 255; the bits it then writes are
those of `getLsbD_writeFilterRun`, read at a place of the run and at one outside it. -/
theorem setFilterWritesARun : Obligations.SetFilterWritesARun := by
  unfold Obligations.SetFilterWritesARun
  intro f s start n values h hlen hcount h1 hmost hr
  rw [exec_setFilter h hlen hcount h1 hmost hr]
  refine ⟨fun hpast => ?past, fun hfits =>
    ⟨writeFilterRun start n values (frameTaken s).permit.filter, ?fits, fun k hk => ?inside,
      fun i hi => ?outside⟩⟩
  case past => rw [setFilter_past hpast]
  case fits => rw [setFilter_fits hfits]
  case inside =>
    rw [getLsbD_writeFilterRun hfits, if_pos (by omega), Nat.add_sub_cancel_left, runBit]
  case outside => rw [getLsbD_writeFilterRun hfits, if_neg (by omega), frameTaken_permit]

end Sys2Proof.Machine
end

section
/-! SUPPORT AND PROOF. The reservation of a preset, and the two requests that write the account table,
PUT ACCOUNT and SET ALLOCATION (chapter 3, R39, R40 and R42). -/

namespace Sys2Proof.Machine

/-! ### Ceilings -/

theorem le_mul_ceilDiv {b : Nat} (hb : 0 < b) (a : Nat) : a ≤ b * ceilDiv a b := by
  have := Nat.lt_mul_div_succ (a + b - 1) hb
  rw [Nat.mul_add_one] at this
  rw [ceilDiv]
  omega

theorem mul_ceilDiv_lt {b : Nat} (hb : 0 < b) (a : Nat) : b * ceilDiv a b < a + b := by
  have := Nat.mul_div_le (a + b - 1) b
  rw [ceilDiv]
  omega

theorem ceilDiv_le_ceilDiv {a a' : Nat} (h : a ≤ a') (b : Nat) : ceilDiv a b ≤ ceilDiv a' b :=
  Nat.div_le_div_right (by omega)

/-! ### The reservation of a preset -/

@[simp] theorem reservationOf_standard (p : Nat) : reservationOf .standard p = p := rfl

@[simp] theorem reservationOf_gross (p : Nat) : reservationOf .gross p = p + ceilDiv p 50 := rfl

theorem reservationOf_strictMono (basis : PresetBasis) : StrictMono (reservationOf basis) := by
  intro p q h
  cases basis with
  | standard => exact h
  | gross => exact Nat.add_lt_add_of_lt_of_le h (ceilDiv_le_ceilDiv h.le 50)

/-- Settles O18: the GROSS part is the ceiling of a fiftieth, between its two bounds, which give the
limits of a preset of 100 to 20,000 as well. -/
theorem reservationOfAPreset : Obligations.ReservationOfAPreset := by
  unfold Obligations.ReservationOfAPreset
  refine ⟨reservationOf_standard, fun p => ⟨reservationOf_gross p, ?atLeast, ?below⟩,
    fun basis p q h => reservationOf_strictMono basis h, fun p low high => ⟨⟨low, high⟩, ?range⟩⟩
  case atLeast => exact le_mul_ceilDiv (by decide) p
  case below => exact mul_ceilDiv_lt (by decide) p
  case range =>
    have atLeast : p ≤ 50 * ceilDiv p 50 := le_mul_ceilDiv (by decide) p
    have below : 50 * ceilDiv p 50 < p + 50 := mul_ceilDiv_lt (by decide) p
    rw [reservationOf_gross]
    omega

/-! ### Fields of the two requests -/

theorem flagOf_of_le {v : Nat} (h : v ≤ 1) : flagOf v = some (decide (v = 1)) := by
  obtain rfl | rfl := Nat.le_one_iff_eq_zero_or_eq_one.mp h <;> rfl

theorem flagOf_of_gt {v : Nat} (h : 1 < v) : flagOf v = none := by
  match v, h with
  | _ + 2, _ => rfl

@[simp] theorem classOf_val (c : ClassId) : classOf c.val = some c := by simp [classOf]

@[simp] theorem allocationTaken_unlimited (reserved : Nat) :
    allocationTaken 0xFFFFFFFF reserved = .unlimited := rfl

theorem allocationTaken_number {value : Nat} (h : value ≤ 99999999) (reserved : Nat) :
    allocationTaken value reserved = .litres (max value reserved) := if_neg (by omega)

/-! ### PUT ACCOUNT, by the account and the flag -/

theorem putAccount_badValue {number hold : Nat} (h : number = 0 ∨ 1 < hold) (s : State) :
    putAccount number hold s = (s, .refused .badValue) := by
  unfold putAccount
  by_cases hold_le : hold ≤ 1
  · simp only [flagOf_of_le hold_le, if_pos (h.resolve_right (by omega))]
  · simp only [flagOf_of_gt (Nat.lt_of_not_le hold_le)]

theorem putAccount_entry {number hold : Nat} {s : State} (h1 : 1 ≤ number) (hh : hold ≤ 1)
    (hs : (s.account number).isSome = true) :
    putAccount number hold s
      = ({ s with
            accounts := s.accounts.map fun a =>
              if a.number = number then { a with hold := decide (hold = 1) } else a }, .ok) := by
  unfold putAccount
  simp only [flagOf_of_le hh, if_neg (Nat.ne_of_gt h1), if_pos hs]

theorem putAccount_new {number hold : Nat} {s : State} (h1 : 1 ≤ number) (hh : hold ≤ 1)
    (hs : s.account number = none) (hroom : s.accounts.length < 16) :
    putAccount number hold s
      = ({ s with accounts := s.accounts ++ [newAccount number (decide (hold = 1))] }, .ok) := by
  have absent : ¬ (s.account number).isSome = true := by simp [hs]
  have room : s.accounts.length < Config.accountTableSize := hroom
  unfold putAccount
  simp only [flagOf_of_le hh, if_neg (Nat.ne_of_gt h1), if_neg absent, if_pos room]

theorem putAccount_full {number hold : Nat} {s : State} (h1 : 1 ≤ number) (hh : hold ≤ 1)
    (hs : s.account number = none) (hfull : 16 ≤ s.accounts.length) :
    putAccount number hold s = (s, .refused .full) := by
  have absent : ¬ (s.account number).isSome = true := by simp [hs]
  have noRoom : ¬ s.accounts.length < Config.accountTableSize := Nat.not_lt.mpr hfull
  unfold putAccount
  simp only [flagOf_of_le hh, if_neg (Nat.ne_of_gt h1), if_neg absent, if_neg noRoom]

/-! ### SET ALLOCATION, by the value and the account -/

theorem setAllocation_badValue {value : Nat} (h : 99999999 < value) (hu : value ≠ 0xFFFFFFFF)
    (number : Nat) (c : ClassId) (s : State) :
    setAllocation number c.val value s = (s, .refused .badValue) := by
  unfold setAllocation
  simp only [classOf_val, if_pos (Or.inr (And.intro h hu) : number = 0 ∨ _)]

section InRange

variable {number value : Nat} {s : State} (h1 : 1 ≤ number)
  (hv : value ≤ 99999999 ∨ value = 0xFFFFFFFF) (c : ClassId)
include h1 hv

theorem setAllocation_absent (hs : s.account number = none) :
    setAllocation number c.val value s = (s, .refused .notFound) := by
  have inRange : ¬ (number = 0 ∨ (99999999 < value ∧ value ≠ 0xFFFFFFFF)) := by omega
  unfold setAllocation
  simp only [classOf_val, if_neg inRange, hs]

theorem setAllocation_entry {a : Account} (hs : s.account number = some a) :
    setAllocation number c.val value s
      = (s.updAllocation number c fun x =>
            { x with remaining := allocationTaken value (a.classes.get c).reserved },
          .okWith (field 4 (allocationTaken value (a.classes.get c).reserved).code)) := by
  have inRange : ¬ (number = 0 ∨ (99999999 < value ∧ value ≠ 0xFFFFFFFF)) := by omega
  unfold setAllocation
  simp only [classOf_val, if_neg inRange, hs]

end InRange

/-! ### The commands -/

theorem exec_putAccount {f : Frame} {s : State} {number hold : Nat}
    (h : validFrame s 0x20 f = true) (hr : readFields [4, 1] f.body = some [number, hold]) :
    exec (.putAccount f) s
      = answered 0x20 f (putAccount number hold (frameTaken s)).2
          (putAccount number hold (frameTaken s)).1 :=
  fixed_answered h hr

theorem exec_setAllocation {f : Frame} {s : State} {number cls value : Nat}
    (h : validFrame s 0x21 f = true)
    (hr : readFields [4, 1, 4] f.body = some [number, cls, value]) :
    exec (.setAllocation f) s
      = answered 0x21 f (setAllocation number cls value (frameTaken s)).2
          (setAllocation number cls value (frameTaken s)).1 :=
  fixed_answered h hr

/-- Settles O17: the owner of each request runs on the state the frame leaves, whose account table is
that of `s`; its cases are those of the flag, the entry, the room and the value. -/
theorem accountsAreWritten : Obligations.AccountsAreWritten := by
  unfold Obligations.AccountsAreWritten
  refine ⟨fun f s number hold h hr => ?put, fun f s number value c h hr h1 => ?set⟩
  case put =>
    rw [exec_putAccount h hr]
    refine ⟨fun hbad => ?badValue, fun h1 hh hs => ?entry, fun h1 hh hs hroom => ?new,
      fun h1 hh hs hfull => ?full⟩
    case badValue => rw [putAccount_badValue hbad]
    case entry =>
      rw [putAccount_entry h1 hh (by rwa [frameTaken_account]), frameTaken_accounts]
    case new =>
      rw [putAccount_new h1 hh (by rwa [frameTaken_account]) (by rwa [frameTaken_accounts]),
        frameTaken_accounts, newAccount]
    case full =>
      rw [putAccount_full h1 hh (by rwa [frameTaken_account]) (by rwa [frameTaken_accounts])]
  case set =>
    rw [exec_setAllocation h hr]
    refine ⟨fun a hs hv => ?litres, fun a hs hu => ?unlimited, fun hs hv => ?absent,
      fun hv hu => ?outOfRange⟩
    case litres =>
      rw [setAllocation_entry h1 (.inl hv) c (by rwa [frameTaken_account]),
        allocationTaken_number hv, Remaining.code]
    case unlimited =>
      rw [setAllocation_entry h1 (.inr hu) c (by rwa [frameTaken_account]), hu,
        allocationTaken_unlimited, Remaining.code]
    case absent => rw [setAllocation_absent h1 (.inl hv) c (by rwa [frameTaken_account])]
    case outOfRange => rw [setAllocation_badValue hv hu]

end Sys2Proof.Machine
end

section
/-! SUPPORT AND PROOF. The meter factor at a rate: the curve and the interpolation between two of its
points (chapter 5, R78 and R82). -/

namespace Sys2Proof.Machine

/-! ### The interpolation between two points -/

/-- The factor that R82 reads off the line through `a` and `b` at the rate `r`. -/
def interpolated (a b : CurvePoint) (r : Nat) : Int :=
  a.factor + (((b.factor : Int) - a.factor) * ((r : Int) - a.rate)).tdiv ((b.rate : Int) - a.rate)

/-- The part `x / d` of a rise `k`, truncated, lies between nothing and the whole rise. -/
theorem tdiv_part_of_nonneg {k x d : Int} (hk : 0 ≤ k) (hx : 0 < x) (hxd : x ≤ d) :
    0 ≤ (k * x).tdiv d ∧ (k * x).tdiv d ≤ k := by
  have rise : 0 ≤ k * x := mul_nonneg hk hx.le
  rw [Int.tdiv_eq_ediv_of_nonneg rise]
  exact ⟨Int.ediv_nonneg rise (hx.le.trans hxd),
    Int.ediv_le_of_le_mul (hx.trans_le hxd) (mul_le_mul_of_nonneg_left hxd hk)⟩

/-- A falling line is a rising one with its sign turned, since the quotient is truncated to zero. -/
theorem tdiv_part_of_nonpos {k x d : Int} (hk : k ≤ 0) (hx : 0 < x) (hxd : x ≤ d) :
    k ≤ (k * x).tdiv d ∧ (k * x).tdiv d ≤ 0 := by
  have turned := tdiv_part_of_nonneg (neg_nonneg.mpr hk) hx hxd
  rw [neg_mul, Int.neg_tdiv] at turned
  omega

theorem interpolated_between {a b : CurvePoint} {r : Nat} (ha : a.rate < r) (hb : r ≤ b.rate) :
    ((min a.factor b.factor : Nat) : Int) ≤ interpolated a b r
      ∧ interpolated a b r ≤ ((max a.factor b.factor : Nat) : Int) := by
  have hx : (0 : Int) < (r : Int) - a.rate := by omega
  have hxd : (r : Int) - a.rate ≤ (b.rate : Int) - a.rate := by omega
  unfold interpolated
  obtain rises | falls := le_total a.factor b.factor
  case inl =>
    have := tdiv_part_of_nonneg (k := (b.factor : Int) - a.factor) (by omega) hx hxd
    omega
  case inr =>
    have := tdiv_part_of_nonpos (k := (b.factor : Int) - a.factor) (by omega) hx hxd
    omega

theorem interpolated_at_end {a b : CurvePoint} (h : a.rate < b.rate) :
    interpolated a b b.rate = b.factor := by
  rw [interpolated, Int.mul_tdiv_cancel _ (by omega)]
  omega

/-! ### The curve, by where the rate lies -/

@[simp] theorem meterFactor_nil (r : Nat) : meterFactor [] r = 10000 := rfl

@[simp] theorem meterFactor_singleton (p : CurvePoint) (r : Nat) : meterFactor [p] r = p.factor := rfl

section TwoPoints

variable {a b : CurvePoint} {rest : List CurvePoint} {r : Nat}

theorem meterFactor_of_le_first (h : r ≤ a.rate) : meterFactor (a :: b :: rest) r = a.factor :=
  if_pos h

theorem meterFactor_between (ha : a.rate < r) (hb : r ≤ b.rate) :
    meterFactor (a :: b :: rest) r = (interpolated a b r).toNat :=
  (if_neg ha.not_ge).trans (if_pos hb)

theorem meterFactor_past_second (ha : a.rate < r) (hb : b.rate < r) :
    meterFactor (a :: b :: rest) r = meterFactor (b :: rest) r :=
  (if_neg ha.not_ge).trans (if_neg hb.not_ge)

theorem meterFactor_between_eq (ha : a.rate < r) (hb : r ≤ b.rate) :
    (meterFactor (a :: b :: rest) r : Int) = interpolated a b r := by
  have := interpolated_between ha hb
  rw [meterFactor_between ha hb]
  omega

end TwoPoints

theorem meterFactor_at_first (b : CurvePoint) (rest : List CurvePoint) :
    meterFactor (b :: rest) b.rate = b.factor := by
  cases rest with
  | nil => rfl
  | cons c rest => exact meterFactor_of_le_first le_rfl

/-- From its second point's rate on, a curve's first point plays no part: at that rate itself the
interpolation has arrived at the second point's factor. -/
theorem meterFactor_from_second {a b : CurvePoint} {r : Nat} (hab : a.rate < b.rate) (hb : b.rate ≤ r)
    (rest : List CurvePoint) : meterFactor (a :: b :: rest) r = meterFactor (b :: rest) r := by
  obtain rfl | past := hb.eq_or_lt
  case inl =>
    rw [meterFactor_between hab le_rfl, interpolated_at_end hab, Int.toNat_natCast,
      meterFactor_at_first]
  case inr => exact meterFactor_past_second (hab.trans past) past

/-! ### Curves that ascend -/

theorem ascending_iff_pairwise (l : List CurvePoint) :
    ascending l = true ↔ l.Pairwise fun a b => a.rate < b.rate := by
  have trans : IsTrans CurvePoint fun a b => a.rate < b.rate := ⟨fun _ _ _ => Nat.lt_trans⟩
  rw [← List.isChain_iff_pairwise]
  induction l using ascending.induct with
  | case1 a b rest ih => simp [ascending, ih]
  | case2 l short =>
    match l, short with
    | [], _ => simp [ascending]
    | [_], _ => simp [ascending]
    | a :: b :: rest, short => exact absurd rfl (short a b rest)

/-- From a point's rate on, the points before it play no part. -/
theorem meterFactor_append {a : CurvePoint} {r : Nat} (hr : a.rate ≤ r) (rest : List CurvePoint)
    (l : List CurvePoint) (h : (l ++ a :: rest).Pairwise fun a b => a.rate < b.rate) :
    meterFactor (l ++ a :: rest) r = meterFactor (a :: rest) r := by
  induction l with
  | nil => rfl
  | cons x l ih =>
    obtain ⟨below, tail⟩ := List.pairwise_cons.mp h
    rw [← ih tail]
    cases l with
    | nil => exact meterFactor_from_second (below a (by simp)) hr rest
    | cons y l =>
      have toPoint : y.rate < a.rate := (List.pairwise_cons.mp tail).1 a (by simp)
      exact meterFactor_from_second (below y (by simp)) (toPoint.le.trans hr) _

/-- Bounds of the points' factors and of the factor without a curve bound the factor in force; a step
of the recursion needs no order of the points. -/
theorem meterFactor_bounded {low high : Nat} (hlow : low ≤ 10000) (hhigh : 10000 ≤ high)
    (l : List CurvePoint) (r : Nat) (h : ∀ p ∈ l, low ≤ p.factor ∧ p.factor ≤ high) :
    low ≤ meterFactor l r ∧ meterFactor l r ≤ high := by
  induction l, r using meterFactor.induct with
  | case1 r => exact ⟨hlow, hhigh⟩
  | case2 p r => exact h p (by simp)
  | case3 a b rest r first =>
    rw [meterFactor_of_le_first first]
    exact h a (by simp)
  | case4 a b rest r first second =>
    have pastFirst : a.rate < r := Nat.lt_of_not_le first
    have between := interpolated_between pastFirst second
    rw [← meterFactor_between_eq (rest := rest) pastFirst second] at between
    have atFirst := h a (by simp)
    have atSecond := h b (by simp)
    omega
  | case5 a b rest r first second ih =>
    rw [meterFactor_past_second (Nat.lt_of_not_le first) (Nat.lt_of_not_le second)]
    exact ih fun p hp => h p (List.mem_cons_of_mem a hp)

theorem factor_bounds_of_curveValid {l : List CurvePoint} (h : curveValid l = true) :
    ∀ p ∈ l, 9000 ≤ p.factor ∧ p.factor ≤ 11000 := by
  intro p hp
  simp only [curveValid, Bool.and_eq_true, List.all_eq_true, decide_eq_true_eq] at h
  obtain ⟨inRange, -⟩ := h
  obtain ⟨⟨-, low⟩, high⟩ := inRange p hp
  exact ⟨low, high⟩

/-- Settles O30: the points before the one at or below the rate drop out, and what stays is the last
point alone or the interpolation between two neighbours. -/
theorem meterFactorFollowsTheCurve : Obligations.MeterFactorFollowsTheCurve := by
  unfold Obligations.MeterFactorFollowsTheCurve
  refine ⟨fun c p probe a => rfl, meterFactor_nil, meterFactor_singleton,
    fun a b rest r => meterFactor_of_le_first, fun l z r hl hr => ?last,
    fun l rest a b r hl ha hb => ?between, by decide,
    fun l r hl => meterFactor_bounded (by decide) (by decide) l r (factor_bounds_of_curveValid hl)⟩
  case last =>
    rw [meterFactor_append hr [] l ((ascending_iff_pairwise _).mp hl), meterFactor_singleton]
  case between =>
    rw [meterFactor_append ha.le (b :: rest) l ((ascending_iff_pairwise _).mp hl)]
    have onLine : (meterFactor (a :: b :: rest) r : Int) = interpolated a b r :=
      meterFactor_between_eq ha hb
    have neighbours := interpolated_between ha hb
    rw [← onLine] at neighbours
    exact ⟨onLine, Int.ofNat_le.mp neighbours.1, Int.ofNat_le.mp neighbours.2⟩

end Sys2Proof.Machine
end

section
/-! SUPPORT AND PROOF. The two requests of the Note Store, READ NOTE and RELEASE NOTE (chapter 10, R178
and R179). -/

namespace Sys2Proof.Machine

/-- The sections of a note end at its line count (R178). -/
theorem noteSection_past {t : Note} {index : Nat} (h : t.lines.length < index) :
    t.section index = none := by
  cases index with
  | zero => exact absurd h (Nat.not_lt_zero _)
  | succ n =>
    rw [Note.section, List.getElem?_eq_none (Nat.le_of_lt_succ h), Option.map_none]

/-! ### READ NOTE, by the index and the oldest note -/

theorem readNote_outOfRange {index : Nat} (h : 8 < index) (s : State) :
    readNote index s = (s, .refused .badValue) := if_pos h

theorem readNote_empty {index : Nat} {s : State} (h8 : index ≤ 8) (hn : s.store.notes = []) :
    readNote index s = (s, .refused .notFound) := by
  unfold readNote; rw [if_neg (Nat.not_lt.mpr h8), hn]

theorem readNote_pastSections {index : Nat} {s : State} {t : Note} {rest : List Note} (h8 : index ≤ 8)
    (hn : s.store.notes = t :: rest) (hpast : t.lines.length < index) :
    readNote index s = (s, .refused .badValue) := by
  unfold readNote; rw [if_neg (Nat.not_lt.mpr h8), hn]; simp only [noteSection_past hpast]

/-! ### RELEASE NOTE, by the number and the oldest note -/

theorem releaseNote_zero (s : State) : releaseNote 0 s = (s, .refused .badValue) := rfl

theorem releaseNote_empty {number : Nat} {s : State} (h1 : 1 ≤ number) (hn : s.store.notes = []) :
    releaseNote number s = (s, .refused .notFound) := by
  unfold releaseNote; rw [if_neg (Nat.ne_of_gt h1), hn]

theorem releaseNote_cons {number : Nat} {s : State} {t : Note} {rest : List Note} (h1 : 1 ≤ number)
    (hn : s.store.notes = t :: rest) :
    releaseNote number s
      = if t.number = number then ({ s with store.notes := rest }, .ok)
        else (s, .refused .notOldest) := by
  unfold releaseNote; rw [if_neg (Nat.ne_of_gt h1), hn]

/-! ### The commands -/

theorem exec_readNote {f : Frame} {s : State} {index : Nat} (h : validFrame s 0x70 f = true)
    (hr : readFields [1] f.body = some [index]) :
    exec (.readNote f) s
      = answered 0x70 f (readNote index (frameTaken s)).2 (readNote index (frameTaken s)).1 :=
  fixed_answered h hr

theorem exec_releaseNote {f : Frame} {s : State} {number : Nat} (h : validFrame s 0x71 f = true)
    (hr : readFields [4] f.body = some [number]) :
    exec (.releaseNote f) s
      = answered 0x71 f (releaseNote number (frameTaken s)).2
          (releaseNote number (frameTaken s)).1 :=
  fixed_answered h hr

/-- Settles O25: each owner runs on the state the frame leaves, whose note store is that of `s`; its
cases are those of the number or index, the empty store and the oldest note. -/
theorem releaseTakesTheOldestNote : Obligations.ReleaseTakesTheOldestNote := by
  unfold Obligations.ReleaseTakesTheOldestNote
  refine fun f s v => ⟨fun h hr => ?release, fun h hr => ?read⟩
  case release =>
    rw [exec_releaseNote h hr]
    refine ⟨fun h0 => ?zero, fun h1 hn => ?empty, fun t rest h1 hn hother => ?notOldest,
      fun t rest h1 hn holdest => ?oldest⟩
    case zero => rw [h0, releaseNote_zero]
    case empty => rw [releaseNote_empty h1 (by rwa [frameTaken_store])]
    case notOldest =>
      rw [releaseNote_cons h1 (by rwa [frameTaken_store]), if_neg hother]
    case oldest =>
      rw [releaseNote_cons h1 (by rwa [frameTaken_store]), if_pos holdest]
  case read =>
    rw [exec_readNote h hr]
    refine ⟨fun hout => ?outOfRange, fun h8 hn => ?empty, fun t rest h8 hn hpast => ?pastSections⟩
    case outOfRange => rw [readNote_outOfRange hout]
    case empty => rw [readNote_empty h8 (by rwa [frameTaken_store])]
    case pastSections => rw [readNote_pastSections h8 (by rwa [frameTaken_store]) hpast]

end Sys2Proof.Machine
end

section
/-! SUPPORT. What one step can do, said once: a command is a request of the host, a record of the
console or an event, and each is one of the cases below. -/

namespace Sys2Proof.Machine

/-- The owners that a request can reach (section 1.3). -/
inductive RequestOwner : Owner → Prop
  | refuse (a : Answer) : RequestOwner (refuse a)
  | poll : RequestOwner poll
  | nextEvent : RequestOwner nextEvent
  | linkReset : RequestOwner linkReset
  | setClock (v : Nat) : RequestOwner (setClock v)
  | setLink (v : Nat) : RequestOwner (setLink v)
  | putDriver (d : Option Driver) : RequestOwner (putDriver d)
  | dropDriver (card : Nat) : RequestOwner (dropDriver card)
  | getDriver (card : Nat) : RequestOwner (getDriver card)
  | putVehicle (v : Option Vehicle) : RequestOwner (putVehicle v)
  | dropVehicle (number : Nat) : RequestOwner (dropVehicle number)
  | getVehicle (number : Nat) : RequestOwner (getVehicle number)
  | setFilter (start n : Nat) (values : List Nat) : RequestOwner (setFilter start n values)
  | answerReferral (card decision account classes bound : Nat) :
      RequestOwner (answerReferral card decision account classes bound)
  | setAuthority (mode timeout : Nat) : RequestOwner (setAuthority mode timeout)
  | putAccount (number hold : Nat) : RequestOwner (putAccount number hold)
  | setAllocation (number cls value : Nat) : RequestOwner (setAllocation number cls value)
  | getAccount (number : Nat) : RequestOwner (getAccount number)
  | dropAccount (number : Nat) : RequestOwner (dropAccount number)
  | presentCard (card : Nat) : RequestOwner (presentCard card)
  | nameVehicle (number : Nat) : RequestOwner (nameVehicle number)
  | planCompartment (compartment recipe arm request : Nat) :
      RequestOwner (planCompartment compartment recipe arm request)
  | endLoad (cause : Nat) : RequestOwner (endLoad cause)
  | getLoad : RequestOwner getLoad
  | setLoadTimes (ident idle : Nat) : RequestOwner (setLoadTimes ident idle)
  | putProduct (index : Nat) (p : Option Product) : RequestOwner (putProduct index p)
  | putArm (arm : Nat) (c : Option ArmConfig) (overrun : Nat) : RequestOwner (putArm arm c overrun)
  | putMeterCurve (arm : Nat) (points : List CurvePoint) : RequestOwner (putMeterCurve arm points)
  | getArm (arm : Nat) : RequestOwner (getArm arm)
  | getTotals (arm : Nat) : RequestOwner (getTotals arm)
  | readMeterFault : RequestOwner readMeterFault
  | setBay (ceiling vapour : Nat) : RequestOwner (setBay ceiling vapour)
  | startArm (arm : Nat) : RequestOwner (startArm arm)
  | stopArm (arm : Nat) : RequestOwner (stopArm arm)
  | resumeArm (arm : Nat) : RequestOwner (resumeArm arm)
  | getPermissives : RequestOwner getPermissives
  | clearRackStop : RequestOwner clearRackStop
  | putInjector (injector code k shot limit tolerance fault cls first second scheme creep : Nat) :
      RequestOwner (putInjector injector
        (injectorConfigOf code k shot limit tolerance fault cls first second scheme creep))
  | putRecipe (r : Option Recipe) : RequestOwner (putRecipe r)
  | getInjector (injector : Nat) : RequestOwner (getInjector injector)
  | clearInjectorFault (injector : Nat) : RequestOwner (clearInjectorFault injector)
  | dropRecipe (code : Nat) : RequestOwner (dropRecipe code)
  | beginMeterRun (arm volume : Nat) : RequestOwner (beginMeterRun arm volume)
  | meterResult (arm point proverMl : Nat) : RequestOwner (meterResult arm point proverMl)
  | beginInjectorProving (injector : Nat) : RequestOwner (beginInjectorProving injector)
  | proveShot (injector : Nat) : RequestOwner (proveShot injector)
  | injectorResult (injector total : Nat) : RequestOwner (injectorResult injector total)
  | endProving (subject number : Nat) : RequestOwner (endProving subject number)
  | readNote (index : Nat) : RequestOwner (readNote index)
  | releaseNote (number : Nat) : RequestOwner (releaseNote number)

/-- The owners that a console record other than PLAN can reach (section 4.8.1). -/
inductive ConsoleOwner : Owner → Prop
  | presentCard (card : Nat) : ConsoleOwner (presentCard card)
  | nameVehicle (number : Nat) : ConsoleOwner (nameVehicle number)
  | startArm (arm : Nat) : ConsoleOwner (startArm arm)
  | stopArm (arm : Nat) : ConsoleOwner (stopArm arm)
  | resumeArm (arm : Nat) : ConsoleOwner (resumeArm arm)
  | endLoad : ConsoleOwner (endLoad 1)

theorem ConsoleOwner.request {o : Owner} (h : ConsoleOwner o) : RequestOwner o := by
  cases h with
  | presentCard card => exact .presentCard card
  | nameVehicle number => exact .nameVehicle number
  | startArm arm => exact .startArm arm
  | stopArm arm => exact .stopArm arm
  | resumeArm arm => exact .resumeArm arm
  | endLoad => exact .endLoad 1

/-- The commands that come in no frame and from no console record, each by the state it leaves. -/
inductive EventStep : State → State → Prop
  | none (s : State) : EventStep s s
  | hunts (s : State) : EventStep s (receiverHunts s)
  | lead {s : State} : s.listening = true →
      EventStep s { s with port.receiver := .collecting }
  | replyEnd (s : State) : EventStep s { s with port.reply := none }
  | silence {s : State} : EventStep s (loseLink s)
  | clock (s : State) : EventStep s (writeClock (s.port.clock + 1) s)
  | clockOnBattery (s : State) : EventStep s { s with port.clock := s.port.clock + 1 }
  | referral (s : State) : EventStep s (expireReferral s)
  | identification (s : State) : EventStep s (expireIdentification s)
  | idle {s : State} : s.load.state = .opened → EventStep s (endOpenLoad .idleTimeout s)
  | pulseA {s : State} (n : ArmId) : EventStep s
      (s.updArm n fun a => { a with channel.pulsesA := a.channel.pulsesA + 1 })
  | pulseB {s : State} (n : ArmId) (c : ArmConfig) : (s.arm n).config = some c →
      c.singleChannel = false → EventStep s
        (s.updArm n fun a => { a with channel.pulsesB := a.channel.pulsesB + 1 })
  | sample (s : State) (n : ArmId) (probe : Option Int) : EventStep s (sampleArm n probe s)
  | noFlow (s : State) (n : ArmId) : EventStep s (enterHeld .noFlow n s)
  | closingTimer (s : State) (n : ArmId) : EventStep s
      (s.updArm n fun a => { a with control.closingTimer := a.control.closingTimer.runOut })
  | trailingTimer (s : State) (n : ArmId) : EventStep s
      (s.updArm n fun a =>
        { a with
          trailingTimer := a.trailingTimer.runOut
          components := a.components.map fun k =>
            if 0 < k.owed then
              { k with owed := 0, status := if k.status = .ok then .short else k.status }
            else k })
  | rawInput (s : State) (i : Input) (levels : BitVec 4) : EventStep s
      { s with monitor := s.monitor.setInput i ((s.monitor.input i).setLevels i levels s.running) }
  | window {s : State} (i : Input) (v : Nat) : (s.monitor.input i).candidate = some v →
      EventStep s (inputChanged i (s.monitor.input i).accepted v
        { s with monitor := s.monitor.setInput i ((s.monitor.input i).accept v) })
  | additivePulse (s : State) (i : InjId) : EventStep s (takePulse i s)
  | shotTimer (s : State) (i : InjId) : EventStep s (shotTimeOut i s)
  | tailTimer (s : State) (i : InjId) : EventStep s (tailTimeOut i s)
  | proveTail (s : State) (i : InjId) : EventStep s (proveTailTimeOut i s)
  | form {s : State} : s.repliesFull = false → EventStep s (answerForm (emptyBuffer s))
  | record {s : State} : EventStep s (emptyBuffer s)
  | endDropping (s : State) : EventStep s (endDropping s)
  | endOverflow (s : State) : EventStep s (endDropping (emptyBuffer s))
  | character {s : State} (c : Byte) : s.console.dropping = false →
      s.console.buffer.length < Config.consoleBufferSize →
      EventStep s { s with console.buffer := s.console.buffer ++ [c] }
  | dropped (s : State) : EventStep s { s with console.buffer := [], console.dropping := true }
  | output (s : State) : EventStep s { s with console := s.console.afterOutput }
  | stops (s : State) (supply : Supply) : EventStep s (stopWork supply s)
  | markerLost (s : State) : EventStep s { s with backup.markerGood := false }
  | warm (s : State) (address : Byte) (baud : BitVec 2) : EventStep s (warmStart address baud s)
  | cold (s : State) (address : Byte) (baud : BitVec 2) : EventStep s (coldStart address baud s)

/-- What a command does: an owner answers a frame or a console record, or an event happens. -/
inductive Acts : State → State → Prop
  | request {s : State} {kind : Byte} {f : Frame} {o : Owner} : validFrame s kind f = true →
      RequestOwner o → Acts s (sendReply kind f.tag (o (frameTaken s)).2 (o (frameTaken s)).1)
  | console {s : State} {o : Owner} : s.repliesFull = false → ConsoleOwner o →
      Acts s (answerConsole (o (emptyBuffer s)).2 (o (emptyBuffer s)).1)
  | consolePlan {s : State} (compartment recipe arm request : Nat) : s.repliesFull = false →
      Acts s (answerPlan (planCompartment compartment recipe arm request (emptyBuffer s)).2
        (planCompartment compartment recipe arm request (emptyBuffer s)).1)
  | event {s t : State} : EventStep s t → Acts s t

/-! ### The end of a batch in two parts (R121) -/

/-- The batch of an arm is over: its line is made, the arm has learned from a COMPLETE batch, BATCH
ENDED is posted and the arm is IDLE. -/
def batchOver (n : ArmId) (c : ArmConfig) (s : State) : State :=
  let t :=
    if (s.arm n).endOutcome = .complete then
      (makeLine (s.arm n).endOutcome n s).updArm n (Arm.learn c)
    else makeLine (s.arm n).endOutcome n s
  (post .batchEnded (armNumber n) (s.arm n).endOutcome.code (t.arm n).figures.gross t).updArm n
    Arm.toIdle

/-- The end of a batch: what is left to do once the arm is IDLE is to seal an ENDING load or to start
the idle timer. -/
theorem endBatch_eq (n : ArmId) (c : ArmConfig) (s : State) :
    endBatch n c s =
      if ((batchOver n c s).load.state = .ending && (batchOver n c s).planEmpty) = true then
        sealLoad (batchOver n c s)
      else planMayHaveEmptied (batchOver n c s) := rfl

/-! ### The form of a body leads to an owner -/

theorem fixedForm_owner {ws : List Nat} {owner : List Nat → Owner}
    (h : ∀ vs, RequestOwner (owner vs)) (b : List Byte) : RequestOwner (fixedForm ws owner b) := by
  unfold fixedForm
  split
  · exact h _
  · exact .refuse _

theorem countedForm_owner {offset width most : Nat} {ws : Nat → List Nat}
    {owner : List Nat → Owner} (h : ∀ vs, RequestOwner (owner vs)) (b : List Byte) :
    RequestOwner (countedForm offset width most ws owner b) := by
  unfold countedForm
  split
  · exact .refuse _
  · dsimp only
    split
    · exact .refuse _
    · exact fixedForm_owner h b

theorem takeRequest_acts {kind : Byte} {owner : List Byte → Owner} {f : Frame} {s t : State}
    (ho : ∀ b, RequestOwner (owner b)) (h : takeRequest kind owner f s = .next t) : Acts s t := by
  obtain ⟨hv, rfl⟩ | ⟨-, rfl⟩ := takeRequest_cases h
  · exact .request hv (ho _)
  · exact .event (.hunts s)

theorem repliesFull_of_consoleRequest {s : State} {q : ConsoleRequest}
    (h : s.consoleRequest = some q) : s.repliesFull = false := by
  unfold State.consoleRequest at h
  split at h
  · next hc => simp only [Bool.and_eq_true, Bool.not_eq_true'] at hc; exact hc.2
  · cases h

/-- A console record reaches the owner of its request (R71). -/
theorem runRequest_acts {s : State} (h : s.repliesFull = false) (q : ConsoleRequest) :
    Acts s (runRequest q s) := by
  cases q with
  | card c => exact .console h (.presentCard c)
  | veh v => exact .console h (.nameVehicle v)
  | plan c r a v => exact .consolePlan c r a v h
  | go a => exact .console h (.startArm a)
  | halt a => exact .console h (.stopArm a)
  | again a => exact .console h (.resumeArm a)
  | done => exact .console h .endLoad

theorem takeRecord_acts (s : State) : Acts s (takeRecord s) := by
  unfold takeRecord
  cases h : s.repliesFull with
  | true => exact .event .record
  | false =>
    rw [if_neg (by decide)]
    split
    · exact runRequest_acts h _
    · exact .event (.form h)

theorem takeCharacter_acts (c : Byte) (s : State) : Acts s (takeCharacter c s) := by
  unfold takeCharacter
  split
  · exact .event (.none s)
  · cases hd : s.console.dropping with
    | true =>
      rw [if_pos rfl]
      split
      · exact .event (.endDropping s)
      · exact .event (.none s)
    | false =>
      rw [if_neg (by decide)]
      split
      · split
        · exact .event (.none s)
        · exact takeRecord_acts s
      · split
        · next hl => exact .event (.character c hd hl)
        · exact .event (.dropped s)

/-! ### The step -/

/-- All that a command can do: one case of `Acts` for each arm of `exec`. -/
theorem exec_acts {i : Instr} {s t : State} (h : exec i s = .next t) : Acts s t := by
  cases i with
  | poll f => exact takeRequest_acts (fixedForm_owner fun _ => .poll) h
  | nextEvent f => exact takeRequest_acts (fixedForm_owner fun _ => .nextEvent) h
  | linkReset f => exact takeRequest_acts (fixedForm_owner fun _ => .linkReset) h
  | getLoad f => exact takeRequest_acts (fixedForm_owner fun _ => .getLoad) h
  | readMeterFault f => exact takeRequest_acts (fixedForm_owner fun _ => .readMeterFault) h
  | getPermissives f => exact takeRequest_acts (fixedForm_owner fun _ => .getPermissives) h
  | clearRackStop f => exact takeRequest_acts (fixedForm_owner fun _ => .clearRackStop) h
  | setClock f =>
    exact takeRequest_acts (fixedForm_owner fun _ => by
      split; exacts [.setClock _, .refuse _]) h
  | setLink f =>
    exact takeRequest_acts (fixedForm_owner fun _ => by
      split; exacts [.setLink _, .refuse _]) h
  | putDriver f =>
    exact takeRequest_acts (fixedForm_owner fun _ => by
      split; exacts [.putDriver _, .refuse _]) h
  | dropDriver f =>
    exact takeRequest_acts (fixedForm_owner fun _ => by
      split; exacts [.dropDriver _, .refuse _]) h
  | getDriver f =>
    exact takeRequest_acts (fixedForm_owner fun _ => by
      split; exacts [.getDriver _, .refuse _]) h
  | dropVehicle f =>
    exact takeRequest_acts (fixedForm_owner fun _ => by
      split; exacts [.dropVehicle _, .refuse _]) h
  | getVehicle f =>
    exact takeRequest_acts (fixedForm_owner fun _ => by
      split; exacts [.getVehicle _, .refuse _]) h
  | answerReferral f =>
    exact takeRequest_acts (fixedForm_owner fun _ => by
      split; exacts [.answerReferral _ _ _ _ _, .refuse _]) h
  | setAuthority f =>
    exact takeRequest_acts (fixedForm_owner fun _ => by
      split; exacts [.setAuthority _ _, .refuse _]) h
  | putAccount f =>
    exact takeRequest_acts (fixedForm_owner fun _ => by
      split; exacts [.putAccount _ _, .refuse _]) h
  | setAllocation f =>
    exact takeRequest_acts (fixedForm_owner fun _ => by
      split; exacts [.setAllocation _ _ _, .refuse _]) h
  | getAccount f =>
    exact takeRequest_acts (fixedForm_owner fun _ => by
      split; exacts [.getAccount _, .refuse _]) h
  | dropAccount f =>
    exact takeRequest_acts (fixedForm_owner fun _ => by
      split; exacts [.dropAccount _, .refuse _]) h
  | setLoadTimes f =>
    exact takeRequest_acts (fixedForm_owner fun _ => by
      split; exacts [.setLoadTimes _ _, .refuse _]) h
  | putProduct f =>
    exact takeRequest_acts (fixedForm_owner fun _ => by
      split; exacts [.putProduct _ _, .refuse _]) h
  | putArm f =>
    exact takeRequest_acts (fixedForm_owner fun _ => by
      split; exacts [.putArm _ _ _, .refuse _]) h
  | getArm f =>
    exact takeRequest_acts (fixedForm_owner fun _ => by
      split; exacts [.getArm _, .refuse _]) h
  | getTotals f =>
    exact takeRequest_acts (fixedForm_owner fun _ => by
      split; exacts [.getTotals _, .refuse _]) h
  | setBay f =>
    exact takeRequest_acts (fixedForm_owner fun _ => by
      split; exacts [.setBay _ _, .refuse _]) h
  | putInjector f =>
    exact takeRequest_acts (fixedForm_owner fun _ => by
      split; exacts [.putInjector _ _ _ _ _ _ _ _ _ _ _ _, .refuse _]) h
  | getInjector f =>
    exact takeRequest_acts (fixedForm_owner fun _ => by
      split; exacts [.getInjector _, .refuse _]) h
  | clearInjectorFault f =>
    exact takeRequest_acts (fixedForm_owner fun _ => by
      split; exacts [.clearInjectorFault _, .refuse _]) h
  | dropRecipe f =>
    exact takeRequest_acts (fixedForm_owner fun _ => by
      split; exacts [.dropRecipe _, .refuse _]) h
  | beginMeterRun f =>
    exact takeRequest_acts (fixedForm_owner fun _ => by
      split; exacts [.beginMeterRun _ _, .refuse _]) h
  | meterResult f =>
    exact takeRequest_acts (fixedForm_owner fun _ => by
      split; exacts [.meterResult _ _ _, .refuse _]) h
  | beginInjectorProving f =>
    exact takeRequest_acts (fixedForm_owner fun _ => by
      split; exacts [.beginInjectorProving _, .refuse _]) h
  | proveShot f =>
    exact takeRequest_acts (fixedForm_owner fun _ => by
      split; exacts [.proveShot _, .refuse _]) h
  | injectorResult f =>
    exact takeRequest_acts (fixedForm_owner fun _ => by
      split; exacts [.injectorResult _ _, .refuse _]) h
  | endProving f =>
    exact takeRequest_acts (fixedForm_owner fun _ => by
      split; exacts [.endProving _ _, .refuse _]) h
  | readNote f =>
    exact takeRequest_acts (fixedForm_owner fun _ => by
      split; exacts [.readNote _, .refuse _]) h
  | releaseNote f =>
    exact takeRequest_acts (fixedForm_owner fun _ => by
      split; exacts [.releaseNote _, .refuse _]) h
  | putVehicle f =>
    exact takeRequest_acts (countedForm_owner fun _ => by
      split; exacts [.putVehicle _, .refuse _]) h
  | setFilter f =>
    exact takeRequest_acts (countedForm_owner fun _ => by
      split; exacts [.setFilter _ _ _, .refuse _]) h
  | putMeterCurve f =>
    exact takeRequest_acts (countedForm_owner fun _ => by
      split; exacts [.putMeterCurve _ _, .refuse _]) h
  | putRecipe f =>
    exact takeRequest_acts (countedForm_owner fun _ => by
      split; exacts [.putRecipe _, .refuse _]) h
  | presentCard src =>
    cases src with
    | host f =>
      exact takeRequest_acts (fixedForm_owner fun _ => by
        split; exacts [.presentCard _, .refuse _]) h
    | console =>
      simp only [exec, execPresentCard] at h
      split at h
      · next hq => cases h; exact runRequest_acts (repliesFull_of_consoleRequest hq) (.card _)
      · cases h; exact .event (.none s)
  | nameVehicle src =>
    cases src with
    | host f =>
      exact takeRequest_acts (fixedForm_owner fun _ => by
        split; exacts [.nameVehicle _, .refuse _]) h
    | console =>
      simp only [exec, execNameVehicle] at h
      split at h
      · next hq => cases h; exact runRequest_acts (repliesFull_of_consoleRequest hq) (.veh _)
      · cases h; exact .event (.none s)
  | planCompartment src =>
    cases src with
    | host f =>
      exact takeRequest_acts (fixedForm_owner fun _ => by
        split; exacts [.planCompartment _ _ _ _, .refuse _]) h
    | console =>
      simp only [exec, execPlanCompartment] at h
      split at h
      · next hq => cases h; exact runRequest_acts (repliesFull_of_consoleRequest hq) (.plan _ _ _ _)
      · cases h; exact .event (.none s)
  | endLoad src =>
    cases src with
    | host f =>
      exact takeRequest_acts (fixedForm_owner fun _ => by
        split; exacts [.endLoad _, .refuse _]) h
    | console =>
      simp only [exec, execEndLoad] at h
      split at h
      · next hq => cases h; exact runRequest_acts (repliesFull_of_consoleRequest hq) .done
      · cases h; exact .event (.none s)
  | startArm src =>
    cases src with
    | host f =>
      exact takeRequest_acts (fixedForm_owner fun _ => by
        split; exacts [.startArm _, .refuse _]) h
    | console =>
      simp only [exec, execStartArm] at h
      split at h
      · next hq => cases h; exact runRequest_acts (repliesFull_of_consoleRequest hq) (.go _)
      · cases h; exact .event (.none s)
  | stopArm src =>
    cases src with
    | host f =>
      exact takeRequest_acts (fixedForm_owner fun _ => by
        split; exacts [.stopArm _, .refuse _]) h
    | console =>
      simp only [exec, execStopArm] at h
      split at h
      · next hq => cases h; exact runRequest_acts (repliesFull_of_consoleRequest hq) (.halt _)
      · cases h; exact .event (.none s)
  | resumeArm src =>
    cases src with
    | host f =>
      exact takeRequest_acts (fixedForm_owner fun _ => by
        split; exacts [.resumeArm _, .refuse _]) h
    | console =>
      simp only [exec, execResumeArm] at h
      split at h
      · next hq => cases h; exact runRequest_acts (repliesFull_of_consoleRequest hq) (.again _)
      · cases h; exact .event (.none s)
  | unknownKind kind f =>
    simp only [exec, execUnknownKind] at h
    split at h
    · cases h
    · exact takeRequest_acts (fun _ => .refuse _) h
  | discardedFrame kind f =>
    cases h
    split
    · exact .event (.none s)
    · exact .event (.hunts s)
  | interByteGap | framingError | bodyLengthAbove240 => cases h; exact .event (.hunts s)
  | silenceTimerExpiry =>
    cases h
    split
    · exact .event .silence
    · exact .event (.none s)
  | clockAdvance =>
    cases h
    split
    · exact .event (.clock s)
    · split
      · exact .event (.clockOnBattery s)
      · exact .event (.none s)
  | referralTimerExpiry =>
    cases h
    split
    · exact .event (.referral s)
    · exact .event (.none s)
  | identificationTimerExpiry =>
    cases h
    split
    · exact .event (.identification s)
    · exact .event (.none s)
  | idleTimerExpiry =>
    cases h
    split
    · next hc =>
      simp only [Bool.and_eq_true, decide_eq_true_eq] at hc
      exact .event (.idle hc.2)
    · exact .event (.none s)
  | meterPulse n ch =>
    simp only [exec, execMeterPulse] at h
    split at h
    · split at h
      · cases h; exact .event (.pulseA n)
      · next c hc =>
        split at h
        · cases h; exact .event (.none s)
        · next hs => cases h; exact .event (.pulseB n c hc (by simpa using hs))
      · cases h; exact .event (.none s)
    · cases h; exact .event (.none s)
  | sample n probe =>
    cases h
    split
    · exact .event (.sample s n probe)
    · exact .event (.none s)
  | noFlowTimerExpiry n =>
    cases h
    split
    · exact .event (.noFlow s n)
    · exact .event (.none s)
  | closingTimerExpiry n =>
    cases h
    split
    · exact .event (.closingTimer s n)
    · exact .event (.none s)
  | trailingTimerExpiry n =>
    cases h
    split
    · exact .event (.trailingTimer s n)
    · exact .event (.none s)
  | rawInputChange i levels => cases h; exact .event (.rawInput s i levels)
  | debounceWindowExpiry i =>
    simp only [exec, execDebounceWindowExpiry] at h
    split at h
    · next v hv =>
      split at h
      · cases h; exact .event (.window i v hv)
      · cases h; exact .event (.none s)
    · cases h; exact .event (.none s)
  | additivePulse i =>
    cases h
    split
    · exact .event (.additivePulse s i)
    · exact .event (.none s)
  | shotTimerExpiry i =>
    cases h
    split
    · exact .event (.shotTimer s i)
    · exact .event (.none s)
  | tailTimerExpiry i =>
    cases h
    split
    · exact .event (.tailTimer s i)
    · exact .event (.none s)
  | proveShotDone i =>
    cases h
    split
    · exact .event (.proveTail s i)
    · exact .event (.none s)
  | consoleRecordOverflow c rest =>
    cases h
    split
    · exact .event (.endOverflow s)
    · exact .event (.none s)
  | consoleMalformedRecord =>
    cases h
    split
    · next hc =>
      simp only [Bool.and_eq_true, Bool.not_eq_true'] at hc
      exact .event (.form hc.1.2)
    · exact .event (.none s)
  | consoleOutput =>
    cases h
    split
    · exact .event (.output s)
    · exact .event (.none s)
  | powerFail => cases h; exact .event (.stops s .off)
  | resetAsserted =>
    cases h
    split
    · exact .event (.none s)
    · exact .event (.stops s .reset)
  | markerLost =>
    cases h
    split
    · exact .event (.markerLost s)
    · exact .event (.none s)
  | startUp address baud =>
    cases h
    split
    · exact .event (.warm s address baud)
    · exact .event (.cold s address baud)
  | leadByteReceived =>
    cases h
    split
    · next hl => exact .event (.lead hl)
    · exact .event (.none s)
  | replyEnd => cases h; exact .event (.replyEnd s)
  | consoleCharacter c =>
    cases h
    split
    · exact takeCharacter_acts c s
    · exact .event (.none s)
  | recordWhileFourRepliesWait =>
    cases h
    split
    · exact .event .record
    · exact .event (.none s)

/-- What a millisecond and every command keep true, every step keeps true. -/
theorem step_keeps {P : State → Prop} (rest : ∀ s l, P s → P { s with pending := l })
    (tick : ∀ s, P s → P s.tick) (acts : ∀ {s t}, P s → Acts s t → P t)
    {s t : State} (h : P s) (hs : step s = .next t) : P t := by
  unfold step at hs
  split at hs
  · exact acts (rest s _ h) (exec_acts hs)
  · cases hs; exact tick s h

end Sys2Proof.Machine
end

section
/-! SUPPORT AND PROOF. The bounds of the link and of the console through every step: the blocks behind
the two ports only post events and write the display. -/

namespace Sys2Proof.Machine

/-! ### What the blocks behind the ports can do to them -/

/-- From `s` to `t` events have been posted and the display may have changed; nothing else of the two
ports has, and the event queue has not grown beyond its places. -/
structure Outward (s t : State) : Prop where
  port : t.port = { s.port with events := t.port.events, overflow := t.port.overflow }
  events : t.port.events.length ≤ max s.port.events.length 32
  buffer : t.console.buffer = s.console.buffer
  dropping : t.console.dropping = s.console.dropping
  replies : t.console.replies = s.console.replies

theorem Outward.same {s t : State} (hp : t.port = s.port) (hc : t.console = s.console) :
    Outward s t := by
  constructor <;> simp [hp, hc]

@[simp] theorem Outward.refl (s : State) : Outward s s := .same rfl rfl

theorem Outward.trans {s t u : State} (a : Outward s t) (b : Outward t u) : Outward s u where
  port := by have h := b.port; rw [a.port] at h; exact h
  events := by have := a.events; have := b.events; omega
  buffer := b.buffer.trans a.buffer
  dropping := b.dropping.trans a.dropping
  replies := b.replies.trans a.replies

theorem Outward.eta {s t : State} (h : Outward s t) {u : State} (hp : u.port = t.port)
    (hc : u.console = t.console) : Outward s u := h.trans (.same hp hc)

@[simp] theorem Outward.post {s t : State} (h : Outward s t) (k : EventKind) (a c v : Nat) :
    Outward s (Machine.post k a c v t) :=
  h.trans
    { port := by rw [post_rest], events := (post_events k a c v t).1, buffer := by rw [post_console]
      dropping := by rw [post_console], replies := by rw [post_console] }

@[simp] theorem Outward.enterLoad {s t : State} (h : Outward s t) (l : LoadState) :
    Outward s (Machine.enterLoad l t) := by
  refine h.trans ?_
  unfold Machine.enterLoad
  split
  · exact .refl t
  · constructor <;> simp [Console.show]

@[simp] theorem Outward.setLine2 {s t : State} (h : Outward s t) (l : Line2) :
    Outward s (Machine.setLine2 l t) := h.trans (by constructor <;> simp [Machine.setLine2])

@[simp] theorem Outward.updArm {s t : State} (h : Outward s t) (n : ArmId) (f : Arm → Arm) :
    Outward s (t.updArm n f) := h.eta rfl rfl

@[simp] theorem Outward.setArm {s t : State} (h : Outward s t) (n : ArmId) (a : Arm) :
    Outward s (t.setArm n a) := h.eta rfl rfl

@[simp] theorem Outward.setInjector {s t : State} (h : Outward s t) (i : InjId) (j : Injector) :
    Outward s (t.setInjector i j) := h.eta rfl rfl

@[simp] theorem Outward.updRecord {s t : State} (h : Outward s t) (f : OpenLoad → OpenLoad) :
    Outward s (t.updRecord f) := h.eta rfl rfl

@[simp] theorem Outward.startIdleTimer {s t : State} (h : Outward s t) :
    Outward s (Machine.startIdleTimer t) := h.eta rfl rfl

@[simp] theorem Outward.stopIdleTimer {s t : State} (h : Outward s t) :
    Outward s (Machine.stopIdleTimer t) := h.eta rfl rfl

@[simp] theorem Outward.chosen {s t : State} (h : Outward s t) : Outward s t.chosen :=
  h.eta rfl rfl

@[simp] theorem Outward.countLoad {s t : State} (h : Outward s t) (card : Nat) :
    Outward s (Machine.countLoad card t) := h.eta rfl rfl

theorem Outward.afterStartUp {s t : State} (h : Outward s t) :
    Outward s (Machine.afterStartUp t) := h.eta rfl rfl

theorem Outward.forArms {s t : State} {f : ArmId → State → State}
    (hf : ∀ k u, Outward u (f k u)) (h : Outward s t) : Outward s (Machine.forArms f t) :=
  forArms_invariant _ _ (fun k u hu => hu.trans (hf k u)) h

theorem Outward.forInjectors {s t : State} {f : InjId → State → State}
    (hf : ∀ k u, Outward u (f k u)) (h : Outward s t) : Outward s (Machine.forInjectors f t) :=
  forInjectors_invariant _ _ (fun k u hu => hu.trans (hf k u)) h

/-! ### The arms and the injectors -/

@[simp] theorem Outward.offer {s t : State} (h : Outward s t) (i : InjId) :
    Outward s (Machine.offer i t) :=
  h.trans (by rw [(offer_frame i t).rest]; exact .same rfl rfl)

@[simp] theorem Outward.offerAll {s t : State} (h : Outward s t) : Outward s (Machine.offerAll t) :=
  h.trans (by rw [(offerAll_frame t).rest]; exact .same rfl rfl)

@[simp] theorem Outward.enterHeld {s t : State} (h : Outward s t) (k : HoldCause) (n : ArmId) :
    Outward s (Machine.enterHeld k n t) := by
  obtain ⟨-, e⟩ | ⟨-, e⟩ := enterHeld_cases k n t <;> rw [e] <;> simp [h]

@[simp] theorem Outward.enterClosing {s t : State} (h : Outward s t) (o : BatchOutcome)
    (n : ArmId) : Outward s (Machine.enterClosing o n t) :=
  h.trans (by rw [(enterClosing_frame o n t).1.rest]; exact .same rfl rfl)

@[simp] theorem Outward.cancelArmed {s t : State} (h : Outward s t) (n : ArmId) :
    Outward s (Machine.cancelArmed n t) :=
  h.trans (by rw [(cancelArmed_frame n t).1]; exact .same rfl rfl)

@[simp] theorem Outward.makeLine {s t : State} (h : Outward s t) (o : BatchOutcome) (n : ArmId) :
    Outward s (Machine.makeLine o n t) :=
  h.trans (by rw [(makeLine_rest o n t).1]; exact .same rfl rfl)

@[simp] theorem Outward.stopArmNow {s t : State} (h : Outward s t) (n : ArmId) :
    Outward s (Machine.stopArmNow n t) := by
  obtain e | e := stopArmNow_cases n t <;> rw [e] <;> simp [h]

@[simp] theorem Outward.losePermissive {s t : State} (h : Outward s t) (n : ArmId) :
    Outward s (Machine.losePermissive n t) := by
  unfold Machine.losePermissive; split <;> simp [h]

@[simp] theorem Outward.loseCoupler {s t : State} (h : Outward s t) (n : ArmId) :
    Outward s (Machine.loseCoupler n t) := by
  unfold Machine.loseCoupler; split <;> simp [h]

@[simp] theorem Outward.rackStopArm {s t : State} (h : Outward s t) (n : ArmId) :
    Outward s (Machine.rackStopArm n t) :=
  h.trans (by rw [(rackStopArm_rest n t).1]; exact .same rfl rfl)

@[simp] theorem Outward.planMayHaveEmptied {s t : State} (h : Outward s t) :
    Outward s (Machine.planMayHaveEmptied t) := by
  unfold Machine.planMayHaveEmptied; split <;> simp [h]

@[simp] theorem Outward.storeNote {s t : State} (h : Outward s t) (r : OpenLoad)
    (cause : EndCause) : Outward s (Machine.storeNote r cause t) := by
  refine .setLine2 (.enterLoad ?_ _) _
  exact h.eta rfl rfl

@[simp] theorem Outward.sealLoad {s t : State} (h : Outward s t) :
    Outward s (Machine.sealLoad t) := by
  obtain ⟨r, cause, -, -, e⟩ | ⟨-, e⟩ := sealLoad_cases t <;> rw [e] <;> simp [h]

theorem endOpenLoad_outward (cause : EndCause) (s : State) : Outward s (endOpenLoad cause s) := by
  have hf : ∀ (k : ArmId) (u : State), Outward u (match u.entryOf k with
      | some e => if e.state = .armed then cancelArmed k u else stopArmNow k u
      | none => u) := by
    intro k u
    split
    · split <;> simp
    · exact .refl u
  have h : Outward s (enterLoad .ending (forArms (fun n s => match s.entryOf n with
      | some e => if e.state = .armed then cancelArmed n s else stopArmNow n s
      | none => s) (stopIdleTimer (s.updRecord fun r => { r with endCause := some cause })))) :=
    (Outward.forArms hf (by simp)).enterLoad _
  simp only [endOpenLoad]
  split
  · exact h.sealLoad
  · exact h

theorem recomputed_outward (s : State) : Outward s (recomputed s) := by
  simp only [recomputed]
  split
  · exact .refl s
  · refine .post ?_ ..
    exact .same rfl rfl

theorem recomputePermissive_outward (s : State) : Outward s (recomputePermissive s) := by
  have h := recomputed_outward s
  simp only [recomputePermissive]
  split
  · exact h
  · split
    · exact h.offerAll
    · exact h.forArms fun k u => by simp

theorem rackStopHandOver_outward (lost : Bool) (n : ArmId) (s : State) :
    Outward s (rackStopHandOver lost n s) := by
  unfold rackStopHandOver
  split
  · split
    · exact (((Outward.refl s).chosen).losePermissive n).rackStopArm n
    · exact (((Outward.refl s).chosen).rackStopArm n).losePermissive n
  · exact (Outward.refl s).rackStopArm n

theorem endProveShot_outward (i : InjId) (c : InjectorConfig) (p : ProvingRecord) (r : ProveShot)
    (mark : ProveEnd) (s : State) : Outward s (endProveShot i c p r mark s) := by
  unfold endProveShot; simp

theorem creditShot_outward (i : InjId) (n : ArmId) (ml : Nat) (s : State) :
    Outward s (creditShot i n ml s) := by
  unfold creditShot; simp

theorem rackStopInjector_outward (i : InjId) (s : State) : Outward s (rackStopInjector i s) := by
  unfold rackStopInjector
  split
  · split
    · exact ((creditShot_outward ..).setInjector ..).offer _
    · exact .refl s
  · split
    · exact endProveShot_outward ..
    · exact .refl s
  · exact .refl s

theorem setRackStop_outward (s : State) : Outward s (setRackStop s) := by
  have hp : Outward s (post .rackStop 0 0 0 { s with monitor.rackStop := true }) := by
    refine .post ?_ ..
    exact .same rfl rfl
  have ht := hp.trans (recomputed_outward _)
  have hc : ∀ u, Outward u (rackStopCancel u) := fun u => by
    have h : Outward u (forArms cancelArmed u) := Outward.forArms (by simp) (.refl u)
    simp only [rackStopCancel]
    split
    · exact h.planMayHaveEmptied
    · exact h
  simp only [setRackStop]
  exact ((ht.trans (hc _)).forArms (rackStopHandOver_outward _)).forInjectors
    rackStopInjector_outward

theorem inputChanged_outward (i : Input) (old v : Nat) (s : State) :
    Outward s (inputChanged i old v s) := by
  unfold inputChanged
  split
  · exact ((Outward.refl s).post ..).trans (recomputePermissive_outward _)
  · exact ((Outward.refl s).post ..).trans (recomputePermissive_outward _)
  · exact ((Outward.refl s).post ..).trans (recomputePermissive_outward _)
  · split
    · simp
    · dsimp only
      split
      · simp
      · exact ((Outward.refl s).post ..).trans (setRackStop_outward _)
  · dsimp only; split <;> simp
  · dsimp only; split <;> simp

theorem faultInjector_outward (i : InjId) (c : InjectorConfig) (n : ArmId) (ml : Nat) (s : State) :
    Outward s (faultInjector i c n ml s) := by
  have hm : ∀ k u, Outward u (mandatoryFault i k u) := fun k u => by
    unfold mandatoryFault; split <;> simp
  have ho : ∀ k u, Outward u (optionalFault i k u) := fun k u => by
    unfold optionalFault; split <;> simp
  simp only [faultInjector]
  split
  · exact Outward.forArms hm (by simp)
  · exact Outward.forArms ho (by simp)

theorem endShot_outward (i : InjId) (c : InjectorConfig) (r : Shot) (s : State) :
    Outward s (endShot i c r s) := by
  have h : ∀ (bad ml : Nat), Outward s (creditShot i r.arm ml (s.setInjector i
      { s.injector i with badCount := bad })) := fun bad ml =>
    Outward.trans (by simp) (creditShot_outward ..)
  simp only [endShot]
  generalize (if shotGood c r.pulses = true then 0 else (s.injector i).badCount + 1) = bad
  split
  · exact (h _ _).trans (faultInjector_outward ..)
  · exact ((h _ _).setInjector ..).offer _

theorem takePulse_outward (i : InjId) (s : State) : Outward s (takePulse i s) := by
  have hc : ∀ c count, Outward s (creepFound i c count s) := fun c count => by
    simp only [creepFound]
    split
    · exact (((Outward.refl s).updArm ..).post ..).setInjector ..
    · exact ((Outward.refl s).post ..).setInjector ..
  unfold takePulse
  split
  · simp only [idlePulse]
    split
    · exact .refl s
    · split
      · exact hc ..
      · simp
  · simp
  · simp
  · exact .refl s
  · exact .refl s

theorem shotTimeOut_outward (i : InjId) (s : State) : Outward s (shotTimeOut i s) := by
  unfold shotTimeOut
  split
  · split <;> simp
  · split
    · split <;> simp
    · exact .refl s
  · exact .refl s

theorem tailTimeOut_outward (i : InjId) (s : State) : Outward s (tailTimeOut i s) := by
  unfold tailTimeOut
  split
  · split
    · exact endShot_outward ..
    · exact .refl s
  · exact .refl s

theorem proveTailTimeOut_outward (i : InjId) (s : State) : Outward s (proveTailTimeOut i s) := by
  unfold proveTailTimeOut
  split
  · split
    · split
      · exact endProveShot_outward ..
      · exact .refl s
    · exact .refl s
  · exact .refl s

/-! ### Samples -/

theorem engineSample_outward (n : ArmId) (c : ArmConfig) (p : Product) (probe : Option Int)
    (s : State) : Outward s (engineSample n c p probe s).1 := by
  have hu : ∀ b t, Outward t (postUnbatched n b t) := fun b t => by
    simp only [postUnbatched]; split <;> simp
  have hf : ∀ f t, Outward t (postFault n f t) := fun f t => by
    unfold postFault
    split
    · exact ((Outward.refl t).post ..).eta rfl rfl
    · exact .refl t
  simp only [engineSample]
  exact (Outward.trans (by simp) (hu _ _)).trans (hf _ _)

theorem flowingShare_outward (n : ArmId) (c : ArmConfig) (r : SampleReport)
    (cause : Option HoldCause) (owed : List Nat) (s : State) :
    Outward s (flowingShare n c r cause owed s) := by
  unfold flowingShare
  split
  · simp
  · split <;> simp

theorem closingShare_outward (n : ArmId) (c : ArmConfig) (pulses : Nat) (s : State) :
    Outward s (closingShare n c pulses s) := by
  have hr : ∀ r t, Outward t (endRun n r t) := fun r t => by
    simp only [endRun]; exact ((Outward.refl t).post ..).updArm ..
  have hb : ∀ t, Outward t (endBatch n c t) := fun t => by
    have h : Outward t (batchOver n c t) := by
      simp only [batchOver]
      split
      · exact ((((Outward.refl t).makeLine ..).updArm ..).post ..).updArm ..
      · exact (((Outward.refl t).makeLine ..).post ..).updArm ..
    rw [endBatch_eq]
    split
    · exact h.sealLoad
    · exact h.planMayHaveEmptied
  simp only [closingShare]
  split
  · split
    · exact Outward.trans (by simp) (hr _ _)
    · exact Outward.trans (by simp) (hb _)
  · simp

theorem flowingBatchSample_outward (n : ArmId) (c : ArmConfig) (r : SampleReport)
    (cause : Option HoldCause) (s : State) : Outward s (flowingBatchSample n c r cause s) := by
  have hc : Outward s (countCycles r.delta n s.chosen) := by simp [countCycles]
  simp only [flowingBatchSample]
  refine (Outward.trans ?_ (flowingShare_outward ..)).offerAll
  split
  · exact hc.offerAll
  · exact hc

theorem controllerSample_outward (n : ArmId) (c : ArmConfig) (r : SampleReport) (s : State) :
    Outward s (controllerSample n c r s) := by
  have h : Outward s (if (r.fault.isSome && r.overspeed) = true then s.chosen else s) := by
    split <;> simp
  simp only [controllerSample]
  split
  · split
    · exact (h.updArm ..).trans (flowingShare_outward ..)
    · exact h.trans (flowingBatchSample_outward ..)
  · split
    · exact h.trans (closingShare_outward ..)
    · exact h

theorem sampleArm_outward (n : ArmId) (probe : Option Int) (s : State) :
    Outward s (sampleArm n probe s) := by
  unfold sampleArm
  split
  · exact .refl s
  · split
    · exact .refl s
    · exact (engineSample_outward ..).trans (controllerSample_outward ..)

/-! ### Identification -/

theorem denyIdentification_outward (r : DenyReason) (card : Nat) (s : State) :
    Outward s (denyIdentification r card s) := by
  have h : Outward s { post .identificationDenied 0 r.code (cardLow card) s with
      permit.held := none } := ((Outward.refl s).post ..).eta rfl rfl
  refine .enterLoad ?_ _
  exact (h.setLine2 _).eta rfl rfl

theorem holdPermit_outward (p : Permit) (s : State) : Outward s (holdPermit p s) := by
  refine .enterLoad ?_ _
  exact .same rfl rfl

theorem openReferral_outward (card : Nat) (r : ReferralReason) (s : State) :
    Outward s (openReferral card r s) := by
  refine .post (.enterLoad ?_ _) ..
  exact .same rfl rfl

theorem nameFor_outward (p : Permit) (number : Nat) (s : State) :
    Outward s (nameFor p number s).1 := by
  obtain ⟨-, e⟩ | ⟨r, -, e⟩ := nameFor_cases p number s <;> rw [e]
  · show Outward s (openLoad p number s)
    refine .post (.countLoad (.startIdleTimer (.enterLoad ?_ _)) _) ..
    exact .same rfl rfl
  · exact denyIdentification_outward ..

theorem presentCard_outward (card : Nat) (s : State) : Outward s (presentCard card s).1 := by
  have hl : ∀ u, Outward u (identifyLocally card u).1 := fun u => by
    unfold identifyLocally
    split
    · exact denyIdentification_outward ..
    · dsimp only
      split
      · exact holdPermit_outward ..
      · have h := fun d v => (holdPermit_outward (permitOf d) u).trans
          (nameFor_outward (permitOf d) v _)
        split <;> next hn => have := congrArg Prod.fst hn; dsimp only at this; rw [← this]; exact h _ _
  unfold presentCard
  split
  · exact .refl s
  · split
    · exact .refl s
    · have h := (Outward.refl s).post .cardRead 0 (cardHigh card) (cardLow card)
      unfold decideCard
      refine h.trans ?_
      split
      · exact hl _
      · split
        · exact denyIdentification_outward ..
        · exact openReferral_outward ..

theorem nameVehicle_outward (number : Nat) (s : State) : Outward s (nameVehicle number s).1 := by
  have h := fun p => nameFor_outward p number s
  unfold nameVehicle
  split
  · exact .refl s
  · split
    · split
      · exact .refl s
      · split <;> next hn => have := congrArg Prod.fst hn; dsimp only at this; rw [← this]; exact h _
    · exact .refl s

theorem endReferral_outward (r : Referral) (s : State) : Outward s (endReferral r s) :=
  .same rfl rfl

theorem answerReferral_outward (card decision account classes bound : Nat) (s : State) :
    Outward s (answerReferral card decision account classes bound s).1 := by
  have ha : ∀ p u, Outward u (allowReferral p u) := fun p u => by
    have h := (endReferral_outward .empty u).trans (holdPermit_outward p _)
    unfold allowReferral
    dsimp only
    split
    · split
      · exact h
      · exact h.trans (nameFor_outward ..)
    · exact h
  unfold answerReferral
  split
  · exact .refl s
  · split
    · split
      · unfold decideReferral
        split
        · exact ha ..
        · exact (endReferral_outward ..).trans (denyIdentification_outward ..)
      · exact .refl s
    · exact .refl s
    · exact .refl s

theorem linkLost_outward (s : State) : Outward s (linkLost s) := by
  unfold linkLost
  split
  · exact (endReferral_outward ..).trans (denyIdentification_outward ..)
  · exact .refl s

theorem expireReferral_outward (s : State) : Outward s (expireReferral s) := by
  unfold expireReferral
  split
  · exact (endReferral_outward ..).trans (denyIdentification_outward ..)
  · exact .refl s

theorem expireIdentification_outward (s : State) : Outward s (expireIdentification s) := by
  unfold expireIdentification
  split
  · exact expireReferral_outward s
  · exact denyIdentification_outward ..
  · exact .refl s

theorem abandonIdentification_outward (s : State) : Outward s (abandonIdentification s) := by
  refine .enterLoad ?_ _
  exact .same rfl rfl

/-! ### Every owner but the port's own -/

/-- The requests of the Rack Link Port's own records (sections 1.4 to 1.6). -/
inductive PortOwner : Owner → Prop
  | poll : PortOwner poll
  | nextEvent : PortOwner nextEvent
  | linkReset : PortOwner linkReset
  | setClock (v : Nat) : PortOwner (setClock v)
  | setLink (v : Nat) : PortOwner (setLink v)

theorem setBay_outward (ceiling vapour : Nat) (s : State) : Outward s (setBay ceiling vapour s).1 := by
  unfold setBay
  split
  · exact .refl s
  · split
    · refine .trans ?_ (recomputePermissive_outward _)
      exact .same rfl rfl
    · exact .refl s

theorem clearRackStop_outward (s : State) : Outward s (clearRackStop s).1 := by
  unfold clearRackStop
  split
  · exact .refl s
  · split
    · exact .refl s
    · refine .trans (.post ?_ ..) (recomputePermissive_outward _)
      exact .same rfl rfl

theorem planCompartment_outward (compartment recipe arm request : Nat) (s : State) :
    Outward s (planCompartment compartment recipe arm request s).1 := by
  unfold planCompartment
  split
  · exact .refl s
  · split
    · exact .refl s
    · split
      · split
        · exact .refl s
        · split
          · exact .refl s
          · exact .same rfl rfl
      · exact .refl s

theorem endLoad_outward (cause : Nat) (s : State) : Outward s (endLoad cause s).1 := by
  unfold endLoad
  split
  · exact .refl s
  · split
    · exact .refl s
    · exact .refl s
    · exact abandonIdentification_outward s
    · exact abandonIdentification_outward s
    · exact endOpenLoad_outward ..

theorem startArm_outward (arm : Nat) (s : State) : Outward s (startArm arm s).1 := by
  unfold startArm
  split
  · exact .refl s
  · split
    · split
      · exact .refl s
      · exact (((Outward.refl s).updRecord _).stopIdleTimer.updArm ..).post ..
    · exact .refl s

theorem stopArm_outward (arm : Nat) (s : State) : Outward s (stopArm arm s).1 := by
  unfold stopArm
  split
  · exact .refl s
  · split <;> simp [armStateReply]

theorem resumeArm_outward (arm : Nat) (s : State) : Outward s (resumeArm arm s).1 := by
  unfold resumeArm
  split
  · exact .refl s
  · split
    · split
      · exact .refl s
      · split
        · simp [armStateReply]
        · split
          · exact .refl s
          · exact (((Outward.refl s).updArm ..).stopIdleTimer.post ..).offerAll
    · exact .refl s

theorem clearInjectorFault_outward (injector : Nat) (s : State) :
    Outward s (clearInjectorFault injector s).1 := by
  unfold clearInjectorFault
  split
  · exact .refl s
  · split
    · exact ((Outward.refl s).setInjector ..).offer _
    · exact .refl s

theorem endProving_outward (subject number : Nat) (s : State) :
    Outward s (endProving subject number s).1 := by
  unfold endProving
  split
  · unfold endMeterProving
    split
    · exact .refl s
    · split
      · exact .refl s
      · simp
  · unfold endInjectorProving
    split
    · split
      · exact .refl s
      · exact ((Outward.refl s).setInjector ..).offer _
    · exact .refl s
  · exact .refl s

theorem beginMeterRun_outward (arm volume : Nat) (s : State) :
    Outward s (beginMeterRun arm volume s).1 := by
  unfold beginMeterRun
  split
  · exact .refl s
  · split
    · exact .refl s
    · split
      · exact .refl s
      · split
        · exact .refl s
        · exact ((Outward.refl s).updArm ..).post ..

/-- What an owner of another block than the port does to the two ports. -/
theorem owner_outward {o : Owner} (h : RequestOwner o) :
    PortOwner o ∨ ∀ s, Outward s (o s).1 := by
  cases h with
  | poll => exact .inl .poll
  | nextEvent => exact .inl .nextEvent
  | linkReset => exact .inl .linkReset
  | setClock v => exact .inl (.setClock v)
  | setLink v => exact .inl (.setLink v)
  | answerReferral => exact .inr fun s => answerReferral_outward ..
  | presentCard => exact .inr fun s => presentCard_outward ..
  | nameVehicle => exact .inr fun s => nameVehicle_outward ..
  | planCompartment => exact .inr fun s => planCompartment_outward ..
  | endLoad => exact .inr fun s => endLoad_outward ..
  | startArm => exact .inr fun s => startArm_outward ..
  | stopArm => exact .inr fun s => stopArm_outward ..
  | resumeArm => exact .inr fun s => resumeArm_outward ..
  | setBay => exact .inr fun s => setBay_outward ..
  | clearRackStop => exact .inr fun s => clearRackStop_outward ..
  | clearInjectorFault => exact .inr fun s => clearInjectorFault_outward ..
  | endProving => exact .inr fun s => endProving_outward ..
  | beginMeterRun => exact .inr fun s => beginMeterRun_outward ..
  | refuse | getLoad | getPermissives => exact .inr .refl
  | putDriver | dropDriver | getDriver | putVehicle | dropVehicle | getVehicle | setFilter
  | setAuthority =>
    refine .inr fun s => ?_
    simp only [putDriver, dropDriver, getDriver, putVehicle, dropVehicle, getVehicle, setFilter,
      setAuthority]
    repeat' split
    all_goals exact .same rfl rfl
  | putAccount | setAllocation | getAccount | dropAccount | setLoadTimes | readNote
  | releaseNote =>
    refine .inr fun s => ?_
    simp only [putAccount, setAllocation, getAccount, dropAccount, setLoadTimes, readNote,
      releaseNote]
    repeat' split
    all_goals exact .same rfl rfl
  | putProduct | putArm | putMeterCurve | getArm | getTotals | readMeterFault | meterResult =>
    refine .inr fun s => ?_
    simp only [putProduct, putArm, putMeterCurve, getArm, getTotals, readMeterFault, meterResult]
    repeat' split
    all_goals exact .same rfl rfl
  | putInjector | putRecipe | getInjector | dropRecipe | beginInjectorProving | proveShot
  | injectorResult =>
    refine .inr fun s => ?_
    simp only [putInjector, putRecipe, getInjector, dropRecipe, beginInjectorProving, proveShot,
      injectorResult]
    repeat' split
    all_goals exact .same rfl rfl

/-! ### The bounds of the link -/

/-- The part is about to reply: the link's bounds hold with the receiver HUNTING. -/
def Replying (s : State) : Prop := PortSound s ∧ s.port.receiver = .hunting

theorem PortSound.outward {s t : State} (h : PortSound s) (ho : Outward s t) : PortSound t := by
  obtain ⟨hev, hreply, hlink⟩ := h
  have := ho.events
  refine ⟨by omega, ?_, ?_⟩
  · rw [ho.port]; exact hreply
  · rw [ho.port]; exact hlink

theorem Replying.outward {s t : State} (h : Replying s) (ho : Outward s t) : Replying t :=
  ⟨h.1.outward ho, by rw [ho.port]; exact h.2⟩

theorem frameTaken_replying {s : State} (h : PortSound s) : Replying (frameTaken s) := by
  refine ⟨⟨?_, fun _ => frameTaken_receiver s, fun hl => ?_⟩, frameTaken_receiver s⟩
  · have := h.1
    cases hl : s.port.link with
    | up => rw [frameTaken_up s hl]; exact this
    | lost =>
      rw [frameTaken_lost s hl]
      exact (post_events ..).1.trans (by simpa using this)
  · rw [frameTaken_link] at hl; cases hl

theorem sendReply_portSound {s : State} (h : Replying s) (kind tag : Byte) (a : Answer) :
    PortSound (sendReply kind tag a s) := ⟨h.1.1, fun _ => h.2, h.1.2.2⟩

theorem silenceTimerFor_running (limit : Nat) :
    (silenceTimerFor limit).running = decide (limit ≠ 0) := by
  unfold silenceTimerFor; split <;> simp [Timer.stopped, Timer.start, *]

theorem writeClock_port (v : BitVec 32) (s : State) :
    (writeClock v s).port = { s.port with clock := v } := by
  simp only [writeClock]; split <;> rfl

/-- The link's own requests, on a link that is up, keep its bounds. -/
theorem portOwner_replying {o : Owner} (ho : PortOwner o) {s : State} (h : Replying s)
    (hup : s.port.link = .up) : Replying (o s).1 := by
  obtain ⟨⟨hev, hreply, hlink⟩, hr⟩ := h
  cases ho with
  | poll => exact ⟨⟨hev, hreply, hlink⟩, hr⟩
  | nextEvent =>
    unfold nextEvent
    split
    · exact ⟨⟨hev, hreply, hlink⟩, hr⟩
    · next he =>
      rw [he, List.length_cons] at hev
      exact ⟨⟨by dsimp only; omega, hreply, hlink⟩, hr⟩
  | linkReset => exact ⟨⟨Nat.zero_le _, hreply, hlink⟩, hr⟩
  | setClock v =>
    simp only [Replying, PortSound, setClock, writeClock_port]
    exact ⟨⟨hev, hreply, hlink⟩, hr⟩
  | setLink v =>
    unfold setLink
    split
    · exact ⟨⟨hev, hreply, hlink⟩, hr⟩
    · exact ⟨⟨hev, hreply, fun hl => by simp_all⟩, hr⟩

theorem owner_replying {o : Owner} (ho : RequestOwner o) {s : State} (h : PortSound s) :
    Replying (o (frameTaken s)).1 := by
  obtain hp | hw := owner_outward ho
  · exact portOwner_replying hp (frameTaken_replying h) (frameTaken_link s)
  · exact (frameTaken_replying h).outward (hw _)

theorem portSound_tick {s : State} (h : PortSound s) : PortSound s.tick := by
  obtain ⟨hev, hreply, hlink⟩ := h
  unfold State.tick
  split
  · refine ⟨hev, hreply, fun hl => ?_⟩
    have : s.port.silence.running = false := hlink hl
    simp [Timer.tick, this]
  · exact ⟨hev, hreply, hlink⟩

theorem receiverHunts_portSound {s : State} (h : PortSound s) : PortSound (receiverHunts s) := by
  unfold receiverHunts
  split
  · exact ⟨h.1, fun _ => rfl, h.2.2⟩
  · exact h

/-- A record that starts a queue anew holds the link's bounds. -/
theorem portSound_fresh {s : State} (he : s.port.events = []) (hr : s.port.reply = none)
    (hs : s.port.silence.running = false) : PortSound s :=
  ⟨by simp [he], by simp [hr], fun _ => hs⟩

theorem loseLink_portSound {s : State} (h : PortSound s) : PortSound (loseLink s) := by
  have h1 : PortSound { s with port.link := .lost, port.silence := .stopped } :=
    ⟨h.1, h.2.1, fun _ => rfl⟩
  exact h1.outward (((Outward.refl _).post ..).trans (linkLost_outward _))

theorem coldStart_portSound (address : Byte) (baud : BitVec 2) (s : State) :
    PortSound (coldStart address baud s) := by
  unfold coldStart
  refine PortSound.outward ?_ (.afterStartUp ((Outward.refl _).post ..))
  exact portSound_fresh rfl rfl rfl

theorem closeOutArm_port (n : ArmId) (s : State) : (closeOutArm n s).port = s.port := by
  simp only [closeOutArm, updArm_port]
  split
  · rw [(makeLine_rest ..).1]
  · split
    · rfl
    · rw [(cancelArmed_frame ..).1]

theorem closeOutLoad_port (s : State) : (closeOutLoad s).port = s.port := by
  unfold closeOutLoad
  dsimp only
  split
  · rw [storeNote_rest]
  · rfl

/-- The port at the start of a warm start: no record waits, no reply stands, the link is LOST. -/
theorem warmReset_port (address : Byte) (baud : BitVec 2) (s : State) :
    (warmReset address baud s).port = { RackPort.cold with
      station := address, baud := baud, silenceLimit := s.port.silenceLimit
      clock := s.port.clock } := by
  simp only [warmReset]; split <;> rfl

theorem warmStart_portSound (address : Byte) (baud : BitVec 2) (s : State) :
    PortSound (warmStart address baud s) := by
  have hp : (closeOutLoad (forArms closeOutArm (warmReset address baud s))).port
      = { RackPort.cold with
        station := address, baud := baud, silenceLimit := s.port.silenceLimit
        clock := s.port.clock } := by
    rw [closeOutLoad_port, forArms_keeps State.port _ closeOutArm_port, warmReset_port]
  have hc : PortSound (closeOutLoad (forArms closeOutArm (warmReset address baud s))) :=
    portSound_fresh (by rw [hp]; rfl) (by rw [hp]; rfl) (by rw [hp]; rfl)
  have hi : ∀ (l : List ArmId) (u : State), Outward u (l.foldl (fun s n => postInterrupted n s) u) := by
    intro l
    induction l with
    | nil => exact .refl
    | cons n l ih => exact fun u => ((Outward.refl u).post ..).trans (ih _)
  have hs : ∀ r u, Outward u (postSealed r u) := fun r u => by
    unfold postSealed; split <;> simp
  simp only [warmStart]
  refine hc.outward (.afterStartUp (.trans (.trans ?_ (hi _ _)) (hs _ _)))
  exact (Outward.refl _).post ..

/-- Every event keeps the bounds of the link (R3, R7, R13). -/
theorem eventStep_portSound {s t : State} (h : PortSound s) (he : EventStep s t) :
    PortSound t := by
  cases he with
  | none => exact h
  | hunts => exact receiverHunts_portSound h
  | lead hl =>
    simp only [State.listening, Bool.and_eq_true, Option.isNone_iff_eq_none] at hl
    exact ⟨h.1, fun hr => by simp [hl.2] at hr, h.2.2⟩
  | replyEnd => exact ⟨h.1, nofun, h.2.2⟩
  | silence => exact loseLink_portSound h
  | clock => simp only [PortSound, writeClock_port]; exact h
  | clockOnBattery => exact h
  | referral => exact h.outward (expireReferral_outward s)
  | identification => exact h.outward (expireIdentification_outward s)
  | idle => exact h.outward (endOpenLoad_outward ..)
  | sample => exact h.outward (sampleArm_outward ..)
  | noFlow => exact h.outward (by simp)
  | window i v =>
    refine PortSound.outward ?_ (inputChanged_outward ..)
    exact h
  | additivePulse => exact h.outward (takePulse_outward ..)
  | shotTimer => exact h.outward (shotTimeOut_outward ..)
  | tailTimer => exact h.outward (tailTimeOut_outward ..)
  | proveTail => exact h.outward (proveTailTimeOut_outward ..)
  | endDropping => unfold endDropping; dsimp only; split <;> exact h
  | endOverflow => unfold endDropping; dsimp only; split <;> exact h
  | stops => exact ⟨h.1, nofun, h.2.2⟩
  | warm => exact warmStart_portSound ..
  | cold => exact coldStart_portSound ..
  | pulseA | pulseB | closingTimer | trailingTimer | rawInput | form | record | character | dropped
  | output | markerLost => exact h

theorem answerConsole_port (a : Answer) (s : State) : (answerConsole a s).port = s.port := by
  simp only [answerConsole]; split <;> rfl

theorem answerPlan_port (a : Answer) (s : State) : (answerPlan a s).port = s.port := by
  simp only [answerPlan]
  split <;> simp [setLine2, answerConsole_port]

theorem ConsoleOwner.outward {o : Owner} (h : ConsoleOwner o) (s : State) : Outward s (o s).1 := by
  cases h with
  | presentCard => exact presentCard_outward ..
  | nameVehicle => exact nameVehicle_outward ..
  | startArm => exact startArm_outward ..
  | stopArm => exact stopArm_outward ..
  | resumeArm => exact resumeArm_outward ..
  | endLoad => exact endLoad_outward ..

/-- Every command keeps the bounds of the link. -/
theorem acts_portSound {s t : State} (h : PortSound s) (ha : Acts s t) : PortSound t := by
  have he : PortSound (emptyBuffer s) := h
  cases ha with
  | request _ ho => exact sendReply_portSound (owner_replying ho h) ..
  | console _ ho =>
    simp only [PortSound, answerConsole_port]
    exact he.outward (ho.outward _)
  | consolePlan =>
    simp only [PortSound, answerPlan_port]
    exact he.outward (planCompartment_outward ..)
  | event he => exact eventStep_portSound h he

/-! ### The bounds of the console -/

theorem ConsoleSound.outward {s t : State} (h : ConsoleSound s) (ho : Outward s t) :
    ConsoleSound t := by
  simp only [ConsoleSound, ho.buffer, ho.dropping, ho.replies]; exact h

theorem emptyBuffer_consoleSound {s : State} (h : ConsoleSound s) : ConsoleSound (emptyBuffer s) :=
  ⟨Nat.zero_le _, fun _ => rfl, h.2.2⟩

theorem addReply_consoleSound {s : State} (h : ConsoleSound s) (hf : s.repliesFull = false)
    (r : ConsoleReply) : ConsoleSound (addReply r s) := by
  have hl : s.console.replies.length < 4 := Nat.lt_of_not_le (of_decide_eq_false hf)
  exact ⟨h.1, h.2.1, by simp only [addReply, List.length_append, List.length_singleton]; omega⟩

theorem setLine2_consoleSound {s : State} (h : ConsoleSound s) (l : Line2) :
    ConsoleSound (setLine2 l s) := h

theorem answerForm_consoleSound {s : State} (h : ConsoleSound s) (hf : s.repliesFull = false) :
    ConsoleSound (answerForm s) := setLine2_consoleSound (addReply_consoleSound h hf _) _

theorem answerConsole_consoleSound {s : State} (h : ConsoleSound s) (hf : s.repliesFull = false)
    (a : Answer) : ConsoleSound (answerConsole a s) := by
  have := addReply_consoleSound h hf a.consoleReply
  simp only [answerConsole]
  split
  · exact this
  · exact setLine2_consoleSound this _

theorem answerPlan_consoleSound {s : State} (h : ConsoleSound s) (hf : s.repliesFull = false)
    (a : Answer) : ConsoleSound (answerPlan a s) := by
  have := answerConsole_consoleSound h hf a
  simp only [answerPlan]
  split
  · exact setLine2_consoleSound this _
  · exact this

theorem Outward.repliesFull {s t : State} (h : Outward s t) : t.repliesFull = s.repliesFull := by
  simp only [State.repliesFull, h.replies]

theorem writeClock_console (v : BitVec 32) (s : State) : (writeClock v s).console = s.console := by
  simp only [writeClock]; split <;> rfl

theorem portOwner_console {o : Owner} (ho : PortOwner o) (s : State) :
    (o s).1.console = s.console := by
  cases ho with
  | poll => rfl
  | nextEvent => unfold nextEvent; split <;> rfl
  | linkReset => rfl
  | setClock v => exact writeClock_console ..
  | setLink v => unfold setLink; split <;> rfl

theorem endDropping_consoleSound {s : State} (h : ConsoleSound s) :
    ConsoleSound (endDropping s) := by
  have hc : ConsoleSound { s with console.dropping := false } := ⟨h.1, nofun, h.2.2⟩
  simp only [endDropping]
  split
  · exact hc
  · next hf => exact answerForm_consoleSound hc (by simpa using hf)

theorem warmStart_console (address : Byte) (baud : BitVec 2) (s : State) :
    (warmStart address baud s).console = Console.started := by
  have hi : ∀ (l : List ArmId) (u : State),
      (l.foldl (fun s n => postInterrupted n s) u).console = u.console := by
    intro l
    induction l with
    | nil => intro u; rfl
    | cons n l ih => intro u; rw [List.foldl_cons, ih]; exact post_console ..
  have hs : ∀ r u, (postSealed r u).console = u.console := fun r u => by
    unfold postSealed
    split
    · exact post_console ..
    · rfl
  simp only [warmStart, afterStartUp, hs, hi, post_console]
  rfl

theorem coldStart_console (address : Byte) (baud : BitVec 2) (s : State) :
    (coldStart address baud s).console = Console.started := by
  simp only [coldStart, afterStartUp, post_console]; rfl

theorem consoleSound_started {s : State} (h : s.console = Console.started) : ConsoleSound s := by
  simp only [ConsoleSound, h]; decide

theorem loseLink_consoleSound {s : State} (h : ConsoleSound s) : ConsoleSound (loseLink s) := by
  have h1 : ConsoleSound { s with port.link := .lost, port.silence := .stopped } := h
  exact h1.outward (((Outward.refl _).post ..).trans (linkLost_outward _))

/-- Every event keeps the bounds of the console (R70, R74). -/
theorem eventStep_consoleSound {s t : State} (h : ConsoleSound s) (he : EventStep s t) :
    ConsoleSound t := by
  cases he with
  | none => exact h
  | hunts => unfold receiverHunts; split <;> exact h
  | silence => exact loseLink_consoleSound h
  | clock => simp only [ConsoleSound, writeClock_console]; exact h
  | referral => exact h.outward (expireReferral_outward s)
  | identification => exact h.outward (expireIdentification_outward s)
  | idle => exact h.outward (endOpenLoad_outward ..)
  | sample => exact h.outward (sampleArm_outward ..)
  | noFlow => exact h.outward (by simp)
  | window i v =>
    refine ConsoleSound.outward ?_ (inputChanged_outward ..)
    exact h
  | additivePulse => exact h.outward (takePulse_outward ..)
  | shotTimer => exact h.outward (shotTimeOut_outward ..)
  | tailTimer => exact h.outward (tailTimeOut_outward ..)
  | proveTail => exact h.outward (proveTailTimeOut_outward ..)
  | form hf => exact answerForm_consoleSound (emptyBuffer_consoleSound h) hf
  | record => exact emptyBuffer_consoleSound h
  | endDropping => exact endDropping_consoleSound h
  | endOverflow => exact endDropping_consoleSound (emptyBuffer_consoleSound h)
  | character c hd hl =>
    refine ⟨?_, fun hd' => by simp [hd] at hd', h.2.2⟩
    simp only [List.length_append, List.length_singleton]
    exact hl
  | dropped => exact ⟨Nat.zero_le _, fun _ => rfl, h.2.2⟩
  | output => exact ⟨h.1, h.2.1, Nat.zero_le _⟩
  | warm => exact consoleSound_started (warmStart_console ..)
  | cold => exact consoleSound_started (coldStart_console ..)
  | lead | replyEnd | clockOnBattery | pulseA | pulseB | closingTimer | trailingTimer | rawInput
  | stops | markerLost => exact h

/-- Every command keeps the bounds of the console. -/
theorem acts_consoleSound {s t : State} (h : ConsoleSound s) (ha : Acts s t) : ConsoleSound t := by
  have he := emptyBuffer_consoleSound h
  cases ha with
  | request _ ho =>
    have hf : ConsoleSound (frameTaken s) := by simp only [ConsoleSound, frameTaken_console]; exact h
    obtain hp | hw := owner_outward ho
    · simp only [ConsoleSound, sendReply_eq, portOwner_console hp]; exact hf
    · have hs := hf.outward (hw (frameTaken s))
      exact hs
  | console hf ho =>
    have hw := ho.outward (emptyBuffer s)
    exact answerConsole_consoleSound (he.outward hw) (hw.repliesFull.trans hf) _
  | consolePlan c r a v hf =>
    have hw := planCompartment_outward c r a v (emptyBuffer s)
    exact answerPlan_consoleSound (he.outward hw) (hw.repliesFull.trans hf) _
  | event he => exact eventStep_consoleSound h he

theorem consoleSound_tick {s : State} (h : ConsoleSound s) : ConsoleSound s.tick := by
  unfold State.tick; split <;> exact h

/-- Settles O58: whatever lies behind the two ports only posts events and writes the display
(`Outward`), so what is left are the port's own requests, the console's own records and the
starts. -/
theorem everyStepKeepsPortsSound : Obligations.EveryStepKeepsPortsSound :=
  ⟨fun _ _ => step_keeps (P := PortSound) (fun _ _ => id) (fun _ => portSound_tick) acts_portSound,
    fun _ _ => step_keeps (P := ConsoleSound) (fun _ _ => id) (fun _ => consoleSound_tick)
      acts_consoleSound⟩

end Sys2Proof.Machine
end

section
/-! SUPPORT. What one step can do to the records behind the ports: nothing, or one of the deeds below,
each with the checks that led to it. -/

namespace Sys2Proof.Machine

/-- From `s` to `t` nothing has changed that the invariants of the load, the accounts, the arms, the
inputs, the injectors and the tables speak of. -/
structure Quiet (s t : State) : Prop where
  referral : t.permit.referral = s.permit.referral
  state : t.load.state = s.load.state
  record : t.load.record = s.load.record
  accounts : t.accounts = s.accounts
  products : t.products = s.products
  arms : t.arms = s.arms
  bay : t.bay = s.bay
  monitor : t.monitor = s.monitor
  injectors : t.injectors = s.injectors
  recipes : t.recipes = s.recipes
  store : t.store = s.store

theorem Quiet.refl (s : State) : Quiet s s := by constructor <;> rfl

theorem Quiet.trans {s t u : State} (a : Quiet s t) (b : Quiet t u) : Quiet s u where
  referral := b.referral.trans a.referral
  state := b.state.trans a.state
  record := b.record.trans a.record
  accounts := b.accounts.trans a.accounts
  products := b.products.trans a.products
  arms := b.arms.trans a.arms
  bay := b.bay.trans a.bay
  monitor := b.monitor.trans a.monitor
  injectors := b.injectors.trans a.injectors
  recipes := b.recipes.trans a.recipes
  store := b.store.trans a.store

theorem Quiet.arm {s t : State} (h : Quiet s t) (n : ArmId) : t.arm n = s.arm n := by
  simp only [State.arm, h.arms]

theorem Quiet.injector {s t : State} (h : Quiet s t) (i : InjId) : t.injector i = s.injector i := by
  simp only [State.injector, h.injectors]

theorem Quiet.plan {s t : State} (h : Quiet s t) : t.plan = s.plan := by
  simp only [State.plan, h.record]

theorem frameTaken_quiet (s : State) : Quiet s (frameTaken s) := by constructor <;> simp

theorem sendReply_quiet (kind tag : Byte) (a : Answer) (s : State) :
    Quiet s (sendReply kind tag a s) := by constructor <;> rfl

theorem emptyBuffer_quiet (s : State) : Quiet s (emptyBuffer s) := by constructor <;> rfl

theorem answerConsole_quiet (a : Answer) (s : State) : Quiet s (answerConsole a s) := by
  simp only [answerConsole]; split <;> constructor <;> rfl

theorem answerPlan_quiet (a : Answer) (s : State) : Quiet s (answerPlan a s) := by
  simp only [answerPlan]
  split
  · exact (answerConsole_quiet a s).trans (by constructor <;> rfl)
  · exact answerConsole_quiet a s

theorem post_quiet (k : EventKind) (a c v : Nat) (s : State) : Quiet s (post k a c v s) := by
  constructor <;> simp

theorem writeClock_quiet (v : BitVec 32) (s : State) : Quiet s (writeClock v s) := by
  simp only [writeClock]; split <;> constructor <;> rfl

theorem answerForm_quiet (s : State) : Quiet s (answerForm s) := by constructor <;> rfl

theorem endDropping_quiet (s : State) : Quiet s (endDropping s) := by
  simp only [endDropping]; split <;> constructor <;> rfl

/-! ### An identification, from its card to its load or its denial (chapter 2) -/

/-- What any step of an identification can do: it starts in no open load and ends in one or in none; it
starts from NO_LOAD only past the admission checks; a load it opens is new and takes the next note
number; and no referral is pending outside REFERRED. -/
structure Identified (s t : State) : Prop where
  rest : t = { s with
    port := t.port, console := t.console, permit := t.permit, load := t.load, store := t.store }
  clock : t.port.clock = s.port.clock
  before : s.load.state ≠ .opened ∧ s.load.state ≠ .ending
  room : s.load.state = .noLoad →
    t.load.state = .noLoad ∨ (s.storeTakes = true ∧ s.meterRun = false)
  after : (t.load.state ≠ .opened ∧ t.load.state ≠ .ending ∧ t.load.record = s.load.record
        ∧ t.store = s.store)
      ∨ (t.load.state = .opened
        ∧ (∃ p v, t.load.record = some (newLoad p v s.store.next s.port.clock))
        ∧ t.store = { s.store with next := nextNoteAfter s.store.next })
  referral : t.permit.referral.pendingCard.isSome = true → t.load.state = .referred

theorem Identified.trans {s t u : State} (a : Identified s t) (b : Identified t u) :
    Identified s u := by
  have htake : t.store = s.store := by
    obtain ⟨-, -, -, h⟩ | ⟨h, -⟩ := a.after
    · exact h
    · exact absurd h b.before.1
  have hrec : t.load.record = s.load.record := by
    obtain ⟨-, -, h, -⟩ | ⟨h, -⟩ := a.after
    · exact h
    · exact absurd h b.before.1
  have hrun : t.meterRun = s.meterRun := by rw [State.meterRun, a.rest]; rfl
  have hst : t.storeTakes = s.storeTakes := by simp only [State.storeTakes, htake]
  refine ⟨?_, b.clock.trans a.clock, a.before, fun h0 => ?_, ?_, b.referral⟩
  · have h := b.rest; rw [a.rest] at h; exact h
  · obtain h | h := a.room h0
    · simpa only [hst, hrun] using b.room h
    · exact .inr h
  · simpa only [htake, hrec, a.clock] using b.after

section
variable {s : State} (hb : s.load.state ≠ .opened ∧ s.load.state ≠ .ending)
  (hr : s.permit.referral.pendingCard.isSome = false)
  (hroom : s.load.state = .noLoad → s.storeTakes = true ∧ s.meterRun = false)
include hb

theorem endReferral_identified {r : Referral} (h : r.pendingCard.isSome = false) :
    Identified s (endReferral r s) :=
  ⟨rfl, rfl, hb, .inl, .inl ⟨hb.1, hb.2, rfl, rfl⟩, fun h' => by
    have : r.pendingCard.isSome = true := h'
    simp [h] at this⟩

include hr

theorem denyIdentification_identified (r : DenyReason) (card : Nat) :
    Identified s (denyIdentification r card s) := by
  have hc : (denyIdentification r card s).port.clock = s.port.clock := by
    rw [(denyIdentification_outward r card s).port]
  refine ⟨by rw [denyIdentification_rest], hc, hb, fun _ => .inl ?_, .inl ⟨?_, ?_, ?_, ?_⟩,
    fun h => ?_⟩
  · rw [denyIdentification_rest]
  · rw [denyIdentification_rest]; nofun
  · rw [denyIdentification_rest]; nofun
  · rw [denyIdentification_rest]
  · rw [denyIdentification_rest]
  · rw [denyIdentification_rest] at h
    have : s.permit.referral.pendingCard.isSome = true := h
    simp [hr] at this

include hroom

theorem holdPermit_identified (p : Permit) : Identified s (holdPermit p s) := by
  refine ⟨by rw [holdPermit_rest], by rw [holdPermit_rest], hb, fun h => .inr (hroom h),
    .inl ⟨?_, ?_, ?_, ?_⟩, fun h => ?_⟩
  · rw [holdPermit_rest]; nofun
  · rw [holdPermit_rest]; nofun
  · rw [holdPermit_rest]
  · rw [holdPermit_rest]
  · rw [holdPermit_rest] at h
    have : s.permit.referral.pendingCard.isSome = true := h
    simp [hr] at this

theorem openLoad_identified (p : Permit) (vehicle : Nat) : Identified s (openLoad p vehicle s) := by
  have hc : (openLoad p vehicle s).port.clock = s.port.clock := by rw [openLoad_rest]
  refine ⟨by rw [openLoad_rest], hc, hb, fun h => .inr (hroom h),
    .inr ⟨?_, ⟨p, vehicle, ?_⟩, ?_⟩, fun h => ?_⟩
  · rw [openLoad_rest]
  · rw [openLoad_rest]
  · rw [openLoad_rest]
  · rw [openLoad_rest] at h
    have : s.permit.referral.pendingCard.isSome = true := h
    simp [hr] at this

theorem nameFor_identified (p : Permit) (number : Nat) :
    Identified s (nameFor p number s).1 := by
  obtain ⟨-, e⟩ | ⟨r, -, e⟩ := nameFor_cases p number s <;> rw [e]
  · exact openLoad_identified hb hr hroom p number
  · exact denyIdentification_identified hb hr r p.card

/-- A vehicle named for a permit just held. -/
theorem holdAndName_identified (p : Permit) (number : Nat) :
    Identified s (nameFor p number (holdPermit p s)).1 := by
  have h := holdPermit_identified hb hr hroom p
  have hs : (holdPermit p s).load.state = .vehicleWait := by rw [holdPermit_rest]
  have hrp : (holdPermit p s).permit.referral.pendingCard.isSome = false := by
    rw [holdPermit_rest]; exact hr
  exact h.trans (nameFor_identified (by rw [hs]; exact ⟨nofun, nofun⟩) hrp
    (fun h0 => by rw [hs] at h0; cases h0) p number)

theorem identifyLocally_identified (card : Nat) : Identified s (identifyLocally card s).1 := by
  unfold identifyLocally
  split
  · exact denyIdentification_identified hb hr ..
  · dsimp only
    split
    · exact holdPermit_identified hb hr hroom _
    · next d _ _ v _ =>
      have h := holdAndName_identified hb hr hroom (permitOf d) v
      split <;> next hn =>
        have e := congrArg Prod.fst hn; dsimp only at e; rw [← e]; exact h

omit hr

theorem openReferral_identified (card : Nat) (r : ReferralReason) :
    Identified s (openReferral card r s) := by
  refine ⟨by rw [openReferral_rest], by rw [openReferral_rest], hb, fun h => .inr (hroom h),
    .inl ⟨?_, ?_, ?_, ?_⟩, fun _ => ?_⟩
  · rw [openReferral_rest]; nofun
  · rw [openReferral_rest]; nofun
  · rw [openReferral_rest]
  · rw [openReferral_rest]
  · rw [openReferral_rest]

end

/-- No referral is pending outside REFERRED. -/
theorem LoadStateSound.not_pending {s : State} (h : LoadStateSound s) (hs : s.load.state ≠ .referred) :
    s.permit.referral.pendingCard.isSome = false := by
  cases hp : s.permit.referral.pendingCard.isSome with
  | false => rfl
  | true => exact absurd (h.2 hp) hs

/-- A pending referral stands in REFERRED, and so in no open load. -/
theorem LoadStateSound.of_pending {s : State} (h : LoadStateSound s) {c : Nat} {r : ReferralReason}
    (hp : s.permit.referral = .pending c r) : s.load.state = .referred :=
  h.2 (by rw [hp]; rfl)

/-- What the admission checks say of the load and the store (R24). -/
theorem admissionRefusal_none {s : State} (h : admissionRefusal s = none) :
    s.load.state = .noLoad ∧ s.storeTakes = true ∧ s.meterRun = false := by
  unfold admissionRefusal at h
  split at h
  · cases h
  · split at h
    · cases h
    · next hl =>
      split at h
      · cases h
      · split at h
        · cases h
        · next ht =>
          split at h
          · cases h
          · next hm => exact ⟨by simpa using hl, by simpa using ht, by simpa using hm⟩

theorem presentCard_identified {s : State} (hs : LoadStateSound s) (card : Nat) :
    (presentCard card s).1 = s ∨ Identified s (presentCard card s).1 := by
  unfold presentCard
  split
  · exact .inl rfl
  · split
    · exact .inl rfl
    · next hn =>
      obtain ⟨hl, htake, hrun⟩ := admissionRefusal_none hn
      have q := post_quiet .cardRead 0 (cardHigh card) (cardLow card) s
      generalize hu : post .cardRead 0 (cardHigh card) (cardLow card) s = u at *
      have hb : u.load.state ≠ .opened ∧ u.load.state ≠ .ending := by
        rw [q.state, hl]; exact ⟨nofun, nofun⟩
      have hr : u.permit.referral.pendingCard.isSome = false := by
        rw [q.referral]; exact hs.not_pending (by rw [hl]; nofun)
      have hroom : u.load.state = .noLoad → u.storeTakes = true ∧ u.meterRun = false := fun _ => by
        simp only [State.storeTakes, State.meterRun, q.store, q.arms]; exact ⟨htake, hrun⟩
      have h0 : Identified s u := by
        refine ⟨by rw [← hu, post_rest], by rw [← hu, post_clock], by rw [← q.state]; exact hb,
          fun _ => .inl (q.state.trans hl), .inl ⟨hb.1, hb.2, q.record, q.store⟩,
          fun h => by simp [hr] at h⟩
      refine .inr (h0.trans ?_)
      unfold decideCard
      split
      · exact identifyLocally_identified hb hr hroom card
      · split
        · exact denyIdentification_identified hb hr ..
        · exact openReferral_identified hb hroom ..

theorem nameVehicle_identified {s : State} (hs : LoadStateSound s) (number : Nat) :
    (nameVehicle number s).1 = s ∨ Identified s (nameVehicle number s).1 := by
  unfold nameVehicle
  split
  · exact .inl rfl
  · split
    · next p hl _ =>
      have h := nameFor_identified (s := s) (by rw [hl]; exact ⟨nofun, nofun⟩)
        (hs.not_pending (by rw [hl]; nofun)) (fun h0 => by rw [hl] at h0; cases h0) p number
      split
      · exact .inl rfl
      · split <;> next hn =>
          have e := congrArg Prod.fst hn; dsimp only at e; rw [← e]; exact .inr h
    · exact .inl rfl

/-- A referral that ends by a denial. -/
theorem endAndDeny_identified {s : State}
    (hb : s.load.state ≠ .opened ∧ s.load.state ≠ .ending) {r : Referral}
    (hr : r.pendingCard.isSome = false) (reason : DenyReason) (card : Nat) :
    Identified s (denyIdentification reason card (endReferral r s)) :=
  (endReferral_identified hb hr).trans (denyIdentification_identified (s := endReferral r s) hb hr reason card)

theorem answerReferral_identified {s : State} (hs : LoadStateSound s)
    (card decision account classes bound : Nat) :
    (answerReferral card decision account classes bound s).1 = s
      ∨ Identified s (answerReferral card decision account classes bound s).1 := by
  unfold answerReferral
  split
  · exact .inl rfl
  · split
    · next c r hp =>
      have hl := hs.of_pending hp
      have hb : s.load.state ≠ .opened ∧ s.load.state ≠ .ending := by
        rw [hl]; exact ⟨nofun, nofun⟩
      have hroom : s.load.state = .noLoad → s.storeTakes = true ∧ s.meterRun = false :=
        fun h0 => by rw [hl] at h0; cases h0
      split
      · refine .inr ?_
        unfold decideReferral
        split
        · have he := endReferral_identified (r := .empty) hb rfl
          have hh := fun p => holdPermit_identified (s := endReferral .empty s) hb rfl hroom p
          have hn := fun p v => holdAndName_identified (s := endReferral .empty s) hb rfl hroom p v
          unfold allowReferral
          dsimp only
          split
          · split
            · exact he.trans (hh _)
            · exact he.trans (hn _ _)
          · exact he.trans (hh _)
        · exact endAndDeny_identified hb rfl ..
      · exact .inl rfl
    · exact .inl rfl
    · exact .inl rfl

theorem linkLost_identified {s : State} (hs : LoadStateSound s) :
    linkLost s = s ∨ Identified s (linkLost s) := by
  unfold linkLost
  split
  · next hp =>
    exact .inr (endAndDeny_identified (by rw [hs.of_pending hp]; exact ⟨nofun, nofun⟩) rfl ..)
  · exact .inl rfl

theorem expireReferral_identified {s : State} (hs : LoadStateSound s) :
    expireReferral s = s ∨ Identified s (expireReferral s) := by
  unfold expireReferral
  split
  · next hp =>
    exact .inr (endAndDeny_identified (by rw [hs.of_pending hp]; exact ⟨nofun, nofun⟩) rfl ..)
  · exact .inl rfl

theorem expireIdentification_identified {s : State} (hs : LoadStateSound s) :
    expireIdentification s = s ∨ Identified s (expireIdentification s) := by
  unfold expireIdentification
  split
  · exact expireReferral_identified hs
  · next hl _ =>
    exact .inr (denyIdentification_identified (by rw [hl]; exact ⟨nofun, nofun⟩)
      (hs.not_pending (by rw [hl]; nofun)) ..)
  · exact .inl rfl

theorem abandonIdentification_identified {s : State}
    (hb : s.load.state ≠ .opened ∧ s.load.state ≠ .ending) :
    Identified s (abandonIdentification s) := by
  have e : ∀ u : State, Identified s u → (u.load.state ≠ .opened ∧ u.load.state ≠ .ending) →
      u.permit.referral.pendingCard.isSome = false →
      Identified s (leaveIdentifying { u with permit.held := none }) := by
    intro u h hu hr
    refine h.trans ⟨by rw [leaveIdentifying_rest], by rw [leaveIdentifying_rest], hu, fun _ => .inl ?_,
      .inl ⟨?_, ?_, ?_, ?_⟩, fun h' => ?_⟩
    · rw [leaveIdentifying_rest]
    · rw [leaveIdentifying_rest]; nofun
    · rw [leaveIdentifying_rest]; nofun
    · rw [leaveIdentifying_rest]
    · rw [leaveIdentifying_rest]
    · rw [leaveIdentifying_rest] at h'
      have : u.permit.referral.pendingCard.isSome = true := h'
      simp [hr] at this
  unfold abandonIdentification
  dsimp only
  have hr : (match s.permit.referral with
      | .pending _ _ => Referral.empty | r => r).pendingCard.isSome = false := by
    split
    · rfl
    · next h => cases hq : s.permit.referral with
      | pending c r => exact absurd hq (h c r)
      | empty => rfl
      | expired c => rfl
  exact e _ (endReferral_identified hb hr) hb hr

/-! ### The records that no identification touches -/

/-- From `s` to `t` only the port, the console, the permits, the load and the store may have changed. -/
def IdentFrame (s t : State) : Prop :=
  t = { s with
    port := t.port, console := t.console, permit := t.permit, load := t.load, store := t.store }

theorem IdentFrame.refl (s : State) : IdentFrame s s := rfl

theorem IdentFrame.trans {s t u : State} (a : IdentFrame s t) (b : IdentFrame t u) :
    IdentFrame s u := by
  unfold IdentFrame at *
  rw [b, a]

theorem denyIdentification_frame (r : DenyReason) (card : Nat) (s : State) :
    IdentFrame s (denyIdentification r card s) := by rw [denyIdentification_rest]; rfl

theorem holdPermit_frame (p : Permit) (s : State) : IdentFrame s (holdPermit p s) := by
  rw [holdPermit_rest]; rfl

theorem nameFor_frame (p : Permit) (number : Nat) (s : State) :
    IdentFrame s (nameFor p number s).1 := by
  obtain ⟨-, e⟩ | ⟨r, -, e⟩ := nameFor_cases p number s <;> rw [e]
  · dsimp only; rw [openLoad_rest]; rfl
  · exact denyIdentification_frame r p.card s

theorem identifyLocally_frame (card : Nat) (s : State) :
    IdentFrame s (identifyLocally card s).1 := by
  unfold identifyLocally
  split
  · exact denyIdentification_frame ..
  · dsimp only
    split
    · exact holdPermit_frame ..
    · next d _ _ v _ =>
      have h := (holdPermit_frame (permitOf d) s).trans (nameFor_frame (permitOf d) v _)
      split <;> next hn =>
        have e := congrArg Prod.fst hn; dsimp only at e; rw [← e]; exact h

theorem presentCard_frame (card : Nat) (s : State) : IdentFrame s (presentCard card s).1 := by
  unfold presentCard
  split
  · exact .refl s
  · split
    · exact .refl s
    · refine IdentFrame.trans (t := post .cardRead 0 (cardHigh card) (cardLow card) s)
        (by rw [post_rest]; rfl) ?_
      unfold decideCard
      split
      · exact identifyLocally_frame ..
      · split
        · exact denyIdentification_frame ..
        · rw [openReferral_rest]; rfl

theorem nameVehicle_frame (number : Nat) (s : State) : IdentFrame s (nameVehicle number s).1 := by
  unfold nameVehicle
  split
  · exact .refl s
  · split
    · next p _ _ =>
      split
      · exact .refl s
      · split <;> next hn =>
          have e := congrArg Prod.fst hn; dsimp only at e; rw [← e]; exact nameFor_frame p number s
    · exact .refl s

theorem endAndDeny_frame (r : Referral) (reason : DenyReason) (card : Nat) (s : State) :
    IdentFrame s (denyIdentification reason card (endReferral r s)) :=
  IdentFrame.trans (t := endReferral r s) rfl (denyIdentification_frame ..)

theorem answerReferral_frame (card decision account classes bound : Nat) (s : State) :
    IdentFrame s (answerReferral card decision account classes bound s).1 := by
  unfold answerReferral
  split
  · exact .refl s
  · split
    · split
      · unfold decideReferral
        split
        · have hh := fun p => (IdentFrame.trans (s := s) (t := endReferral .empty s) rfl
            (holdPermit_frame p (endReferral .empty s)))
          unfold allowReferral
          dsimp only
          split
          · split
            · exact hh _
            · exact (hh _).trans (nameFor_frame ..)
          · exact hh _
        · exact endAndDeny_frame ..
      · exact .refl s
    · exact .refl s
    · exact .refl s

theorem linkLost_frame (s : State) : IdentFrame s (linkLost s) := by
  unfold linkLost
  split
  · exact endAndDeny_frame ..
  · exact .refl s

theorem expireReferral_frame (s : State) : IdentFrame s (expireReferral s) := by
  unfold expireReferral
  split
  · exact endAndDeny_frame ..
  · exact .refl s

theorem expireIdentification_frame (s : State) : IdentFrame s (expireIdentification s) := by
  unfold expireIdentification
  split
  · exact expireReferral_frame s
  · exact denyIdentification_frame ..
  · exact .refl s

end Sys2Proof.Machine
end

section
/-! SUPPORT. The deeds of a step: what a command can do to the records that the invariants speak of, each
with the checks that led to it. -/

namespace Sys2Proof.Machine

/-- What a command does to the records behind the ports, with the checks it has passed. -/
inductive Deed : State → State → Prop
  -- chapters 2 to 4: accounts, identification, the load and its notes
  | accountHold (s : State) (number : Nat) (hold : Bool) : Deed s { s with
      accounts := s.accounts.map fun a => if a.number = number then { a with hold := hold } else a }
  | accountNew {s : State} (number : Nat) (hold : Bool) : s.account number = none →
      Deed s { s with accounts := s.accounts ++ [newAccount number hold] }
  | allocate {s : State} (number : Nat) (c : ClassId) (value : Nat) (a : Account) :
      s.account number = some a → Deed s (s.updAllocation number c fun x =>
        { x with remaining := allocationTaken value (a.classes.get c).reserved })
  | accountDrop {s : State} (number : Nat) (a : Account) : s.account number = some a →
      s.accountInUse number = false → (∀ c, (a.classes.get c).reserved = 0) →
      Deed s { s with accounts := s.accounts.filter (·.number ≠ number) }
  | identified {s t : State} : IdentFrame s t → (LoadStateSound s → t = s ∨ Identified s t) → Deed s t
  | noteReleased {s : State} (t : Note) (rest : List Note) : s.store.notes = t :: rest →
      Deed s { s with store.notes := rest }
  | plan {s : State} (load : OpenLoad) (n : ArmId) (compartment recipe request preset : Nat)
      (p : Product) : s.load.state = .opened → s.load.record = some load →
      planGrant s load n compartment recipe request = .ok (preset, p) →
      Deed s (acceptPlan load n compartment recipe preset p s)
  | endOpen {s : State} (cause : EndCause) : s.load.state = .opened →
      Deed s (endOpenLoad cause s)
  -- chapters 5 and 6: products and arms
  | product {s : State} (i : Fin 8) (p : Product) : s.productInUse i = false →
      Deed s { s with products := s.products.set i (some p) }
  | configure {s : State} (n : ArmId) (c : ArmConfig) (overrun : Nat) :
      (s.arm n).control.state = .idle → Deed s (s.updArm n (Arm.configure c overrun))
  | curve (s : State) (n : ArmId) (points : List CurvePoint) :
      Deed s (s.updArm n fun a => { a with curve := points, result := none })
  | factor (s : State) (n : ArmId) (point factor : Nat) :
      Deed s (s.updArm n (Arm.setFactor point factor))
  | noResult (s : State) (n : ArmId) : Deed s (s.updArm n fun a => { a with result := none })
  | pulseA (s : State) (n : ArmId) : Deed s
      (s.updArm n fun a => { a with channel.pulsesA := a.channel.pulsesA + 1 })
  | pulseB {s : State} (n : ArmId) (c : ArmConfig) : (s.arm n).config = some c →
      c.singleChannel = false → Deed s
        (s.updArm n fun a => { a with channel.pulsesB := a.channel.pulsesB + 1 })
  | start {s : State} (n : ArmId) (c : ArmConfig) (b : Binding) :
      (s.arm n).control.state = .armed → (s.arm n).control.binding = some b →
      (s.arm n).config = some c → startRefusal s n b = none → Deed s (startBatch n c b s)
  | beginRun {s : State} (n : ArmId) (c : ArmConfig) (volume : Nat) : (s.arm n).config = some c →
      runRefusal s n = none → Deed s (s.updArm n (Arm.beginRun c volume))
  | stop (s : State) (n : ArmId) : Deed s (stopArmNow n s)
  | cancel {s : State} (n : ArmId) : (s.arm n).control.state = .armed →
      Deed s (planMayHaveEmptied (cancelArmed n s))
  | abort {s : State} (n : ArmId) (c : ArmConfig) : (s.arm n).control.state = .held →
      (s.arm n).config = some c → Deed s (enterClosing .aborted n (s.updArm n (Arm.align c)))
  | resume {s : State} (n : ArmId) (c : ArmConfig) : (s.arm n).control.state = .held →
      (s.arm n).config = some c → resumeRefusal s n = none → Deed s (resumeBatch n c s)
  | sample (s : State) (n : ArmId) (probe : Option Int) : Deed s (sampleArm n probe s)
  | noFlow (s : State) (n : ArmId) : Deed s (enterHeld .noFlow n s)
  | closingTimer (s : State) (n : ArmId) : Deed s
      (s.updArm n fun a => { a with control.closingTimer := a.control.closingTimer.runOut })
  | trailingTimer (s : State) (n : ArmId) : Deed s
      (s.updArm n fun a =>
        { a with
          trailingTimer := a.trailingTimer.runOut
          components := a.components.map fun k =>
            if 0 < k.owed then
              { k with owed := 0, status := if k.status = .ok then .short else k.status }
            else k })
  -- chapter 7: inputs, the bay and the rack stop
  | bay (s : State) (b : BaySettings) : Deed s (recomputePermissive { s with bay := b })
  | rackCleared (s : State) : Deed s
      (recomputePermissive (post .rackStopCleared 0 0 0 { s with monitor.rackStop := false }))
  | rawInput (s : State) (i : Input) (levels : BitVec 4) : Deed s
      { s with monitor := s.monitor.setInput i ((s.monitor.input i).setLevels i levels s.running) }
  | window (s : State) (i : Input) (v : Nat) : Deed s
      (inputChanged i (s.monitor.input i).accepted v
        { s with monitor := s.monitor.setInput i ((s.monitor.input i).accept v) })
  -- chapters 8 and 9: injectors and recipes
  | injector {s : State} (i : InjId) (c : InjectorConfig) : s.injectorInUse i = false →
      (1 ≤ c.shotMl ∧ c.shotMl ≤ 500 ∧ 100 ≤ c.meterK ∧ c.meterK ≤ 100000) →
      Deed s (s.setInjector i ((s.injector i).configure c))
  | faultCleared {s : State} (i : InjId) (c : InjectorConfig) : (s.injector i).config = some c →
      (s.injector i).state = .faulted → Deed s (offer i (s.setInjector i
        { s.injector i with state := .idle, badCount := 0, creep := 0 }))
  | recipe {s : State} (r : Recipe) : s.recipeFound r = true → s.recipeInUse r.code = false →
      Deed s { s with recipes := replaceBy (·.code == r.code) r s.recipes }
  | recipeNew {s : State} (r : Recipe) : s.recipe r.code = none →
      Deed s { s with recipes := replaceBy (·.code == r.code) r s.recipes }
  | recipeDrop {s : State} (code : Nat) : s.recipeInUse code = false →
      Deed s { s with recipes := s.recipes.filter (·.code ≠ code) }
  | proving {s : State} (i : InjId) (c : InjectorConfig) : (s.injector i).config = some c →
      s.batchUses i = false → Deed s (s.setInjector i
        { s.injector i with
          state := .proving { shots := 0, pulseTotal := 0, shot := none }, creep := 0 })
  | proveShot {s : State} (i : InjId) (c : InjectorConfig) (p : ProvingRecord) :
      (s.injector i).config = some c → (s.injector i).state = .proving p → Deed s (s.setInjector i
        { s.injector i with state := .proving { p with shot := some (newProveShot c) } })
  | meterK {s : State} (i : InjId) (c : InjectorConfig) (p : ProvingRecord) (new : Nat) :
      (s.injector i).config = some c → (s.injector i).state = .proving p →
      meterKAccepted new c.meterK = true → Deed s (s.setInjector i
        { s.injector i with
          config := some { c with meterK := new }
          state := .proving { p with shots := 0, pulseTotal := 0 } })
  | provingEnded {s : State} (i : InjId) (p : ProvingRecord) : (s.injector i).state = .proving p →
      Deed s (offer i (s.setInjector i { s.injector i with state := .idle, creep := 0 }))
  | additivePulse (s : State) (i : InjId) : Deed s (takePulse i s)
  | shotTimer (s : State) (i : InjId) : Deed s (shotTimeOut i s)
  | tailTimer (s : State) (i : InjId) : Deed s (tailTimeOut i s)
  | proveTail (s : State) (i : InjId) : Deed s (proveTailTimeOut i s)
  -- chapter 11
  | stops (s : State) (supply : Supply) : Deed s (stopWork supply s)
  | warm (s : State) (address : Byte) (baud : BitVec 2) : Deed s (warmStart address baud s)
  | cold (s : State) (address : Byte) (baud : BitVec 2) : Deed s (coldStart address baud s)

/-- One step, but for what is quiet before and after it. -/
def Does (s t : State) : Prop := Quiet s t ∨ ∃ u, Deed s u ∧ Quiet u t

theorem Does.quiet {s t : State} (h : Quiet s t) : Does s t := .inl h

theorem Does.same (s : State) : Does s s := .inl (.refl s)

theorem Does.deed {s t : State} (h : Deed s t) : Does s t := .inr ⟨t, h, .refl t⟩

theorem Does.then {s t u : State} (h : Does s t) (q : Quiet t u) : Does s u := by
  obtain h | ⟨v, d, h⟩ := h
  · exact .inl (h.trans q)
  · exact .inr ⟨v, d, h.trans q⟩

theorem Does.identified {s t : State} (hf : IdentFrame s t)
    (h : LoadStateSound s → t = s ∨ Identified s t) : Does s t :=
  .deed (.identified hf h)

/-! ### The owners, each by what it does -/

theorem putAccount_does (number hold : Nat) (s : State) : Does s (putAccount number hold s).1 := by
  unfold putAccount
  split
  · exact .same s
  · split
    · exact .same s
    · split
      · exact .deed (.accountHold s _ _)
      · next hn =>
        split
        · exact .deed (.accountNew _ _ (by simpa using hn))
        · exact .same s

theorem setAllocation_does (number cls value : Nat) (s : State) :
    Does s (setAllocation number cls value s).1 := by
  unfold setAllocation
  split
  · exact .same s
  · split
    · exact .same s
    · split
      · exact .same s
      · next a ha => exact .deed (.allocate number _ value a ha)

theorem Bank8.all_of_any_toList_false {α : Type} {b : Bank8 α} {p : α → Bool}
    (h : b.toList.any p = false) (n : Fin 8) : p (b.get n) = false := by
  cases hn : p (b.get n) with
  | false => rfl
  | true => rw [(Bank8.any_toList b p).mpr ⟨n, hn⟩] at h; cases h

theorem dropAccount_does (number : Nat) (s : State) : Does s (dropAccount number s).1 := by
  unfold dropAccount
  split
  · exact .same s
  · split
    · exact .same s
    · next a ha =>
      split
      · exact .same s
      · next hu =>
        simp only [Bool.or_eq_true, not_or, Bool.not_eq_true] at hu
        refine .deed (.accountDrop number a ha hu.1 fun c => ?_)
        have := Bank8.all_of_any_toList_false hu.2 c
        simpa using this

theorem endLoad_does (cause : Nat) (s : State) : Does s (endLoad cause s).1 := by
  unfold endLoad
  split
  · exact .same s
  · split
    · exact .same s
    · exact .same s
    · next hl =>
      have hi := abandonIdentification_identified (s := s) (by rw [hl]; exact ⟨nofun, nofun⟩)
      exact .identified hi.rest fun _ => .inr hi
    · next hl =>
      have hi := abandonIdentification_identified (s := s) (by rw [hl]; exact ⟨nofun, nofun⟩)
      exact .identified hi.rest fun _ => .inr hi
    · next hl => exact .deed (.endOpen _ hl)

theorem releaseNote_does (number : Nat) (s : State) : Does s (releaseNote number s).1 := by
  unfold releaseNote
  split
  · exact .same s
  · split
    · exact .same s
    · next t rest hn =>
      split
      · exact .deed (.noteReleased t rest hn)
      · exact .same s

theorem planCompartment_does (compartment recipe arm request : Nat) (s : State) :
    Does s (planCompartment compartment recipe arm request s).1 := by
  unfold planCompartment
  split
  · exact .same s
  · split
    · exact .same s
    · split
      · next hl hr =>
        split
        · exact .same s
        · split
          · exact .same s
          · next hg => exact .deed (.plan _ _ _ _ _ _ _ hl hr hg)
      · exact .same s

theorem putProduct_does (index : Nat) (p : Option Product) (s : State) :
    Does s (putProduct index p s).1 := by
  unfold putProduct
  split
  · split
    · exact .same s
    · split
      · exact .same s
      · next hu => exact .deed (.product _ _ (by simpa using hu))
  · exact .same s

theorem putArm_does (arm : Nat) (c : Option ArmConfig) (overrun : Nat) (s : State) :
    Does s (putArm arm c overrun s).1 := by
  unfold putArm
  split
  · split
    · exact .same s
    · next hi =>
      split
      · exact .same s
      · exact .deed (.configure _ _ _ (by simpa using hi))
  · exact .same s

theorem putMeterCurve_does (arm : Nat) (points : List CurvePoint) (s : State) :
    Does s (putMeterCurve arm points s).1 := by
  unfold putMeterCurve
  split
  · exact .same s
  · split
    · exact .same s
    · split
      · exact .same s
      · exact .deed (.curve s _ _)

theorem setBay_does (ceiling vapour : Nat) (s : State) : Does s (setBay ceiling vapour s).1 := by
  unfold setBay
  split
  · exact .same s
  · split
    · exact .deed (.bay s _)
    · exact .same s

theorem clearRackStop_does (s : State) : Does s (clearRackStop s).1 := by
  unfold clearRackStop
  split
  · exact .same s
  · split
    · exact .same s
    · exact .deed (.rackCleared s)

theorem startArm_does (arm : Nat) (s : State) : Does s (startArm arm s).1 := by
  unfold startArm
  split
  · exact .same s
  · split
    · next hs hb hc =>
      split
      · exact .same s
      · next hr => exact .deed (.start _ _ _ hs hb hc hr)
    · exact .same s

theorem stopArm_does (arm : Nat) (s : State) : Does s (stopArm arm s).1 := by
  unfold stopArm
  split
  · exact .same s
  · split
    · exact .deed (.stop s _)
    · exact .deed (.stop s _)
    · exact .deed (.stop s _)
    · exact .deed (.stop s _)
    · next hs => exact .deed (.cancel _ hs)
    · exact .same s
    · exact .same s

theorem resumeArm_does (arm : Nat) (s : State) : Does s (resumeArm arm s).1 := by
  unfold resumeArm
  split
  · exact .same s
  · split
    · next hs hc =>
      split
      · exact .same s
      · split
        · exact .deed (.abort _ _ hs hc)
        · split
          · exact .same s
          · next hr => exact .deed (.resume _ _ hs hc hr)
    · exact .same s

/-- The configuration that PUT INJECTOR writes has a shot volume and a meter K in their ranges
(R139). -/
theorem injectorConfigOf_ranges {code k shot limit tolerance fault cls first second scheme creep : Nat}
    {c : InjectorConfig}
    (h : injectorConfigOf code k shot limit tolerance fault cls first second scheme creep = some c) :
    1 ≤ c.shotMl ∧ c.shotMl ≤ 500 ∧ 100 ≤ c.meterK ∧ c.meterK ≤ 100000 := by
  unfold injectorConfigOf at h
  split at h
  · split at h
    · cases h
    · cases h; dsimp only; omega
  · cases h

theorem putInjector_does
    (injector code k shot limit tolerance fault cls first second scheme creep : Nat) (s : State) :
    Does s (putInjector injector
      (injectorConfigOf code k shot limit tolerance fault cls first second scheme creep) s).1 := by
  unfold putInjector
  split
  · next hc =>
    split
    · exact .same s
    · next hu =>
      split
      · exact .same s
      · exact .deed (.injector _ _ (by simpa using hu) (injectorConfigOf_ranges hc))
  · exact .same s

theorem clearInjectorFault_does (injector : Nat) (s : State) :
    Does s (clearInjectorFault injector s).1 := by
  unfold clearInjectorFault
  split
  · exact .same s
  · split
    · next hc hs => exact .deed (.faultCleared _ _ hc hs)
    · exact .same s

theorem putRecipe_does (r : Option Recipe) (s : State) : Does s (putRecipe r s).1 := by
  cases r with
  | none => exact .same s
  | some r =>
    unfold putRecipe
    dsimp only
    split
    · exact .same s
    · next hf =>
      split
      · exact .same s
      · split
        · exact .same s
        · next hu =>
          split
          · simp only [Bool.and_eq_true, not_and, Bool.not_eq_true, Option.isSome_iff_ne_none] at hu
            by_cases hr : s.recipe r.code = none
            · exact .deed (.recipeNew _ hr)
            · exact .deed (.recipe _ (by simpa using hf) (hu hr))
          · exact .same s

theorem dropRecipe_does (code : Nat) (s : State) : Does s (dropRecipe code s).1 := by
  unfold dropRecipe
  split
  · exact .same s
  · split
    · exact .same s
    · split
      · exact .same s
      · next hu => exact .deed (.recipeDrop code (by simpa using hu))

theorem beginMeterRun_does (arm volume : Nat) (s : State) :
    Does s (beginMeterRun arm volume s).1 := by
  unfold beginMeterRun
  split
  · exact .same s
  · split
    · exact .same s
    · split
      · exact .same s
      · next hc =>
        split
        · exact .same s
        · next hr => exact (Does.deed (.beginRun _ _ volume hc hr)).then (post_quiet ..)

theorem meterResult_does (arm point proverMl : Nat) (s : State) :
    Does s (meterResult arm point proverMl s).1 := by
  unfold meterResult
  split
  · exact .same s
  · split
    · exact .same s
    · split
      · exact .same s
      · split
        · exact .same s
        · split
          · exact .same s
          · dsimp only
            split
            · exact .deed (.factor s _ _ _)
            · exact .same s

theorem beginInjectorProving_does (injector : Nat) (s : State) :
    Does s (beginInjectorProving injector s).1 := by
  unfold beginInjectorProving
  split
  · exact .same s
  · next i _ =>
    split
    · exact .same s
    · next hc =>
      split
      · exact .same s
      · next hu =>
        simp only [Bool.or_eq_true, not_or, Bool.not_eq_true, Option.isNone_eq_false_iff,
          Option.isSome_iff_exists] at hc hu
        obtain ⟨⟨c, hc⟩, -⟩ := hc
        exact .deed (.proving i c hc hu)

theorem proveShot_does (injector : Nat) (s : State) : Does s (Machine.proveShot injector s).1 := by
  unfold Machine.proveShot
  split
  · exact .same s
  · split
    · next hc hp =>
      split
      · exact .same s
      · split
        · exact .same s
        · exact .deed (.proveShot _ _ _ hc hp)
    · exact .same s

theorem injectorResult_does (injector total : Nat) (s : State) :
    Does s (injectorResult injector total s).1 := by
  unfold injectorResult
  split
  · exact .same s
  · split
    · exact .same s
    · split
      · next hc hp =>
        split
        · exact .same s
        · dsimp only
          split
          · next hk => exact .deed (.meterK _ _ _ _ hc hp hk)
          · exact .same s
      · exact .same s

theorem endProving_does (subject number : Nat) (s : State) :
    Does s (endProving subject number s).1 := by
  unfold endProving
  split
  · unfold endMeterProving
    split
    · exact .same s
    · split
      · exact .same s
      · exact .deed (.noResult s _)
  · unfold endInjectorProving
    split
    · next hp =>
      split
      · exact .same s
      · exact .deed (.provingEnded _ _ hp)
    · exact .same s
  · exact .same s

/-- What an owner does to the records behind the ports. -/
theorem owner_does {o : Owner} (h : RequestOwner o) (s : State) : Does s (o s).1 := by
  cases h with
  | setClock => exact .quiet (writeClock_quiet ..)
  | answerReferral => exact .identified (answerReferral_frame ..) fun h => answerReferral_identified h ..
  | presentCard => exact .identified (presentCard_frame ..) fun h => presentCard_identified h ..
  | nameVehicle => exact .identified (nameVehicle_frame ..) fun h => nameVehicle_identified h ..
  | putAccount => exact putAccount_does ..
  | setAllocation => exact setAllocation_does ..
  | dropAccount => exact dropAccount_does ..
  | endLoad => exact endLoad_does ..
  | releaseNote => exact releaseNote_does ..
  | planCompartment => exact planCompartment_does ..
  | putProduct => exact putProduct_does ..
  | putArm => exact putArm_does ..
  | putMeterCurve => exact putMeterCurve_does ..
  | setBay => exact setBay_does ..
  | clearRackStop => exact clearRackStop_does ..
  | startArm => exact startArm_does ..
  | stopArm => exact stopArm_does ..
  | resumeArm => exact resumeArm_does ..
  | putInjector => exact putInjector_does ..
  | clearInjectorFault => exact clearInjectorFault_does ..
  | putRecipe => exact putRecipe_does ..
  | dropRecipe => exact dropRecipe_does ..
  | beginMeterRun => exact beginMeterRun_does ..
  | meterResult => exact meterResult_does ..
  | beginInjectorProving => exact beginInjectorProving_does ..
  | proveShot => exact proveShot_does ..
  | injectorResult => exact injectorResult_does ..
  | endProving => exact endProving_does ..
  | refuse | getLoad | getPermissives => exact .same s
  | poll | nextEvent | linkReset | setLink | getAccount | setLoadTimes | getArm | getTotals
  | readMeterFault | getInjector | readNote =>
    refine .quiet ?_
    simp only [poll, nextEvent, linkReset, setLink, getAccount, setLoadTimes, getArm, getTotals,
      readMeterFault, getInjector, readNote]
    repeat' split
    all_goals constructor <;> rfl
  | putDriver | dropDriver | getDriver | putVehicle | dropVehicle | getVehicle | setFilter
  | setAuthority =>
    refine .quiet ?_
    simp only [putDriver, dropDriver, getDriver, putVehicle, dropVehicle, getVehicle, setFilter,
      setAuthority]
    repeat' split
    all_goals constructor <;> rfl

/-- What an event does to the records behind the ports. -/
theorem eventStep_does {s t : State} (h : EventStep s t) :
    Does s t ∨ ∃ u, Quiet s u ∧ Does u t := by
  cases h with
  | none => exact .inl (.same s)
  | hunts =>
    unfold receiverHunts
    split
    · exact .inl (.quiet (by constructor <;> rfl))
    · exact .inl (.same s)
  | silence =>
    refine .inr ⟨post .linkLost 0 0 s.port.silenceLimit
      { s with port.link := .lost, port.silence := .stopped }, ?_, .identified (linkLost_frame _) linkLost_identified⟩
    refine Quiet.trans ?_ (post_quiet ..)
    constructor <;> rfl
  | clock => exact .inl (.quiet (writeClock_quiet ..))
  | referral => exact .inl (.identified (expireReferral_frame s) expireReferral_identified)
  | identification => exact .inl (.identified (expireIdentification_frame s) expireIdentification_identified)
  | idle hl => exact .inl (.deed (.endOpen _ hl))
  | pulseA n => exact .inl (.deed (.pulseA s n))
  | pulseB n c hc hs => exact .inl (.deed (.pulseB n c hc hs))
  | sample n probe => exact .inl (.deed (.sample s _ _))
  | noFlow => exact .inl (.deed (.noFlow s _))
  | closingTimer => exact .inl (.deed (.closingTimer s _))
  | trailingTimer => exact .inl (.deed (.trailingTimer s _))
  | rawInput => exact .inl (.deed (.rawInput s _ _))
  | window => exact .inl (.deed (.window s _ _))
  | additivePulse => exact .inl (.deed (.additivePulse s _))
  | shotTimer => exact .inl (.deed (.shotTimer s _))
  | tailTimer => exact .inl (.deed (.tailTimer s _))
  | proveTail => exact .inl (.deed (.proveTail s _))
  | form => exact .inl (.quiet ((emptyBuffer_quiet s).trans (answerForm_quiet _)))
  | record => exact .inl (.quiet (emptyBuffer_quiet s))
  | endDropping => exact .inl (.quiet (endDropping_quiet s))
  | endOverflow => exact .inl (.quiet ((emptyBuffer_quiet s).trans (endDropping_quiet _)))
  | stops => exact .inl (.deed (.stops s _))
  | warm => exact .inl (.deed (.warm s _ _))
  | cold => exact .inl (.deed (.cold s _ _))
  | lead | replyEnd | clockOnBattery | character | dropped | output | markerLost =>
    exact .inl (.quiet (by constructor <;> rfl))

/-- All that a command can do to the records behind the ports. -/
theorem acts_does {s t : State} (h : Acts s t) : ∃ u, Quiet s u ∧ Does u t := by
  cases h with
  | request _ ho =>
    exact ⟨_, frameTaken_quiet s, (owner_does ho _).then (sendReply_quiet ..)⟩
  | console _ ho =>
    exact ⟨_, emptyBuffer_quiet s, (owner_does ho.request _).then (answerConsole_quiet ..)⟩
  | consolePlan =>
    exact ⟨_, emptyBuffer_quiet s, (planCompartment_does ..).then (answerPlan_quiet ..)⟩
  | event he =>
    obtain h | h := eventStep_does he
    · exact ⟨s, .refl s, h⟩
    · exact h

/-- One inversion for the step: a millisecond, something quiet, or a deed between two quiet parts. -/
theorem step_cases {s t : State} (h : step s = .next t) :
    t = s.tick ∨ Quiet s t ∨ ∃ u v, Quiet s u ∧ Deed u v ∧ Quiet v t := by
  unfold step at h
  split at h
  · obtain ⟨u, q, d⟩ := acts_does (exec_acts h)
    refine .inr ?_
    have q' : Quiet s u := Quiet.trans (by constructor <;> rfl) q
    obtain d | ⟨v, d, q2⟩ := d
    · exact .inl (q'.trans d)
    · exact .inr ⟨u, v, q', d, q2⟩
  · cases h; exact .inl rfl

/-- What a millisecond, what is quiet and every deed keep true, every step keeps true. -/
theorem step_invariant {P : State → Prop} (tick : ∀ s, P s → P s.tick)
    (quiet : ∀ {s t}, Quiet s t → P s → P t) (deed : ∀ {s t}, P s → Deed s t → P t)
    {s t : State} (h : P s) (hs : step s = .next t) : P t := by
  obtain rfl | q | ⟨u, v, q1, d, q2⟩ := step_cases hs
  · exact tick s h
  · exact quiet q h
  · exact quiet q2 (deed (quiet q1 h) d)

end Sys2Proof.Machine
end

section
/-! SUPPORT AND PROOF. The load's record with its state and the notes in order, through every step. -/

namespace Sys2Proof.Machine

/-! ### What leaves the load, its note number and the store as they are -/

/-- From `s` to `t` the load state, the note number of the open load, the referral and the store have
not changed. -/
structure LoadKept (s t : State) : Prop where
  state : t.load.state = s.load.state
  referral : t.permit.referral = s.permit.referral
  store : t.store = s.store
  note : t.load.record.map (·.note) = s.load.record.map (·.note)

theorem LoadKept.same {s t : State} (hl : t.load = s.load) (hp : t.permit = s.permit)
    (hs : t.store = s.store) : LoadKept s t := ⟨by rw [hl], by rw [hp], hs, by rw [hl]⟩

theorem LoadKept.refl (s : State) : LoadKept s s := ⟨rfl, rfl, rfl, rfl⟩

theorem LoadKept.trans {s t u : State} (a : LoadKept s t) (b : LoadKept t u) : LoadKept s u :=
  ⟨b.state.trans a.state, b.referral.trans a.referral, b.store.trans a.store, b.note.trans a.note⟩

theorem Quiet.loadKept {s t : State} (h : Quiet s t) : LoadKept s t :=
  ⟨h.state, h.referral, h.store, by rw [h.record]⟩

theorem AdditiveFrame.loadKept {s t : State} (h : AdditiveFrame s t) : LoadKept s t := by
  unfold AdditiveFrame at h; rw [h]; exact .same rfl rfl rfl

theorem updArm_loadKept (s : State) (n : ArmId) (f : Arm → Arm) : LoadKept s (s.updArm n f) :=
  .same rfl rfl rfl

theorem setInjector_loadKept (s : State) (i : InjId) (j : Injector) :
    LoadKept s (s.setInjector i j) := .same rfl rfl rfl

theorem post_loadKept (k : EventKind) (a c v : Nat) (s : State) : LoadKept s (post k a c v s) :=
  (post_quiet k a c v s).loadKept

theorem offer_loadKept (i : InjId) (s : State) : LoadKept s (offer i s) :=
  (offer_frame i s).additive.loadKept

theorem offerAll_loadKept (s : State) : LoadKept s (offerAll s) :=
  (offerAll_frame s).additive.loadKept

theorem updRecord_loadKept (s : State) (f : OpenLoad → OpenLoad) (h : ∀ r, (f r).note = r.note) :
    LoadKept s (s.updRecord f) := by
  refine ⟨rfl, rfl, rfl, ?_⟩
  simp only [State.updRecord, Option.map_map]
  cases s.load.record with
  | none => rfl
  | some r => simp [h]

theorem releaseEntry_loadKept (e : PlanEntry) (s : State) : LoadKept s (releaseEntry e s) := by
  rw [releaseEntry_frame]; exact .same rfl rfl rfl

theorem cancelArmed_loadKept (n : ArmId) (s : State) : LoadKept s (cancelArmed n s) := by
  unfold cancelArmed
  split
  · split
    · exact ((releaseEntry_loadKept ..).trans (updRecord_loadKept _ (OpenLoad.withoutArm n)
        fun _ => rfl)).trans (updArm_loadKept ..)
    · exact .refl s
  · exact .refl s

theorem makeLine_loadKept (o : BatchOutcome) (n : ArmId) (s : State) :
    LoadKept s (makeLine o n s) := by
  unfold makeLine
  split
  · split
    · dsimp only
      have hc : ∀ a c r u, LoadKept s (charge a c r u s) := fun a c r u => .same rfl rfl rfl
      refine ((hc ..).trans (updRecord_loadKept _ _ ?_)).trans (updArm_loadKept ..)
      exact fun _ => rfl
    · exact .refl s
  · exact .refl s

theorem stopArmNow_loadKept (n : ArmId) (s : State) : LoadKept s (stopArmNow n s) := by
  obtain h | h := stopArmNow_cases n s <;> rw [h]
  · exact updArm_loadKept ..
  · exact .refl s

theorem planMayHaveEmptied_loadKept (s : State) : LoadKept s (planMayHaveEmptied s) := by
  obtain ⟨-, h⟩ | ⟨-, h⟩ := planMayHaveEmptied_cases s <;> rw [h]
  · exact ⟨rfl, rfl, rfl, rfl⟩
  · exact .refl s

theorem recomputePermissive_loadKept (s : State) : LoadKept s (recomputePermissive s) := by
  rw [recomputePermissive_rest]; exact .same rfl rfl rfl

theorem forArms_loadKept {f : ArmId → State → State} (hf : ∀ n s, LoadKept s (f n s)) (s : State) :
    LoadKept s (forArms f s) :=
  forArms_invariant (LoadKept s) f (fun n _ h => h.trans (hf n _)) (.refl s)

theorem forInjectors_loadKept {f : InjId → State → State} (hf : ∀ i s, LoadKept s (f i s))
    (s : State) : LoadKept s (forInjectors f s) :=
  forInjectors_invariant (LoadKept s) f (fun i _ h => h.trans (hf i _)) (.refl s)

theorem losePermissive_loadKept (n : ArmId) (s : State) : LoadKept s (losePermissive n s) := by
  rw [(losePermissive_rest n s).1]; exact .same rfl rfl rfl

theorem loseCoupler_loadKept (n : ArmId) (s : State) : LoadKept s (loseCoupler n s) := by
  rw [(loseCoupler_rest n s).1]; exact .same rfl rfl rfl

theorem rackStopArm_loadKept (n : ArmId) (s : State) : LoadKept s (rackStopArm n s) := by
  rw [(rackStopArm_rest n s).1]; exact .same rfl rfl rfl

theorem rackStopHandOver_loadKept (lost : Bool) (n : ArmId) (s : State) :
    LoadKept s (rackStopHandOver lost n s) := by
  have hc : LoadKept s s.chosen := .same rfl rfl rfl
  unfold rackStopHandOver
  split
  · split
    · exact (hc.trans (losePermissive_loadKept ..)).trans (rackStopArm_loadKept ..)
    · exact (hc.trans (rackStopArm_loadKept ..)).trans (losePermissive_loadKept ..)
  · exact rackStopArm_loadKept ..

theorem rackStopCancel_loadKept (s : State) : LoadKept s (rackStopCancel s) := by
  have h := forArms_loadKept cancelArmed_loadKept s
  simp only [rackStopCancel]
  split
  · exact h.trans (planMayHaveEmptied_loadKept _)
  · exact h

theorem recomputed_loadKept (s : State) : LoadKept s (recomputed s) := by
  rw [recomputed_rest]; exact .same rfl rfl rfl

theorem setRackStop_loadKept (s : State) : LoadKept s (setRackStop s) := by
  have h0 : LoadKept s { s with monitor.rackStop := true } := .same rfl rfl rfl
  have h1 := (h0.trans (post_loadKept .rackStop 0 0 0 _)).trans (recomputed_loadKept _)
  simp only [setRackStop]
  exact ((h1.trans (rackStopCancel_loadKept _)).trans
    (forArms_loadKept (rackStopHandOver_loadKept _) _)).trans
    (forInjectors_loadKept (fun i s => (rackStopInjector_rest i s).loadKept) _)

theorem inputChanged_loadKept (i : Input) (old v : Nat) (s : State) :
    LoadKept s (inputChanged i old v s) := by
  have hp := fun k a c v => post_loadKept k a c v s
  unfold inputChanged
  split
  · exact (hp ..).trans (recomputePermissive_loadKept _)
  · exact (hp ..).trans (recomputePermissive_loadKept _)
  · exact (hp ..).trans (recomputePermissive_loadKept _)
  · split
    · exact hp ..
    · dsimp only
      split
      · exact hp ..
      · exact (hp ..).trans (setRackStop_loadKept _)
  · dsimp only
    split
    · exact hp ..
    · exact (hp ..).trans (loseCoupler_loadKept ..)
  · dsimp only
    split
    · exact hp ..
    · exact (hp ..).trans (loseCoupler_loadKept ..)

theorem enterHeld_loadKept (k : HoldCause) (n : ArmId) (s : State) : LoadKept s (enterHeld k n s) :=
  ((AdditiveFrame.refl s).held k n).loadKept

theorem enterClosing_loadKept (o : BatchOutcome) (n : ArmId) (s : State) :
    LoadKept s (enterClosing o n s) := ((AdditiveFrame.refl s).closed o n).loadKept

theorem takePulse_additive (i : InjId) (s : State) : AdditiveFrame s (takePulse i s) := by
  have hc : ∀ c count, AdditiveFrame s (creepFound i c count s) := fun c count => by
    simp only [creepFound]
    split
    · exact (((AdditiveFrame.refl s).updArm ..).post ..).setInjector ..
    · exact ((AdditiveFrame.refl s).post ..).setInjector ..
  unfold takePulse
  split
  · simp only [idlePulse]
    split
    · exact .refl s
    · split
      · exact hc ..
      · exact (AdditiveFrame.refl s).setInjector ..
  · exact (AdditiveFrame.refl s).setInjector ..
  · exact (AdditiveFrame.refl s).setInjector ..
  · exact .refl s
  · exact .refl s

theorem shotTimeOut_additive (i : InjId) (s : State) : AdditiveFrame s (shotTimeOut i s) := by
  unfold shotTimeOut
  split
  · split
    · exact (AdditiveFrame.refl s).setInjector ..
    · exact .refl s
  · split
    · split
      · exact (AdditiveFrame.refl s).setInjector ..
      · exact .refl s
    · exact .refl s
  · exact .refl s

theorem tailTimeOut_additive (i : InjId) (s : State) : AdditiveFrame s (tailTimeOut i s) := by
  unfold tailTimeOut
  split
  · split
    · exact endShot_rest ..
    · exact .refl s
  · exact .refl s

theorem proveTailTimeOut_additive (i : InjId) (s : State) :
    AdditiveFrame s (proveTailTimeOut i s) := by
  unfold proveTailTimeOut
  split
  · split
    · split
      · exact ((AdditiveFrame.refl s).setInjector ..).post ..
      · exact .refl s
    · exact .refl s
  · exact .refl s

/-! ### The load's record and the notes -/

/-- The load's record stands with its state and the notes are in order. -/
def LoadAndNotes (s : State) : Prop := LoadStateSound s ∧ NotesSound s

theorem flowingBatchSample_additive (n : ArmId) (c : ArmConfig) (r : SampleReport)
    (cause : Option HoldCause) (s : State) :
    AdditiveFrame s.chosen (flowingBatchSample n c r cause s) := by
  have h0 : AdditiveFrame s.chosen (countCycles r.delta n s.chosen) :=
    (AdditiveFrame.refl _).updArm ..
  simp only [flowingBatchSample]
  refine (AdditiveFrame.trans ?_ (flowingShare_rest ..)).trans (offerAll_frame _).additive
  split
  · exact h0.trans (offerAll_frame _).additive
  · exact h0

theorem engineSample_loadKept (n : ArmId) (c : ArmConfig) (p : Product) (probe : Option Int)
    (s : State) : LoadKept s (engineSample n c p probe s).1 := by
  rw [(engineSample_rest n c p probe s).1]; exact .same rfl rfl rfl

theorem closeOutArm_loadKept (n : ArmId) (s : State) : LoadKept s (closeOutArm n s) := by
  simp only [closeOutArm]
  refine LoadKept.trans ?_ (updArm_loadKept ..)
  split
  · exact makeLine_loadKept ..
  · split
    · exact .refl s
    · exact cancelArmed_loadKept ..

theorem tick_loadKept (s : State) : LoadKept s s.tick := by
  unfold State.tick
  split
  · exact ⟨rfl, rfl, rfl, rfl⟩
  · exact .refl s

/-! ### What holds of the load through its elementary changes -/

/-- A property of the load's record, its state and the notes that every elementary change of them
keeps. -/
structure LoadInvariant (P : State → Prop) : Prop where
  state : ∀ {s}, P s → LoadStateSound s
  kept : ∀ {s t}, LoadKept s t → P s → P t
  stored : ∀ {s r}, P s → s.load.record.map (·.note) = some r.note →
    ∀ cause, P (storeNote r cause s)
  ending : ∀ {s}, P s → s.load.state = .opened → P (enterLoad .ending s)
  identified : ∀ {s t}, P s → Identified s t → P t
  released : ∀ {s t rest}, P s → s.store.notes = t :: rest → P { s with store.notes := rest }
  warmReset : ∀ {s} address baud, P s → P (warmReset address baud s)
  cold : ∀ {s}, s.load = .cold → s.permit = .cold → s.store = { notes := [], next := 1 } → P s

theorem LoadKept.sound {s t : State} (k : LoadKept s t) (h : LoadAndNotes s) : LoadAndNotes t := by
  obtain ⟨⟨hrec, href⟩, hasc, hbelow, hopen, hroom, hnext⟩ := h
  have hsome : t.load.record.isSome = s.load.record.isSome := by
    simpa using congrArg Option.isSome k.note
  refine ⟨⟨?_, ?_⟩, ?_, ?_, fun r hr => ?_, ?_, ?_⟩
  · rw [hsome, k.state]; exact hrec
  · rw [k.referral, k.state]; exact href
  · rw [k.store]; exact hasc
  · rw [k.store]; exact hbelow
  · have hn := k.note
    rw [hr] at hn
    obtain ⟨r', hr', e⟩ := Option.map_eq_some_iff.mp hn.symm
    dsimp only at e
    rw [k.store, ← e]; exact hopen r' hr'
  · rw [k.store, k.state]; exact hroom
  · rw [k.store, k.state]; exact hnext

/-- The note of a load whose record stands joins the store behind the others. -/
theorem storeNote_sound {s : State} (h : LoadAndNotes s) {r : OpenLoad}
    (hr : s.load.record.map (·.note) = some r.note) (cause : EndCause) :
    LoadAndNotes (storeNote r cause s) := by
  obtain ⟨⟨hrec, href⟩, hasc, hbelow, hopen, hroom, -⟩ := h
  obtain ⟨q, hq, hnote⟩ := Option.map_eq_some_iff.mp hr
  obtain ⟨hnext, habove⟩ := hopen q hq
  have hstate : s.load.state = .opened ∨ s.load.state = .ending := hrec.mp (by rw [hq]; rfl)
  have hpend : s.permit.referral.pendingCard.isSome = false :=
    LoadStateSound.not_pending ⟨hrec, href⟩ (by obtain h | h := hstate <;> rw [h] <;> nofun)
  have hlen : s.store.notes.length + 1 ≤ Config.noteStoreSize := by
    rwa [if_neg (by obtain h | h := hstate <;> rw [h] <;> nofun)] at hroom
  rw [storeNote_rest]
  refine ⟨⟨?_, ?_⟩, ?_, ?_, nofun, ?_, ?_⟩
  · simp
  · intro hp; simp only [hpend] at hp; cases hp
  · simp only [List.map_append, List.map_cons, List.map_nil, List.pairwise_append]
    refine ⟨hasc, List.pairwise_singleton .., fun a ha b hb => ?_⟩
    obtain ⟨t, ht, rfl⟩ := List.mem_map.mp ha
    rw [List.mem_singleton] at hb
    rw [hb, noteOf, ← hnote]; exact habove t ht
  · intro t ht
    obtain ht | ht := List.mem_append.mp ht
    · exact hbelow t ht
    · rw [List.mem_singleton] at ht
      rw [ht, noteOf, ← hnote]; dsimp only; omega
  · simpa using hlen
  · rintro (h | h) <;> cases h

/-- An open load enters ENDING. -/
theorem enterEnding_sound {s : State} (h : LoadAndNotes s) (hs : s.load.state = .opened) :
    LoadAndNotes (enterLoad .ending s) := by
  obtain ⟨⟨hrec, href⟩, hasc, hbelow, hopen, hroom, -⟩ := h
  have hsome : s.load.record.isSome = true := hrec.mpr (.inl hs)
  have hpend := LoadStateSound.not_pending ⟨hrec, href⟩ (by rw [hs]; nofun)
  rw [hs] at hroom
  rw [enterLoad_rest]
  refine ⟨⟨?_, ?_⟩, hasc, hbelow, hopen, by simpa using hroom, ?_⟩
  · simp [hsome]
  · intro hp; simp only [hpend] at hp; cases hp
  · rintro (h | h) <;> cases h

/-- No record stands while an identification is under way. -/
theorem Identified.no_record {s t : State} (hi : Identified s t) (h : LoadStateSound s) :
    s.load.record = none := by
  cases hr : s.load.record with
  | none => rfl
  | some r =>
    obtain h | h := h.1.mp (by rw [hr]; rfl)
    · exact absurd h hi.before.1
    · exact absurd h hi.before.2

theorem identified_sound {s t : State} (h : LoadAndNotes s) (hi : Identified s t) :
    LoadAndNotes t := by
  obtain ⟨⟨hrec, href⟩, hasc, hbelow, hopen, hroom, hlast⟩ := h
  have hnone := hi.no_record ⟨hrec, href⟩
  have hplace : t.load.state = .noLoad
      ∨ (s.store.notes.length + 1 ≤ Config.noteStoreSize ∧ s.store.next < Config.lastNoteNumber) := by
    by_cases h0 : s.load.state = .noLoad
    · obtain ht | ⟨ht, -⟩ := hi.room h0
      · exact .inl ht
      · simp only [State.storeTakes, Bool.and_eq_true, decide_eq_true_eq] at ht
        exact .inr ht
    · rw [if_neg h0] at hroom
      refine .inr ⟨hroom, hlast ?_⟩
      have hb := hi.before
      cases hs : s.load.state <;> simp_all
  obtain ⟨ho, he, hr, hst⟩ | ⟨ho, ⟨p, v, hr⟩, hst⟩ := hi.after
  · refine ⟨⟨?_, hi.referral⟩, by rwa [hst], by rwa [hst], ?_, ?_, ?_⟩
    · simp [hr, hnone, ho, he]
    · rw [hr, hnone]; nofun
    · rw [hst]
      obtain ht | ⟨ht, -⟩ := hplace
      · rw [if_pos ht]; omega
      · split <;> omega
    · intro hw
      rw [hst]
      obtain ht | ⟨-, ht⟩ := hplace
      · rw [ht] at hw; obtain hw | hw := hw <;> cases hw
      · exact ht
  · obtain ht | ⟨hlen, hnext⟩ := hplace
    · rw [ho] at ht; cases ht
    · have hn : nextNoteAfter s.store.next = s.store.next + 1 := by
        unfold nextNoteAfter; omega
      refine ⟨⟨by simp [hr, ho], hi.referral⟩, by rwa [hst], ?_, ?_, ?_, ?_⟩
      · rw [hst, hn]; exact fun t ht => Nat.lt_succ_of_lt (hbelow t ht)
      · intro r hr'
        rw [hr, Option.some.injEq] at hr'
        rw [← hr', hst, hn]
        exact ⟨rfl, hbelow⟩
      · rw [hst, ho, if_neg nofun]; exact hlen
      · rw [ho]; rintro (h | h) <;> cases h

theorem warmReset_sound {s : State} (address : Byte) (baud : BitVec 2) (h : LoadAndNotes s) :
    LoadAndNotes (warmReset address baud s) := by
  obtain ⟨⟨hrec, -⟩, hasc, hbelow, hopen, hroom, -⟩ := h
  have hw : ∀ u : State, u.load.record = s.load.record → u.load.state = s.load.state.warm →
      u.store = s.store → u.permit.referral = .empty → LoadAndNotes u := by
    intro u hr hl hs hp
    refine ⟨⟨?_, ?_⟩, by rwa [hs], by rwa [hs], by rwa [hr, hs], ?_, ?_⟩
    · rw [hr, hl, hrec]; cases s.load.state <;> simp [LoadState.warm]
    · rw [hp]; nofun
    · rw [hs, hl]
      cases hst : s.load.state <;> simp only [hst, LoadState.warm] at hroom ⊢ <;> simp_all <;> omega
    · rw [hl]; cases s.load.state <;> simp [LoadState.warm]
  simp only [warmReset]
  split
  · exact hw _ rfl rfl rfl rfl
  · exact hw _ rfl rfl rfl rfl

theorem noteReleased_sound {s : State} {t : Note} {rest : List Note} (h : LoadAndNotes s)
    (hn : s.store.notes = t :: rest) : LoadAndNotes { s with store.notes := rest } := by
  obtain ⟨hl, hasc, hbelow, hopen, hroom, hlast⟩ := h
  rw [hn] at hasc hbelow hopen hroom
  refine ⟨hl, (List.pairwise_cons.mp hasc).2, fun x hx => hbelow x (List.mem_cons_of_mem _ hx),
    fun r hr => ⟨(hopen r hr).1, fun x hx => (hopen r hr).2 x (List.mem_cons_of_mem _ hx)⟩, ?_,
    hlast⟩
  rw [List.length_cons] at hroom
  dsimp only at hroom ⊢
  omega

theorem loadAndNotes_cold {s : State} (hl : s.load = .cold) (hp : s.permit = .cold)
    (hs : s.store = { notes := [], next := 1 }) : LoadAndNotes s := by
  simp only [LoadAndNotes, LoadStateSound, NotesSound, hl, hp, hs]
  decide

theorem loadAndNotes_invariant : LoadInvariant LoadAndNotes where
  state h := h.1
  kept := LoadKept.sound
  stored h hr := storeNote_sound h hr
  ending := enterEnding_sound
  identified := identified_sound
  released := noteReleased_sound
  warmReset := warmReset_sound
  cold := loadAndNotes_cold

/-! #### The load state alone -/

theorem LoadKept.loadState {s t : State} (k : LoadKept s t) (h : LoadStateSound s) :
    LoadStateSound t := by
  have hsome : t.load.record.isSome = s.load.record.isSome := by
    simpa using congrArg Option.isSome k.note
  exact ⟨by rw [hsome, k.state]; exact h.1, by rw [k.referral, k.state]; exact h.2⟩

theorem storeNote_loadState {s : State} (h : LoadStateSound s) {r : OpenLoad}
    (hr : s.load.record.map (·.note) = some r.note) (cause : EndCause) :
    LoadStateSound (storeNote r cause s) := by
  have hstate : s.load.state ≠ .referred := fun hs => by
    obtain ⟨q, hq, -⟩ := Option.map_eq_some_iff.mp hr
    obtain h | h := h.1.mp (by rw [hq]; rfl) <;> rw [hs] at h <;> cases h
  rw [storeNote_rest]
  exact ⟨by simp, fun hp => by simp only [h.not_pending hstate] at hp; cases hp⟩

theorem enterEnding_loadState {s : State} (h : LoadStateSound s) (hs : s.load.state = .opened) :
    LoadStateSound (enterLoad .ending s) := by
  have hsome : s.load.record.isSome = true := h.1.mpr (.inl hs)
  have hpend := h.not_pending (by rw [hs]; nofun)
  rw [enterLoad_rest]
  exact ⟨by simp [hsome], fun hp => by simp only [hpend] at hp; cases hp⟩

theorem identified_loadState {s t : State} (h : LoadStateSound s) (hi : Identified s t) :
    LoadStateSound t := by
  refine ⟨?_, hi.referral⟩
  obtain ⟨ho, he, hr, -⟩ | ⟨ho, ⟨p, v, hr⟩, -⟩ := hi.after
  · simp [hr, hi.no_record h, ho, he]
  · simp [hr, ho]

theorem warmReset_loadState {s : State} (address : Byte) (baud : BitVec 2)
    (h : LoadStateSound s) : LoadStateSound (warmReset address baud s) := by
  have hw : ∀ u : State, u.load.record = s.load.record → u.load.state = s.load.state.warm →
      u.permit.referral = .empty → LoadStateSound u := by
    intro u hr hl hp
    refine ⟨?_, by rw [hp]; nofun⟩
    rw [hr, hl, h.1]; cases s.load.state <;> simp [LoadState.warm]
  simp only [warmReset]
  split
  · exact hw _ rfl rfl rfl
  · exact hw _ rfl rfl rfl

theorem loadState_invariant : LoadInvariant LoadStateSound where
  state h := h
  kept := LoadKept.loadState
  stored h hr := storeNote_loadState h hr
  ending := enterEnding_loadState
  identified := identified_loadState
  released h _ := h
  warmReset := warmReset_loadState
  cold hl hp _ := by simp only [LoadStateSound, hl, hp]; decide

/-! ### Every command -/

section
variable {P : State → Prop} (I : LoadInvariant P)
include I

theorem sealLoad_keeps {s : State} (h : P s) : P (sealLoad s) := by
  obtain ⟨r, cause, hr, -, e⟩ | ⟨-, e⟩ := sealLoad_cases s <;> rw [e]
  · exact I.kept (post_loadKept ..) (I.stored h (by rw [hr]; rfl) cause)
  · exact h

theorem endOpenLoad_keeps {s : State} (cause : EndCause) (h : P s)
    (hs : s.load.state = .opened) : P (endOpenLoad cause s) := by
  have hf : ∀ (n : ArmId) (u : State), LoadKept u (match u.entryOf n with
      | some e => if e.state = .armed then cancelArmed n u else stopArmNow n u
      | none => u) := fun n u => by
    split
    · split
      · exact cancelArmed_loadKept ..
      · exact stopArmNow_loadKept ..
    · exact .refl u
  have h1 : LoadKept s (stopIdleTimer (s.updRecord fun r => { r with endCause := some cause })) :=
    (updRecord_loadKept s (fun r => { r with endCause := some cause }) fun _ => rfl).trans
      ⟨rfl, rfl, rfl, rfl⟩
  have h2 := h1.trans (forArms_loadKept hf _)
  have h3 := I.ending (I.kept h2 h) (h2.state.trans hs)
  simp only [endOpenLoad]
  split
  · exact sealLoad_keeps I h3
  · exact h3

/-! ### Samples -/

theorem endBatch_keeps {s : State} (n : ArmId) (c : ArmConfig) (h : P s) :
    P (endBatch n c s) := by
  have hb : LoadKept s (batchOver n c s) := by
    simp only [batchOver]
    refine LoadKept.trans ?_ (updArm_loadKept ..)
    refine LoadKept.trans ?_ (post_loadKept ..)
    split
    · exact (makeLine_loadKept ..).trans (updArm_loadKept ..)
    · exact makeLine_loadKept ..
  rw [endBatch_eq]
  split
  · exact sealLoad_keeps I (I.kept hb h)
  · exact I.kept (planMayHaveEmptied_loadKept _) (I.kept hb h)

theorem closingShare_keeps {s : State} (n : ArmId) (c : ArmConfig) (pulses : Nat)
    (h : P s) : P (closingShare n c pulses s) := by
  have hu := I.kept (updArm_loadKept s n fun a =>
    { a with control.settle := settleWith pulses a.control.settle }) h
  simp only [closingShare]
  split
  · split
    · refine I.kept ?_ hu
      rw [(endRun_rest ..).1]; exact .same rfl rfl rfl
    · exact endBatch_keeps I n c hu
  · exact hu

theorem controllerSample_keeps {s : State} (n : ArmId) (c : ArmConfig) (r : SampleReport)
    (h : P s) : P (controllerSample n c r s) := by
  have hc : ∀ u : State, LoadKept u u.chosen := fun u => .same rfl rfl rfl
  simp only [controllerSample]
  have h0 : P (if (r.fault.isSome && r.overspeed) = true then s.chosen else s) := by
    split
    · exact I.kept (hc s) h
    · exact h
  split
  · split
    · exact I.kept ((updArm_loadKept ..).trans (flowingShare_rest ..).loadKept) h0
    · exact I.kept ((hc _).trans (flowingBatchSample_additive ..).loadKept) h0
  · split
    · exact closingShare_keeps I n c _ h0
    · exact h0

theorem sampleArm_keeps {s : State} (n : ArmId) (probe : Option Int) (h : P s) :
    P (sampleArm n probe s) := by
  unfold sampleArm
  split
  · exact h
  · split
    · exact h
    · exact controllerSample_keeps I n _ _ (I.kept (engineSample_loadKept ..) h)

/-! ### Start-up -/

/-- The close-out of a part in which no identification stands. -/
theorem closeOutLoad_keeps {s : State} (h : P s)
    (hs : s.load.record = none → s.load.state = .noLoad) : P (closeOutLoad s) := by
  unfold closeOutLoad
  dsimp only
  split
  · next r hr =>
    have hn := I.stored h (r := { r with endCause := some .powerInterrupted })
      (by rw [hr]; rfl) .powerInterrupted
    exact I.kept (s := storeNote _ _ s) ⟨by rw [storeNote_rest], rfl, rfl, rfl⟩ hn
  · next hr =>
    have hl := hs hr
    exact I.kept ⟨hl.symm, rfl, rfl, rfl⟩ h

theorem warmStart_keeps {s : State} (address : Byte) (baud : BitVec 2) (h : P s) :
    P (warmStart address baud s) := by
  have hw := I.warmReset address baud h
  have hstate : (warmReset address baud s).load.state = s.load.state.warm := by
    simp only [warmReset]; split <;> rfl
  have hk := forArms_loadKept closeOutArm_loadKept (warmReset address baud s)
  have hclose := closeOutLoad_keeps I (I.kept hk hw) fun hr => by
    have hnot := mt (I.state (I.kept hk hw)).1.mpr (by rw [hr]; nofun)
    rw [hk.state, hstate] at hnot ⊢
    cases hl : s.load.state <;> simp_all [LoadState.warm]
  have hi : ∀ (l : List ArmId) (u : State),
      LoadKept u (l.foldl (fun s n => postInterrupted n s) u) := by
    intro l
    induction l with
    | nil => exact .refl
    | cons n l ih => exact fun u => (post_loadKept ..).trans (ih _)
  have hs : ∀ r u, LoadKept u (postSealed r u) := fun r u => by
    unfold postSealed
    split
    · exact post_loadKept ..
    · exact .refl u
  have ha : ∀ u : State, LoadKept u (afterStartUp u) := fun u => .same rfl rfl rfl
  simp only [warmStart]
  exact I.kept ((((post_loadKept ..).trans (hi _ _)).trans (hs _ _)).trans (ha _)) hclose

theorem coldStart_keeps (address : Byte) (baud : BitVec 2) (s : State) :
    P (coldStart address baud s) := by
  have ha : ∀ u : State, LoadKept u (afterStartUp u) := fun u => .same rfl rfl rfl
  unfold coldStart
  exact I.kept ((post_loadKept ..).trans (ha _)) (I.cold rfl rfl rfl)

/-! ### The step -/

/-- Every deed keeps the load's record with its state and the notes in order. -/
theorem deed_keeps {s t : State} (h : P s) (d : Deed s t) : P t := by
  cases d with
  | identified _ hi =>
    obtain rfl | hi := hi (I.state h)
    · exact h
    · exact I.identified h hi
  | noteReleased t rest hn => exact I.released h hn
  | endOpen cause hs => exact endOpenLoad_keeps I cause h hs
  | plan load n c r q preset p =>
    refine I.kept ?_ h
    simp only [acceptPlan]
    exact (updRecord_loadKept s (fun l => { l with plan := l.plan ++ [_] }) fun _ => rfl).trans
      ⟨rfl, rfl, rfl, rfl⟩
  | start n c b =>
    refine I.kept ?_ h
    simp only [startBatch]
    refine LoadKept.trans ?_ (post_loadKept ..)
    refine LoadKept.trans ?_ (updArm_loadKept ..)
    exact (updRecord_loadKept s (OpenLoad.activate n) fun _ => rfl).trans ⟨rfl, rfl, rfl, rfl⟩
  | resume n c =>
    refine I.kept ?_ h
    simp only [resumeBatch]
    refine LoadKept.trans ?_ (offerAll_loadKept _)
    refine LoadKept.trans ?_ (post_loadKept ..)
    exact ⟨rfl, rfl, rfl, rfl⟩
  | stop n => exact I.kept (stopArmNow_loadKept n s) h
  | cancel n =>
    exact I.kept ((cancelArmed_loadKept n s).trans (planMayHaveEmptied_loadKept _)) h
  | abort n c => exact I.kept ((updArm_loadKept ..).trans (enterClosing_loadKept ..)) h
  | sample n probe => exact sampleArm_keeps I n probe h
  | noFlow n => exact I.kept (enterHeld_loadKept ..) h
  | bay b =>
    refine I.kept (recomputePermissive_loadKept _) ?_
    exact I.kept (s := s) (.same rfl rfl rfl) h
  | rackCleared =>
    refine I.kept ((post_loadKept ..).trans (recomputePermissive_loadKept _)) ?_
    exact I.kept (s := s) (.same rfl rfl rfl) h
  | window i v =>
    refine I.kept (inputChanged_loadKept ..) ?_
    exact I.kept (s := s) (.same rfl rfl rfl) h
  | faultCleared i => exact I.kept ((setInjector_loadKept ..).trans (offer_loadKept ..)) h
  | provingEnded i => exact I.kept ((setInjector_loadKept ..).trans (offer_loadKept ..)) h
  | additivePulse i => exact I.kept (takePulse_additive i s).loadKept h
  | shotTimer i => exact I.kept (shotTimeOut_additive i s).loadKept h
  | tailTimer i => exact I.kept (tailTimeOut_additive i s).loadKept h
  | proveTail i => exact I.kept (proveTailTimeOut_additive i s).loadKept h
  | warm address baud => exact warmStart_keeps I address baud h
  | cold address baud => exact coldStart_keeps I ..
  | accountHold | accountNew | allocate | accountDrop | product | configure | curve | factor
  | noResult | pulseA | pulseB | beginRun | closingTimer | trailingTimer | rawInput | injector
  | recipe | recipeNew | recipeDrop | proving | proveShot | meterK | stops =>
    exact I.kept (s := s) (.same rfl rfl rfl) h

/-- What the elementary changes of the load keep, every step keeps. -/
theorem LoadInvariant.step {s t : State} (h : P s) (hs : step s = .next t) : P t :=
  step_invariant (P := P) (fun s => I.kept (tick_loadKept s)) (fun q => I.kept q.loadKept)
    (deed_keeps I) h hs

end

/-- Settles O59: what an operation does to the load's record, its state and the store is nothing
(`LoadKept`), a step of an identification (`Identified`), or the sealing of the open load. -/
theorem everyStepKeepsNotesInOrder : Obligations.EveryStepKeepsNotesInOrder :=
  fun _ _ => loadAndNotes_invariant.step

end Sys2Proof.Machine
end

section
/-! SUPPORT. Arms, plan entries and injectors bound to one another: what leaves their binding as it is,
and what an operation does to it. -/

namespace Sys2Proof.Machine

/-! ### The stage of an arm -/

/-- Where an arm stands toward a plan entry: IDLE, ARMED, or beyond ARMED (section 6.1). -/
def ArmState.stage : ArmState → Nat
  | .idle => 0
  | .armed => 1
  | _ => 2

theorem ArmState.stage_idle {a : ArmState} : a.stage = 0 ↔ a = .idle := by
  cases a <;> simp [ArmState.stage]

theorem ArmState.stage_armed {a : ArmState} : a.stage = 1 ↔ a = .armed := by
  cases a <;> simp [ArmState.stage]

theorem ArmState.stage_beyond {a : ArmState} : a.stage = 2 ↔ a.beyondArmed = true := by
  cases a <;> simp [ArmState.stage, ArmState.beyondArmed]

theorem ArmState.beyond_of_flowing {a : ArmState} (h : a.flowing = true) : a.stage = 2 := by
  cases a <;> simp_all [ArmState.flowing, ArmState.stage]

/-! ### What an arm keeps -/

/-- The gross totalizer is the sum of the three others (R96). -/
def Totals.Agree (t : Totals) : Prop := t.gross = t.batched + t.proving + t.unbatched

/-- What `SingleChannelSound` says of one arm (R79, R90). -/
def Arm.SingleOk (a : Arm) : Prop :=
  ∀ c, a.config = some c → c.singleChannel = true →
    a.channel.pulsesB = 0 ∧ (a.beyondArmed = true → a.figures.bTotal = 0)

/-- What `FlowSafe` says of one arm under a monitor (R110, R113, R114). -/
def Arm.Safe (m : Monitor) (n : ArmId) (a : Arm) : Prop :=
  (a.flowing = false → a.atRest)
    ∧ (a.flowing = true →
        m.permissiveOk = true ∧ m.deployed n = true ∧ m.couplerCode n = a.wantedCode)
    ∧ (a.inRun = true → a.beyondArmed = true)

/-- The circumstances under which an arm is judged: the monitor that must allow it to flow, and whether
the totalizers have room for a sample. -/
structure Scope where
  monitor : Monitor
  room : Prop

/-- The circumstances in a state, with no word on the totalizers. -/
def State.scope (s : State) : Scope := { monitor := s.monitor, room := False }

variable {w : Scope}

/-- From `a` to `b` arm `n` stays safe, its channel B sound and its totalizers in agreement. -/
structure ArmFit (w : Scope) (n : ArmId) (a b : Arm) : Prop where
  safe : a.Safe w.monitor n → b.Safe w.monitor n
  single : a.SingleOk → b.SingleOk
  totals : w.room → a.totals.Agree → b.totals.Agree

theorem ArmFit.refl {n : ArmId} (a : Arm) : ArmFit w n a a := ⟨id, id, fun _ => id⟩

theorem ArmFit.trans {n : ArmId} {a b c : Arm} (h : ArmFit w n a b) (k : ArmFit w n b c) :
    ArmFit w n a c :=
  ⟨fun x => k.safe (h.safe x), fun x => k.single (h.single x), fun r x => k.totals r (h.totals r x)⟩

/-- From `a` to `b` arm `n` keeps its stage, its meter run, its binding and the injectors of its
component records, and stays fit. -/
structure ArmKept (w : Scope) (n : ArmId) (a b : Arm) : Prop where
  stage : b.control.state.stage = a.control.state.stage
  run : b.inRun = a.inRun
  binding : b.control.binding = a.control.binding
  names : b.components.map (·.injector) = a.components.map (·.injector)
  fit : ArmFit w n a b

theorem ArmKept.refl {n : ArmId} (a : Arm) : ArmKept w n a a := ⟨rfl, rfl, rfl, rfl, .refl a⟩

theorem ArmKept.trans {n : ArmId} {a b c : Arm} (h : ArmKept w n a b) (k : ArmKept w n b c) :
    ArmKept w n a c :=
  ⟨k.stage.trans h.stage, k.run.trans h.run, k.binding.trans h.binding, k.names.trans h.names,
    h.fit.trans k.fit⟩

/-- An arm not beyond ARMED afterwards has no batch whose B total could count. -/
theorem Arm.SingleOk.mono {a b : Arm} (h : a.SingleOk) (hc : b.config = a.config)
    (hp : b.channel.pulsesB = a.channel.pulsesB)
    (hb : b.beyondArmed = true → a.beyondArmed = true ∧ b.figures.bTotal = a.figures.bTotal) :
    b.SingleOk := by
  intro c hbc hs
  obtain ⟨h1, h2⟩ := h c (hc ▸ hbc) hs
  refine ⟨hp.trans h1, fun hbb => ?_⟩
  obtain ⟨ha, hf⟩ := hb hbb
  exact hf.trans (h2 ha)

theorem beyond_of_stage {a b : Arm} (h : b.control.state.stage = a.control.state.stage)
    (hb : b.beyondArmed = true) : a.beyondArmed = true := by
  rw [Arm.beyondArmed, ← ArmState.stage_beyond] at *
  exact h ▸ hb

/-- A change of an arm that leaves its stage, its settings, its channel B and its totalizers. -/
theorem ArmKept.of {n : ArmId} {a b : Arm}
    (stage : b.control.state.stage = a.control.state.stage) (run : b.inRun = a.inRun)
    (binding : b.control.binding = a.control.binding)
    (names : b.components.map (·.injector) = a.components.map (·.injector))
    (safe : a.Safe w.monitor n → b.Safe w.monitor n) (config : b.config = a.config)
    (pulses : b.channel.pulsesB = a.channel.pulsesB)
    (figure : b.figures.bTotal = a.figures.bTotal) (totals : b.totals = a.totals) :
    ArmKept w n a b :=
  ⟨stage, run, binding, names, safe,
    fun h => h.mono config pulses fun hb => ⟨beyond_of_stage stage hb, figure⟩,
    fun _ h => by rw [totals]; exact h⟩

/-- An arm outside the flowing states that commands nothing is safe. -/
theorem Arm.safe_of_rest {m : Monitor} {n : ArmId} {a : Arm} (hf : a.flowing = false)
    (hr : a.atRest) (hb : a.inRun = true → a.beyondArmed = true) : a.Safe m n := by
  refine ⟨fun _ => hr, fun h => ?_, hb⟩
  rw [hf] at h; cases h

theorem ArmKept.idle {n : ArmId} {a b : Arm} (h : ArmKept w n a b) :
    b.control.state = .idle ↔ a.control.state = .idle := by
  rw [← ArmState.stage_idle, ← ArmState.stage_idle, h.stage]

theorem ArmKept.armed {n : ArmId} {a b : Arm} (h : ArmKept w n a b) :
    b.control.state = .armed ↔ a.control.state = .armed := by
  rw [← ArmState.stage_armed, ← ArmState.stage_armed, h.stage]

theorem ArmKept.beyond {n : ArmId} {a b : Arm} (h : ArmKept w n a b) : b.beyondArmed = a.beyondArmed := by
  rw [Bool.eq_iff_iff, Arm.beyondArmed, Arm.beyondArmed, ← ArmState.stage_beyond,
    ← ArmState.stage_beyond, h.stage]

theorem Arm.uses_eq (a : Arm) (i : InjId) :
    a.uses i = (a.beyondArmed && !a.inRun && (a.components.map (·.injector)).any (· == i)) := by
  simp only [Arm.uses, Arm.inBatch, List.any_map]; rfl

theorem ArmKept.uses {n : ArmId} {a b : Arm} (h : ArmKept w n a b) (i : InjId) : b.uses i = a.uses i := by
  rw [Arm.uses_eq, Arm.uses_eq, h.beyond, h.run, h.names]

/-- A change of the component records that leaves each on its injector. -/
theorem map_injector {f : Component → Component} (h : ∀ c, (f c).injector = c.injector)
    (l : List Component) : (l.map f).map (·.injector) = l.map (·.injector) := by
  simp [h]

theorem Arm.updComponents_kept {n : ArmId} (i : InjId) (f : Component → Component)
    (h : ∀ c, (f c).injector = c.injector) (a : Arm) : ArmKept w n a (a.updComponents i f) :=
  .of rfl rfl rfl (map_injector (fun c => by split <;> simp [h]) _) id rfl rfl rfl rfl

theorem Arm.holdFor_kept {n : ArmId} {a : Arm} (h : a.control.state.stage = 2) (k : HoldCause) :
    ArmKept w n a (a.holdFor k) :=
  .of h.symm rfl rfl rfl (fun _ => safe_of_rest rfl ⟨rfl, rfl, rfl⟩ fun _ => rfl) rfl rfl rfl rfl

theorem Arm.closeFor_kept {n : ArmId} {a : Arm} (h : a.control.state.stage = 2) (o : BatchOutcome) :
    ArmKept w n a (a.closeFor o) :=
  .of h.symm rfl rfl rfl (fun _ => safe_of_rest rfl ⟨rfl, rfl, rfl⟩ fun _ => rfl) rfl rfl rfl rfl

theorem nextStage_stage (c : ArmConfig) (a : Arm) :
    (nextStage c a).stage = a.control.state.stage := by
  unfold nextStage
  dsimp only
  split
  · next h => rw [h]; split <;> [split; skip] <;> rfl
  · next h => rw [h]; split <;> rfl
  · rfl

theorem nextStage_flowing (c : ArmConfig) (a : Arm) :
    (nextStage c a).flowing = a.control.state.flowing := by
  unfold nextStage
  dsimp only
  split
  · next h => rw [h]; split <;> [split; skip] <;> rfl
  · next h => rw [h]; split <;> rfl
  · rfl

/-- Regulation keeps a flowing arm flowing. -/
theorem Arm.regulate_kept {n : ArmId} (c : ArmConfig) (owed : List Nat)
    (ceiling others pulses : Nat) {a : Arm} (hf : a.flowing = true) :
    ArmKept w n a (a.regulate c owed ceiling others pulses) := by
  refine .of (nextStage_stage c a) rfl rfl rfl (fun h => ?_) rfl rfl rfl rfl
  obtain ⟨-, hflow, -⟩ := h
  have hb : (a.regulate c owed ceiling others pulses).flowing = true :=
    (nextStage_flowing c a).trans hf
  refine ⟨fun h' => ?_, fun _ => hflow hf, fun _ =>
    ArmState.stage_beyond.mp (ArmState.beyond_of_flowing hb)⟩
  rw [hb] at h'; cases h'

/-- A sample adds its increment to the gross totalizer and to one of the other three (R96). -/
theorem Totals.sample_agree {a : Arm} {delta : Nat} (h : a.totals.Agree)
    (hroom : a.totals.gross + delta < 2 ^ 64) : (a.totals.sample a delta).Agree := by
  unfold Totals.Agree at h ⊢
  have hb : ∀ v, v ≤ a.totals.gross → fit 64 (v + delta) = v + delta := fun v hv =>
    fit_of_lt (by omega)
  unfold Totals.sample
  dsimp only
  rw [hb _ le_rfl, hb _ (by omega), hb _ (by omega), hb _ (by omega)]
  have hnot : a.inBatch = true → a.inRun = false := fun hb => by
    simp only [Arm.inBatch, Bool.and_eq_true, Bool.not_eq_true'] at hb; exact hb.2
  by_cases hbatch : a.inBatch = true
  · simp only [hbatch, hnot hbatch, if_true, Bool.true_or, Bool.false_eq_true, if_false]; omega
  · by_cases hrun : a.inRun = true
    · simp only [hbatch, hrun, if_true, Bool.or_true, Bool.false_eq_true, if_false]; omega
    · simp only [hbatch, hrun, Bool.or_false, Bool.false_eq_true, if_false]; omega

theorem Arm.engine_kept {n : ArmId} {c : ArmConfig} (p : Product) (probe : Option Int) {a : Arm}
    (hc : a.config = some c) (hw : w.room → a.totals.gross + a.nextIncrement < 2 ^ 64) :
    ArmKept w n a (a.engine c p probe).1 := by
  refine ⟨rfl, rfl, rfl, rfl, id, fun h d hd hs => ?_, fun hr h => ?_⟩
  · obtain ⟨hp, hb⟩ := h d hd hs
    refine ⟨rfl, fun hbb => ?_⟩
    simp only [Arm.engine]
    split
    · simp only [Figures.sample, hp, Nat.add_zero, hb hbb]; rfl
    · exact hb hbb
  · have hroom := hw hr
    rw [Arm.nextIncrement, hc] at hroom
    exact Totals.sample_agree h hroom

/-- The start-up values of an arm, its state as it was (R100, R186). -/
theorem Arm.warm_kept {n : ArmId} (a : Arm) : ArmKept w n a a.warm := by
  refine ⟨rfl, rfl, rfl, map_injector (f := Component.discard) (fun _ => rfl) _, fun h => ?_,
    fun h c hc hs => ?_, fun _ => id⟩
  · exact ⟨fun _ => ⟨rfl, rfl, rfl⟩, h.2⟩
  · exact ⟨rfl, (h c hc hs).2⟩

theorem OfferFrame.armKept {s t : State} (h : OfferFrame s t) (n : ArmId) :
    ArmKept w n (s.arm n) (t.arm n) := by
  have e := h.arm n
  have hn := congrArg (List.map (·.injector)) (h.components n)
  simp only [List.map_map] at hn
  rw [e]
  exact .of rfl rfl rfl hn id rfl rfl rfl rfl

/-! ### Sound injectors -/

/-- An injector record is sound: IDLE when not configured, in its ranges when configured, and a shot in
flight is the one the arbiter started (`InjectorsSound` for one injector). -/
def InjectorOk (s : State) (i : InjId) (j : Injector) : Prop :=
  (j.config = none → j.state = .idle)
    ∧ (∀ c, j.config = some c →
        1 ≤ c.shotMl ∧ c.shotMl ≤ 500 ∧ 100 ≤ c.meterK ∧ c.meterK ≤ 100000)
    ∧ ∀ c r, j.config = some c → j.state = .shot r →
        c.reaches r.arm = true ∧ (s.arm r.arm).uses i = true ∧ j.diverter = r.arm
          ∧ j.lastServed = some r.arm ∧ r.target = targetPulses c

def ShotsSound (s : State) : Prop := ∀ i, InjectorOk s i (s.injector i)

theorem injectorsSound_iff {s : State} :
    InjectorsSound s ↔ ShotsSound s ∧ ∀ e ∈ s.plan, EntryBound s e := by
  constructor
  · rintro ⟨h1, h2, h3, h4⟩
    exact ⟨fun i => ⟨h1 i, h2 i, h3 i⟩, h4⟩
  · rintro ⟨h, h4⟩
    exact ⟨fun i => (h i).1, fun i => (h i).2.1, fun i => (h i).2.2, h4⟩

theorem InjectorOk.uses {s t : State} {i : InjId} {j : Injector} (h : InjectorOk s i j)
    (hu : ∀ r, j.state = .shot r → (t.arm r.arm).uses i = (s.arm r.arm).uses i) :
    InjectorOk t i j :=
  ⟨h.1, h.2.1, fun c r hc hr => by rw [hu r hr]; exact h.2.2 c r hc hr⟩

/-- A configured injector with no shot in flight. -/
theorem InjectorOk.of_no_shot {s : State} {i : InjId} {j k : Injector} (h : InjectorOk s i j)
    (hc : k.config = j.config) (hs : ∀ r, k.state ≠ .shot r)
    (hi : j.config = none → k.state = .idle) : InjectorOk s i k :=
  ⟨fun h' => hi (hc ▸ h'), fun c h' => h.2.1 c (hc ▸ h'), fun _ r _ h' => absurd h' (hs r)⟩

theorem InjectorOk.idle {s : State} {i : InjId} {j k : Injector} (h : InjectorOk s i j)
    (hc : k.config = j.config) (hs : k.state = .idle) : InjectorOk s i k :=
  h.of_no_shot hc (by rw [hs]; nofun) fun _ => hs

/-- A shot in flight whose pulses, phase or timer have changed. -/
theorem InjectorOk.shot {s : State} {i : InjId} {j : Injector} {r q : Shot} (h : InjectorOk s i j)
    (hj : j.state = .shot r) (ha : q.arm = r.arm) (ht : q.target = r.target) :
    InjectorOk s i { j with state := .shot q } := by
  refine ⟨fun hn => ?_, h.2.1, fun c x hc hx => ?_⟩
  · have := h.1 hn; rw [hj] at this; cases this
  · cases hx; rw [ha, ht]; exact h.2.2 c r hc hj

/-! ### What keeps arms, entries and injectors bound -/

/-- The account of the open load. -/
def State.payer (s : State) : Option Nat := s.load.record.map (·.account)

/-- What the plan reserves in a class of an account (R38). -/
def State.reservedFor (s : State) (number : Nat) (c : ClassId) : Nat :=
  if s.payer = some number then s.reservedBy s.plan c else 0

/-- `ReservedSound` through the payer and the plan. -/
theorem reservedSound_iff {s : State} :
    ReservedSound s ↔
      (∀ a ∈ s.accounts, ∀ c : ClassId, (a.classes.get c).reserved = s.reservedFor a.number c)
        ∧ (s.plan ≠ [] → ∃ n, s.payer = some n ∧ (s.account n).isSome = true) := by
  unfold ReservedSound State.reservedFor State.payer State.plan
  cases hr : s.load.record with
  | none => simp
  | some r => simp

/-- From `s` to `t` the plan, the accounts and the tables that the plan reads stay, every arm keeps its
part of the binding, and the injectors stay sound. -/
structure BayKept (w : Scope) (s t : State) : Prop where
  state : t.load.state = .noLoad ∨ t.load.state = s.load.state ∨ s.meterRun = false
  plan : t.plan = s.plan
  accounts : t.accounts = s.accounts
  payer : s.plan = [] ∨ t.payer = s.payer
  recipes : t.recipes = s.recipes
  products : t.products = s.products
  arms : ∀ n, ArmKept w n (s.arm n) (t.arm n)
  shots : InjectorsSound s → ShotsSound t

theorem meterRun_iff {s : State} : s.meterRun = true ↔ ∃ n, (s.arm n).inRun = true :=
  Bank4.any_toList _ _

theorem meterRun_congr {s t : State} (h : ∀ n, (t.arm n).inRun = (s.arm n).inRun) :
    t.meterRun = s.meterRun := by
  rw [Bool.eq_iff_iff, meterRun_iff, meterRun_iff]; simp only [h]

theorem recipe_congr {s t : State} (h : t.recipes = s.recipes) (code : Nat) :
    t.recipe code = s.recipe code := by simp only [State.recipe, h]

theorem recipeProduct_congr {s t : State} (h : t.recipes = s.recipes) (hp : t.products = s.products)
    (code : Nat) : t.recipeProduct code = s.recipeProduct code := by
  simp only [State.recipeProduct, recipe_congr h, hp]

/-- An entry stays bound to an arm that keeps its part. -/
theorem EntryBound.kept {s t : State} {e : PlanEntry} (h : EntryBound s e)
    (ha : ArmKept w e.arm (s.arm e.arm) (t.arm e.arm)) (hr : t.recipe e.recipe = s.recipe e.recipe) :
    EntryBound t e := by
  obtain ⟨hb, hn⟩ := h
  exact ⟨by rw [ha.binding]; exact hb, by rw [ha.names, hr]; exact hn⟩

theorem EntryAgrees.kept {s t : State} {e : PlanEntry} (h : EntryAgrees s e)
    (ha : ArmKept w e.arm (s.arm e.arm) (t.arm e.arm)) : EntryAgrees t e := by
  unfold EntryAgrees at *
  split <;> simp_all only [ha.armed, ha.beyond]

theorem BayKept.injectors {s t : State} (k : BayKept w s t) (h : InjectorsSound s) :
    InjectorsSound t := by
  refine injectorsSound_iff.mpr ⟨k.shots h, fun e he => ?_⟩
  rw [k.plan] at he
  exact ((injectorsSound_iff.mp h).2 e he).kept (k.arms _) (recipe_congr k.recipes _)

theorem BayKept.planSound {s t : State} (k : BayKept w s t) (h : PlanSound s) : PlanSound t := by
  obtain ⟨ha, hc, hidle, hent, hrun⟩ := h
  refine ⟨by rw [k.plan]; exact ha, by rw [k.plan]; exact hc, fun n => ?_, fun e he => ?_, ?_⟩
  · rw [(k.arms n).idle, (k.arms n).run, k.plan]; exact hidle n
  · rw [k.plan] at he
    obtain ⟨h1, h2, h3⟩ := hent e he
    exact ⟨(k.arms _).run.trans h1, h2.kept (k.arms _),
      by rw [recipeProduct_congr k.recipes k.products]; exact h3⟩
  · rw [meterRun_congr fun n => (k.arms n).run]
    intro hm
    obtain h | h | h := k.state
    · exact h
    · rw [h]; exact hrun hm
    · rw [h] at hm; cases hm

theorem reservedBy_congr {s t : State} {l : List PlanEntry}
    (h : ∀ e ∈ l, t.recipeClass e.recipe = s.recipeClass e.recipe) (c : ClassId) :
    t.reservedBy l c = s.reservedBy l c := by
  unfold State.reservedBy
  rw [List.filter_congr fun e he => by rw [h e he]]

/-- A load with the same plan, payer and accounts reserves the same litres. -/
theorem ReservedSound.congr {s t : State} (h : ReservedSound s) (hp : t.plan = s.plan)
    (ha : t.accounts = s.accounts) (hpay : s.plan = [] ∨ t.payer = s.payer)
    (hc : ∀ e ∈ s.plan, t.recipeClass e.recipe = s.recipeClass e.recipe) : ReservedSound t := by
  rw [reservedSound_iff] at h ⊢
  obtain ⟨h1, h2⟩ := h
  have hfor : ∀ n c, t.reservedFor n c = s.reservedFor n c := fun n c => by
    unfold State.reservedFor
    obtain he | he := hpay
    · rw [hp, he]; simp
    · rw [he, hp, reservedBy_congr hc]
  refine ⟨fun a hm c => ?_, fun hne => ?_⟩
  · rw [ha] at hm; rw [hfor]; exact h1 a hm c
  · rw [hp] at hne
    obtain he | he := hpay
    · exact absurd he hne
    · rw [he]; simpa only [State.account, ha] using h2 hne

theorem recipeClass_congr {s t : State} (h : t.recipes = s.recipes) (hp : t.products = s.products)
    (code : Nat) : t.recipeClass code = s.recipeClass code := by
  simp only [State.recipeClass, recipeProduct_congr h hp]

theorem BayKept.reserved {s t : State} (k : BayKept w s t) (h : ReservedSound s) : ReservedSound t :=
  h.congr k.plan k.accounts k.payer fun _ _ => recipeClass_congr k.recipes k.products _

theorem AccountsSound.congr {s t : State} (h : AccountsSound s) (ha : t.accounts = s.accounts) :
    AccountsSound t := by simpa only [AccountsSound, ha] using h

theorem BayKept.refl (s : State) : BayKept w s s :=
  ⟨.inr (.inl rfl), rfl, rfl, .inr rfl, rfl, rfl, fun _ => .refl _, fun h => (injectorsSound_iff.mp h).1⟩

theorem BayKept.trans {s t u : State} (a : BayKept w s t) (b : BayKept w t u) : BayKept w s u where
  state := by
    have hm := meterRun_congr fun n => (a.arms n).run
    obtain h | h | h := b.state
    · exact .inl h
    · rw [h]; exact a.state
    · exact .inr (.inr (hm ▸ h))
  plan := b.plan.trans a.plan
  accounts := b.accounts.trans a.accounts
  payer := by
    obtain h | h := a.payer
    · exact .inl h
    · rw [← a.plan, ← h]; exact b.payer
  recipes := b.recipes.trans a.recipes
  products := b.products.trans a.products
  arms n := (a.arms n).trans (b.arms n)
  shots h := b.shots (a.injectors h)

/-- A change that leaves the injectors alone. -/
theorem BayKept.of_arms {s t : State} (hl : t.load.state = s.load.state) (hp : t.plan = s.plan)
    (hb : t.accounts = s.accounts) (hpay : t.payer = s.payer) (hr : t.recipes = s.recipes) (hq : t.products = s.products) (hi : t.injectors = s.injectors)
    (ha : ∀ n, ArmKept w n (s.arm n) (t.arm n)) : BayKept w s t := by
  refine ⟨.inr (.inl hl), hp, hb, .inr hpay, hr, hq, ha, fun h i => ?_⟩
  have e : t.injector i = s.injector i := by simp only [State.injector, hi]
  rw [e]
  exact ((injectorsSound_iff.mp h).1 i).uses fun r _ => (ha r.arm).uses i

theorem BayKept.same {s t : State} (hl : t.load = s.load) (hb : t.accounts = s.accounts) (hr : t.recipes = s.recipes)
    (hq : t.products = s.products) (hi : t.injectors = s.injectors) (ha : t.arms = s.arms) :
    BayKept w s t :=
  .of_arms (by rw [hl]) (by simp only [State.plan, hl]) hb (by simp only [State.payer, hl]) hr hq hi
    fun n => by simp only [State.arm, ha]; exact .refl _

theorem Quiet.bayKept {s t : State} (q : Quiet s t) : BayKept w s t :=
  .of_arms q.state q.plan q.accounts (by simp only [State.payer, q.record]) q.recipes q.products q.injectors fun n => by rw [q.arm]; exact .refl _

theorem BayKept.post {s t : State} (h : BayKept w s t) (k : EventKind) (a c v : Nat) :
    BayKept w s (Machine.post k a c v t) := h.trans (post_quiet k a c v t).bayKept

theorem BayKept.updArm {s t : State} (h : BayKept w s t) {n : ArmId} {f : Arm → Arm}
    (hf : ArmKept w n (t.arm n) (f (t.arm n))) : BayKept w s (t.updArm n f) := by
  refine h.trans (.of_arms rfl rfl rfl rfl rfl rfl rfl fun k => ?_)
  rw [arm_updArm]
  split
  · next hk => subst hk; exact hf
  · exact .refl _

theorem BayKept.setInjector {s t : State} (h : BayKept w s t) {i : InjId} {j : Injector}
    (hj : InjectorsSound t → InjectorOk t i j) : BayKept w s (t.setInjector i j) := by
  refine h.trans ⟨.inr (.inl rfl), rfl, rfl, .inr rfl, rfl, rfl, fun _ => .refl _, fun ht k => ?_⟩
  by_cases hk : k = i
  · subst hk; rw [injector_setInjector_same]; exact hj ht
  · rw [injector_setInjector_of_ne _ _ hk]
    exact (injectorsSound_iff.mp ht).1 k

theorem InjectorsSound.ok {s : State} (h : InjectorsSound s) (i : InjId) :
    InjectorOk s i (s.injector i) := (injectorsSound_iff.mp h).1 i

theorem BayKept.idleInjector {s t : State} (h : BayKept w s t) (i : InjId) {j : Injector}
    (hc : j.config = (t.injector i).config) (hs : j.state = .idle) :
    BayKept w s (t.setInjector i j) := h.setInjector fun hi => (hi.ok i).idle hc hs

theorem BayKept.forArms {s t : State} {f : ArmId → State → State} (h : BayKept w s t)
    (hf : ∀ n u, BayKept w u (f n u)) : BayKept w s (Machine.forArms f t) :=
  forArms_invariant (BayKept w s) f (fun n _ hu => hu.trans (hf n _)) h

/-- What an operation does to each arm in its turn, and what the others' turns leave, holds after all
four. -/
theorem forArms_each {R : State → Prop} {Q : ArmId → State → Prop} {f : ArmId → State → State}
    (hR : ∀ n u, R u → R (f n u)) (hQ : ∀ n u, R u → Q n (f n u))
    (keep : ∀ n k u, Q n u → Q n (f k u)) {s : State} (h : R s) (n : ArmId) :
    Q n (forArms f s) := by
  have e : forArms f s = f 3 (f 2 (f 1 (f 0 s))) := rfl
  have h0 := hR 0 s h
  have h1 := hR 1 _ h0
  have h2 := hR 2 _ h1
  rw [e]
  fin_cases n
  · exact keep _ _ _ (keep _ _ _ (keep _ _ _ (hQ 0 s h)))
  · exact keep _ _ _ (keep _ _ _ (hQ 1 _ h0))
  · exact keep _ _ _ (hQ 2 _ h1)
  · exact hQ 3 _ h2

theorem BayKept.forInjectors {s t : State} {f : InjId → State → State} (h : BayKept w s t)
    (hf : ∀ i u, BayKept w u (f i u)) : BayKept w s (Machine.forInjectors f t) :=
  forInjectors_invariant (BayKept w s) f (fun i _ hu => hu.trans (hf i _)) h

/-! ### The arbiter -/

theorem waits_uses {s : State} {i : InjId} {n : ArmId} (h : waits s i n = true) :
    (s.arm n).uses i = true ∧ ∀ c, (s.injector i).config = some c → c.reaches n = true := by
  simp only [waits, Bool.and_eq_true] at h
  obtain ⟨⟨⟨⟨hr, -⟩, hb⟩, ha⟩, -⟩ := h
  refine ⟨?_, fun c hc => by rw [hc] at hr; exact hr⟩
  simp only [Arm.uses, hb, Bool.true_and, List.any_eq_true, Bool.and_eq_true] at ha ⊢
  obtain ⟨c, hc, he, -⟩ := ha
  exact ⟨c, hc, he⟩

/-- The arbiter chooses an arm that waits (R145, R146). -/
theorem chooseArm_waits {s : State} {i : InjId} {c : InjectorConfig} {n : ArmId}
    (h : chooseArm s i c = some n) : waits s i n = true := by
  unfold chooseArm at h
  dsimp only at h
  split at h
  · split at h
    · next hw => cases h; exact hw
    · cases h
  · next b hb =>
    split at h
    · next hw =>
      simp only [Bool.and_eq_true] at hw
      cases h
      unfold chooseBoth
      dsimp only
      split
      · split
        · exact hw.2
        · exact hw.1
      · split
        · exact hw.2
        · exact hw.1
      · split
        · exact hw.2
        · exact hw.1
    · split at h
      · next hw => cases h; exact hw
      · split at h
        · next hw => cases h; exact hw
        · cases h

theorem startShot_bayKept {s : State} {i : InjId} {c : InjectorConfig} {n : ArmId}
    (hc : (s.injector i).config = some c) (hw : waits s i n = true) :
    BayKept w s (startShot i c n s) := by
  obtain ⟨hu, hr⟩ := waits_uses hw
  have hk := Arm.updComponents_kept (w := w) (n := n) i (fun k => { k with owed := k.owed - 1 })
    (fun _ => rfl) (s.arm n)
  refine ((BayKept.refl s).updArm hk).setInjector fun ht => ?_
  have ho := ht.ok i
  refine ⟨fun hn => ?_, ho.2.1, fun c' r hc' hs => ?_⟩
  · have : (s.injector i).config = none := hn
    rw [hc] at this; cases this
  · have hcc : (s.injector i).config = some c' := hc'
    rw [hc, Option.some.injEq] at hcc
    subst hcc
    cases hs
    refine ⟨hr c hc, ?_, rfl, rfl, rfl⟩
    rw [arm_updArm_same, hk.uses]; exact hu

theorem BayKept.offer {s t : State} (h : BayKept w s t) (i : InjId) :
    BayKept w s (Machine.offer i t) := by
  refine h.trans ?_
  unfold Machine.offer
  split
  · next hc hs =>
    split
    · next hn => exact startShot_bayKept hc (chooseArm_waits hn)
    · exact .refl t
  · exact .refl t

theorem BayKept.offerAll {s t : State} (h : BayKept w s t) : BayKept w s (Machine.offerAll t) :=
  h.forInjectors fun i u => (BayKept.refl u).offer i

/-! ### Holds, closing and losses -/

theorem BayKept.enterHeld {s t : State} (h : BayKept w s t) (k : HoldCause) (n : ArmId) :
    BayKept w s (Machine.enterHeld k n t) := by
  obtain ⟨hf, e⟩ | ⟨-, e⟩ := enterHeld_cases k n t <;> rw [e]
  · exact (h.updArm (Arm.holdFor_kept (ArmState.beyond_of_flowing hf) k)).post ..
  · exact h

/-- An arm beyond ARMED enters CLOSING. -/
theorem BayKept.enterClosing {s t : State} (h : BayKept w s t) (o : BatchOutcome) {n : ArmId}
    (hn : (t.arm n).control.state.stage = 2) : BayKept w s (Machine.enterClosing o n t) := by
  have hk : BayKept w s (t.updArm n (Arm.closeFor o)) := h.updArm (Arm.closeFor_kept hn o)
  unfold Machine.enterClosing additivesClosing
  split
  · exact hk
  · split
    · refine (hk.updArm (.of rfl rfl rfl ?_ id rfl rfl rfl rfl)).offerAll
      exact map_injector (fun c => by unfold Component.trail; split <;> rfl) _
    · refine (hk.updArm (.of rfl rfl rfl ?_ id rfl rfl rfl rfl)).offerAll
      exact map_injector (fun c => by unfold Component.trail; split <;> rfl) _
    · exact hk.updArm (.of rfl rfl rfl (map_injector (f := Component.discard) (fun _ => rfl) _) id rfl rfl
        rfl rfl)

theorem stage_of_flowing_or_held {a : Arm}
    (h : (a.flowing || decide (a.control.state = .held)) = true) : a.control.state.stage = 2 := by
  simp only [Bool.or_eq_true, decide_eq_true_eq] at h
  obtain h | h := h
  · exact ArmState.beyond_of_flowing h
  · rw [h]; rfl

theorem BayKept.stopArmNow {s t : State} (h : BayKept w s t) (n : ArmId) :
    BayKept w s (Machine.stopArmNow n t) := by
  unfold Machine.stopArmNow
  split
  · next hn => exact h.enterClosing _ (stage_of_flowing_or_held hn)
  · exact h

theorem BayKept.losePermissive {s t : State} (h : BayKept w s t) (n : ArmId) :
    BayKept w s (Machine.losePermissive n t) := by
  unfold Machine.losePermissive
  split
  · exact (h.updArm (f := fun a => { a with control.permissiveHold := true })
      (.of rfl rfl rfl rfl id rfl rfl rfl rfl)).enterHeld ..
  · exact h

theorem BayKept.loseCoupler {s t : State} (h : BayKept w s t) (n : ArmId) :
    BayKept w s (Machine.loseCoupler n t) := by
  unfold Machine.loseCoupler
  split
  · exact (h.updArm (f := fun a => { a with control.couplerLost := true })
      (.of rfl rfl rfl rfl id rfl rfl rfl rfl)).enterHeld ..
  · exact h

theorem BayKept.rackStopArm {s t : State} (h : BayKept w s t) (n : ArmId) :
    BayKept w s (Machine.rackStopArm n t) := by
  unfold Machine.rackStopArm
  split
  · next hn => exact h.enterClosing _ (stage_of_flowing_or_held hn)
  · split
    · refine h.updArm (.of rfl rfl rfl ?_ id rfl rfl rfl rfl)
      dsimp only
      split
      · rfl
      · exact map_injector (f := Component.discard) (fun _ => rfl) _
    · exact h

theorem BayKept.rackStopHandOver {s t : State} (h : BayKept w s t) (lost : Bool) (n : ArmId) :
    BayKept w s (Machine.rackStopHandOver lost n t) := by
  have hc : BayKept w s t.chosen := h.trans (.same rfl rfl rfl rfl rfl rfl)
  unfold Machine.rackStopHandOver
  split
  · split
    · exact (hc.losePermissive n).rackStopArm n
    · exact (hc.rackStopArm n).losePermissive n
  · exact h.rackStopArm n

theorem BayKept.recomputed {s t : State} (h : BayKept w s t) : BayKept w s (Machine.recomputed t) :=
  h.trans (by rw [recomputed_rest]; exact .same rfl rfl rfl rfl rfl rfl)

theorem BayKept.recomputePermissive {s t : State} (h : BayKept w s t) :
    BayKept w s (Machine.recomputePermissive t) := by
  simp only [Machine.recomputePermissive]
  split
  · exact h.recomputed
  · split
    · exact h.recomputed.offerAll
    · exact h.recomputed.forArms fun n u => (BayKept.refl u).losePermissive n

theorem BayKept.planMayHaveEmptied {s t : State} (h : BayKept w s t) :
    BayKept w s (Machine.planMayHaveEmptied t) := by
  obtain ⟨-, e⟩ | ⟨-, e⟩ := planMayHaveEmptied_cases t <;> rw [e]
  · exact h.trans (.of_arms rfl rfl rfl rfl rfl rfl rfl fun _ => .refl _)
  · exact h

/-! ### Shots, faults and pulses -/

theorem BayKept.creditShot {s t : State} (h : BayKept w s t) (i : InjId) (n : ArmId) (ml : Nat) :
    BayKept w s (Machine.creditShot i n ml t) :=
  h.updArm (Arm.updComponents_kept i _ (by intro; rfl) _)

theorem BayKept.faultInjector {s t : State} (h : BayKept w s t) (i : InjId) {c : InjectorConfig}
    (hc : (t.injector i).config = some c) (n : ArmId) (ml : Nat) :
    BayKept w s (Machine.faultInjector i c n ml t) := by
  have hf : BayKept w s (t.setInjector i { t.injector i with state := .faulted }) :=
    h.setInjector fun ht => (ht.ok i).of_no_shot rfl nofun fun hn => by rw [hc] at hn; cases hn
  have hm : ∀ n u, BayKept w u (mandatoryFault i n u) := fun n u => by
    unfold mandatoryFault
    split
    · exact ((BayKept.refl u).updArm
        (Arm.updComponents_kept i _ (by intro; rfl) _)).enterHeld ..
    · exact .refl u
  have ho : ∀ n u, BayKept w u (optionalFault i n u) := fun n u => by
    unfold optionalFault
    split
    · exact (BayKept.refl u).updArm (Arm.updComponents_kept i _ (by intro; rfl) _)
    · exact .refl u
  simp only [Machine.faultInjector]
  split
  · exact (hf.post ..).forArms hm
  · exact (hf.post ..).forArms ho

/-- The end of a shot in flight. -/
theorem endShot_bayKept {s : State} {i : InjId} {c : InjectorConfig} (r : Shot)
    (hc : (s.injector i).config = some c) :
    BayKept w s (endShot i c r s) := by
  have hb : ∀ bad, BayKept w s (s.setInjector i { s.injector i with badCount := bad }) := fun bad =>
    (BayKept.refl s).setInjector fun ht => ht.ok i
  have hcfg : ∀ bad ml, ((creditShot i r.arm ml (s.setInjector i
      { s.injector i with badCount := bad })).injector i).config = some c := fun bad ml => by
    simp [creditShot, hc]
  simp only [endShot]
  generalize (if shotGood c r.pulses = true then 0 else (s.injector i).badCount + 1) = bad
  split
  · exact ((hb bad).creditShot ..).faultInjector i (hcfg ..) ..
  · refine (((hb bad).creditShot ..).idleInjector i ?_ ?_).offer i <;> rfl

theorem endProveShot_bayKept {s : State} {i : InjId} {p : ProvingRecord}
    (hp : (s.injector i).state = .proving p) (c : InjectorConfig) (r : ProveShot)
    (mark : ProveEnd) : BayKept w s (endProveShot i c p r mark s) := by
  refine ((BayKept.refl s).setInjector fun ht => ?_).post ..
  exact (ht.ok i).of_no_shot rfl nofun fun hn => by
    have := (ht.ok i).1 hn; rw [hp] at this; cases this

/-- A proving injector that stays proving. -/
theorem proving_bayKept {s : State} {i : InjId} {p : ProvingRecord}
    (hp : (s.injector i).state = .proving p) (q : ProvingRecord) :
    BayKept w s (s.setInjector i { s.injector i with state := .proving q }) :=
  (BayKept.refl s).setInjector fun ht => (ht.ok i).of_no_shot rfl nofun fun hn => by
    have := (ht.ok i).1 hn; rw [hp] at this; cases this

theorem rackStopInjector_bayKept (i : InjId) (s : State) : BayKept w s (rackStopInjector i s) := by
  unfold rackStopInjector
  split
  · split
    · refine (((BayKept.refl s).creditShot ..).idleInjector i ?_ ?_).offer i <;> rfl
    · exact .refl s
  · next hp =>
    split
    · exact endProveShot_bayKept hp ..
    · exact .refl s
  · exact .refl s

theorem creepFound_bayKept (i : InjId) (c : InjectorConfig) (count : Nat) (s : State) :
    BayKept w s (creepFound i c count s) := by
  have hset : ∀ (t : State), BayKept w s t →
      BayKept w s (t.setInjector i { t.injector i with creep := 0 }) := fun t h =>
    h.setInjector fun ht => ht.ok i
  simp only [creepFound]
  split
  · exact hset _ (((BayKept.refl s).updArm (Arm.updComponents_kept i _ (by intro; rfl) _)).post ..)
  · exact hset _ ((BayKept.refl s).post ..)

theorem Shot.pulse_arm (r : Shot) : r.pulse.arm = r.arm ∧ r.pulse.target = r.target := by
  unfold Shot.pulse
  dsimp only
  split <;> exact ⟨rfl, rfl⟩

theorem takePulse_bayKept (i : InjId) (s : State) : BayKept w s (takePulse i s) := by
  unfold takePulse
  split
  · simp only [idlePulse]
    split
    · exact .refl s
    · split
      · exact creepFound_bayKept ..
      · exact (BayKept.refl s).setInjector fun ht => ht.ok i
  · next r _ hs =>
    exact (BayKept.refl s).setInjector fun ht => (ht.ok i).shot hs r.pulse_arm.1 r.pulse_arm.2
  · next hp => exact proving_bayKept hp _
  · exact .refl s
  · exact .refl s

theorem shotTimeOut_bayKept (i : InjId) (s : State) : BayKept w s (shotTimeOut i s) := by
  unfold shotTimeOut
  split
  · next r hs =>
    split
    · exact (BayKept.refl s).setInjector fun ht => (ht.ok i).shot hs rfl rfl
    · exact .refl s
  · next hp =>
    split
    · split
      · exact proving_bayKept hp _
      · exact .refl s
    · exact .refl s
  · exact .refl s

theorem tailTimeOut_bayKept (i : InjId) (s : State) : BayKept w s (tailTimeOut i s) := by
  unfold tailTimeOut
  split
  · next hc hs =>
    split
    · exact endShot_bayKept _ hc
    · exact .refl s
  · exact .refl s

theorem proveTailTimeOut_bayKept (i : InjId) (s : State) : BayKept w s (proveTailTimeOut i s) := by
  unfold proveTailTimeOut
  split
  · next hp =>
    split
    · split
      · exact endProveShot_bayKept hp ..
      · exact .refl s
    · exact .refl s
  · exact .refl s

end Sys2Proof.Machine
end

section
/-! SUPPORT. What samples, plans, cancellations and start-ups do to the binding of arms, plan entries and
injectors. -/

namespace Sys2Proof.Machine

variable {w : Scope}

/-! ### A step of the bay -/

/-- From `s` to `t` arms and plan entries stay bound one to one, the injectors sound, and the reserved
litres those of the plan. -/
def Bound (s t : State) : Prop :=
  PlanSound t ∧ (InjectorsSound s → InjectorsSound t) ∧ (ReservedSound s → ReservedSound t)

theorem Bound.trans {s t u : State} (a : Bound s t) (b : Bound t u) : Bound s u :=
  ⟨b.1, fun h => b.2.1 (a.2.1 h), fun h => b.2.2 (a.2.2 h)⟩

/-- From `s` to `t` the accounts stay sound, and so does the binding of a sound plan. -/
structure BayStep (w : Scope) (s t : State) : Prop where
  accounts : AccountsSound s → AccountsSound t
  fit : ∀ n, ArmFit w n (s.arm n) (t.arm n)
  bound : PlanSound s → Bound s t

theorem BayStep.refl (s : State) : BayStep w s s := ⟨id, fun _ => .refl _, fun h => ⟨h, id, id⟩⟩

theorem BayStep.trans {s t u : State} (a : BayStep w s t) (b : BayStep w t u) : BayStep w s u :=
  ⟨fun h => b.accounts (a.accounts h), fun n => (a.fit n).trans (b.fit n), fun h => (a.bound h).trans (b.bound (a.bound h).1)⟩

theorem BayKept.bound {s t : State} (k : BayKept w s t) (h : PlanSound s) : Bound s t :=
  ⟨k.planSound h, k.injectors, k.reserved⟩

theorem BayKept.step {s t : State} (k : BayKept w s t) : BayStep w s t :=
  ⟨fun h => h.congr k.accounts, fun n => (k.arms n).fit, k.bound⟩

/-! ### One class of one account (R38, R44 to R46) -/

theorem updAllocation_number (s : State) (number : Nat) (c : ClassId) (f : Allocation → Allocation) :
    (s.updAllocation number c f).accounts.map (·.number) = s.accounts.map (·.number) := by
  simp only [State.updAllocation, List.map_map]
  refine List.map_congr_left fun a _ => ?_
  simp only [Function.comp_apply]
  split <;> rfl

/-- A change of a class that keeps what is reserved covered. -/
theorem AccountsSound.updAllocation {s : State} (h : AccountsSound s) {number : Nat} {c : ClassId}
    {f : Allocation → Allocation}
    (hf : ∀ a ∈ s.accounts, a.number = number → (f (a.classes.get c)).sound) :
    AccountsSound (s.updAllocation number c f) := by
  obtain ⟨hn, hs⟩ := h
  refine ⟨by rw [updAllocation_number]; exact hn, fun a ha d => ?_⟩
  simp only [State.updAllocation, List.mem_map] at ha
  obtain ⟨b, hb, rfl⟩ := ha
  split
  · next he =>
    by_cases hd : d = c
    · subst hd; rw [Bank8.get_set_same]; exact hf b hb he
    · rw [Bank8.get_set_of_ne _ _ hd]; exact hs b hb d
  · exact hs b hb d

/-- A class that does not cover fewer litres once some are released (R45). -/
theorem Allocation.sound_released {a : Allocation} (h : a.sound) (r : Nat) :
    Allocation.sound { a with reserved := a.reserved - r } := by
  unfold Allocation.sound at *
  split at h <;> simp_all
  omega

/-- The charge leaves the new reserved total covered (R46). -/
theorem Allocation.sound_charged {a : Allocation} (h : a.sound) (r used : Nat) :
    (a.charged r used).sound := by
  unfold Allocation.sound Allocation.charged chargeOf at *
  cases hr : a.remaining with
  | unlimited => simp
  | litres n => simp only [hr] at h ⊢; omega

theorem account_isSome {s : State} {n : Nat} :
    (s.account n).isSome = true ↔ n ∈ s.accounts.map (·.number) := by
  simp only [State.account, List.find?_isSome, List.mem_map, beq_iff_eq]

theorem filter_arm_eq {l : List PlanEntry} (h : (l.map (·.arm)).Nodup) {e : PlanEntry} (he : e ∈ l) :
    l.filter (fun x => !decide (x.arm ≠ e.arm)) = [e] := by
  induction l with
  | nil => cases he
  | cons x l ih =>
    simp only [List.map_cons, List.nodup_cons, List.mem_map, not_exists, not_and] at h
    obtain ⟨hx, hl⟩ := h
    obtain rfl | he := List.mem_cons.mp he
    · have : l.filter (fun x => !decide (x.arm ≠ e.arm)) = [] :=
        List.filter_eq_nil_iff.mpr fun y hy => by simpa using hx y hy
      rw [List.filter_cons_of_pos (by simp), this]
    · rw [List.filter_cons_of_neg (by simpa using fun hne => hx e he hne.symm), ih hl he]

/-- An entry leaves the plan, and its reservation the class that it is charged to (R45, R46). -/
theorem ReservedSound.entry_gone {s t : State} (h : ReservedSound s)
    (hn : (s.plan.map (·.arm)).Nodup) {e : PlanEntry} (he : e ∈ s.plan)
    {f : Allocation → Allocation} (hf : ∀ a, (f a).reserved = a.reserved - e.reservation)
    {p : Nat} {c : ClassId} (hp : s.payer = some p) (hc : s.recipeClass e.recipe = some c)
    (ha : t.accounts = (s.updAllocation p c f).accounts) (hpay : t.payer = s.payer)
    (hplan : t.plan = s.plan.filter (·.arm ≠ e.arm))
    (hcl : ∀ r, t.recipeClass r = s.recipeClass r) : ReservedSound t := by
  rw [reservedSound_iff] at h ⊢
  obtain ⟨h1, h2⟩ := h
  have hsplit : ∀ d, s.reservedBy t.plan d
      + (if s.recipeClass e.recipe = some d then e.reservation else 0) = s.reservedBy s.plan d := by
    intro d
    rw [hplan, ← State.reservedBy_filter s (fun x => decide (x.arm ≠ e.arm)) s.plan d,
      filter_arm_eq hn he, State.reservedBy_cons, State.reservedBy_nil, Nat.add_zero]
  refine ⟨fun a hm d => ?_, fun hne => ?_⟩
  · rw [ha] at hm
    simp only [State.updAllocation, List.mem_map] at hm
    obtain ⟨b, hb, rfl⟩ := hm
    have hbd := h1 b hb d
    have hd := hsplit d
    simp only [State.reservedFor, hpay, hp, Option.some.injEq, reservedBy_congr fun x _ => hcl x.recipe]
      at hbd ⊢
    by_cases hbp : b.number = p
    · rw [if_pos hbp, if_pos hbp.symm]
      rw [if_pos hbp.symm] at hbd
      by_cases hdc : d = c
      · subst hdc
        rw [if_pos hc] at hd
        rw [Bank8.get_set_same, hf, hbd, ← hd]; omega
      · rw [hc, if_neg (by simpa using Ne.symm hdc)] at hd
        rw [Bank8.get_set_of_ne _ _ hdc, hbd, ← hd]; rfl
    · rw [if_neg hbp, if_neg (Ne.symm hbp)]
      rw [if_neg (Ne.symm hbp)] at hbd
      exact hbd
  · obtain ⟨n, hn, hs⟩ := h2 fun hs => hne (by rw [hplan, hs]; rfl)
    refine ⟨n, hpay.trans hn, ?_⟩
    rw [account_isSome] at hs ⊢
    rw [ha, updAllocation_number]; exact hs

/-- An arm that is not IDLE and in no meter run has its entry. -/
theorem PlanSound.planned {s : State} (h : PlanSound s) {n : ArmId}
    (hs : (s.arm n).control.state ≠ .idle) (hr : (s.arm n).inRun = false) :
    ∃ e ∈ s.plan, e.arm = n ∧ s.entryOf n = some e := by
  obtain ⟨ha, -, hidle, -, -⟩ := h
  by_contra hno
  refine hs ((hidle n).mpr ⟨hr, fun e he hn => hno ⟨e, he, hn, ?_⟩⟩)
  rw [← hn]; exact entryOf_mem ha he

/-- An arm in a meter run has no entry. -/
theorem PlanSound.run_unplanned {s : State} (h : PlanSound s) {n : ArmId}
    (hr : (s.arm n).inRun = true) : ∀ e ∈ s.plan, e.arm ≠ n := by
  rintro e he rfl
  obtain ⟨-, -, -, hent, -⟩ := h
  rw [(hent e he).1] at hr; cases hr

theorem entryOf_spec {s : State} {n : ArmId} {e : PlanEntry} (h : s.entryOf n = some e) :
    e ∈ s.plan ∧ e.arm = n :=
  ⟨List.mem_of_find?_eq_some h, by simpa using List.find?_some h⟩

theorem PlanSound.no_run {s : State} (h : PlanSound s) (hs : s.load.state ≠ .noLoad) :
    s.meterRun = false := by
  obtain ⟨-, -, -, -, hrun⟩ := h
  by_contra hm
  exact hs (hrun (by simpa using hm))

theorem Arm.uses_beyond {a : Arm} {i : InjId} (h : a.uses i = true) :
    a.control.state.stage = 2 ∧ a.inRun = false ∧ ∃ c ∈ a.components, c.injector = i := by
  simp only [Arm.uses, Arm.inBatch, Bool.and_eq_true, Bool.not_eq_true', List.any_eq_true,
    beq_iff_eq] at h
  obtain ⟨⟨hb, hr⟩, hc⟩ := h
  exact ⟨ArmState.stage_beyond.mpr hb, hr, hc⟩

/-! ### An arm leaves the plan -/

/-- From `s` to `t` an arm becomes IDLE and its entry, if it has one, leaves the plan. -/
structure Unplanned (w : Scope) (n : ArmId) (s t : State) : Prop where
  state : t.load.state = s.load.state
  plan : t.plan = s.plan.filter (·.arm ≠ n)
  recipes : t.recipes = s.recipes
  products : t.products = s.products
  injectors : t.injectors = s.injectors
  reserved : PlanSound s → ReservedSound s → ReservedSound t
  idle : (t.arm n).control.state = .idle
  run : (t.arm n).inRun = false
  others : ∀ k, k ≠ n → ArmKept w k (s.arm k) (t.arm k)

theorem Unplanned.planSound {n : ArmId} {s t : State} (k : Unplanned w n s t) (h : PlanSound s) :
    PlanSound t := by
  obtain ⟨ha, hc, hidle, hent, hrun⟩ := h
  have hsub : t.plan.Sublist s.plan := by rw [k.plan]; exact List.filter_sublist
  refine ⟨ha.sublist (hsub.map _), hc.sublist (hsub.map _), fun m => ?_, fun e he => ?_, ?_⟩
  · by_cases hm : m = n
    · subst hm
      simp [k.idle, k.run, k.plan]
    · rw [(k.others m hm).idle, (k.others m hm).run, k.plan, hidle m]
      refine and_congr_right fun _ => ⟨fun h e he => h e (List.mem_of_mem_filter he), fun h e he => ?_⟩
      by_cases hn : e.arm = n
      · rw [hn]; exact Ne.symm hm
      · exact h e (List.mem_filter.mpr ⟨he, by simpa using hn⟩)
  · rw [k.plan, List.mem_filter] at he
    obtain ⟨he, hn⟩ := he
    have hk := k.others e.arm (by simpa using hn)
    obtain ⟨h1, h2, h3⟩ := hent e he
    exact ⟨hk.run.trans h1, h2.kept hk,
      by rw [recipeProduct_congr k.recipes k.products]; exact h3⟩
  · rw [k.state]
    intro hm
    obtain ⟨m, hm⟩ := meterRun_iff.mp hm
    refine hrun (meterRun_iff.mpr ⟨m, ?_⟩)
    by_cases hn : m = n
    · rw [hn, k.run] at hm; cases hm
    · rw [← (k.others m hn).run]; exact hm

theorem Unplanned.injectorsSound {n : ArmId} {s t : State} (k : Unplanned w n s t)
    (hq : ∀ i r, (s.injector i).state = .shot r → (s.arm n).uses i = true → r.arm ≠ n)
    (h : InjectorsSound s) : InjectorsSound t := by
  obtain ⟨hs, he⟩ := injectorsSound_iff.mp h
  have hi : ∀ i, t.injector i = s.injector i := fun i => by simp only [State.injector, k.injectors]
  refine injectorsSound_iff.mpr ⟨fun i => ?_, fun e hp => ?_⟩
  · rw [hi]
    obtain ⟨h1, h2, h3⟩ := hs i
    refine ⟨h1, h2, fun c r hc hr => ?_⟩
    obtain ⟨hreach, hu, hd⟩ := h3 c r hc hr
    have hn : r.arm ≠ n := fun e => hq i r hr (by rw [← e]; exact hu) e
    exact ⟨hreach, by rw [(k.others _ hn).uses]; exact hu, hd⟩
  · rw [k.plan, List.mem_filter] at hp
    exact (he e hp.1).kept (k.others _ (by simpa using hp.2)) (recipe_congr k.recipes _)

theorem Unplanned.bound {n : ArmId} {s t : State} (k : Unplanned w n s t) (h : PlanSound s)
    (hq : ∀ i r, (s.injector i).state = .shot r → (s.arm n).uses i = true → r.arm ≠ n) :
    Bound s t := ⟨k.planSound h, k.injectorsSound hq, k.reserved h⟩

/-- An arm with no batch has no shot in flight. -/
theorem Unplanned.quiet_bound {n : ArmId} {s t : State} (k : Unplanned w n s t) (h : PlanSound s)
    (hq : (s.arm n).inBatch = false) : Bound s t :=
  k.bound h fun i _ _ hu => by simp [Arm.uses, hq] at hu

theorem filter_arm_of_none {l : List PlanEntry} {n : ArmId} (h : ∀ e ∈ l, e.arm ≠ n) :
    l.filter (·.arm ≠ n) = l := List.filter_eq_self.mpr fun e he => by simpa using h e he

theorem Arm.toIdle_fit {n : ArmId} (a : Arm) : ArmFit w n a a.toIdle :=
  ⟨fun _ => safe_of_rest rfl ⟨rfl, rfl, rfl⟩ nofun, fun h => h.mono rfl rfl nofun, fun _ => id⟩

/-- An arm that no operation but its own return to IDLE has reached. -/
theorem armFit_of {n k : ArmId} {s t : State} (ho : n ≠ k → t.arm n = s.arm n)
    (hk : ArmFit w k (s.arm k) (t.arm k)) : ArmFit w n (s.arm n) (t.arm n) := by
  by_cases h : n = k
  · subst h; exact hk
  · rw [ho h]; exact .refl _

/-- An arm without an entry returns to IDLE. -/
theorem toIdle_unplanned {s : State} {n : ArmId} (h : ∀ e ∈ s.plan, e.arm ≠ n) :
    Unplanned w n s (s.updArm n Arm.toIdle) where
  state := rfl
  plan := (filter_arm_of_none h).symm
  recipes := rfl
  products := rfl
  injectors := rfl
  reserved _ h' := h'.congr rfl rfl (.inr rfl) fun _ _ => rfl
  idle := by rw [arm_updArm_same]; rfl
  run := by rw [arm_updArm_same]; rfl
  others k hk := by rw [arm_updArm_of_ne _ _ hk]; exact .refl _

theorem PlanSound.entry_class {s : State} (h : PlanSound s) {e : PlanEntry} (he : e ∈ s.plan) :
    ∃ c, s.recipeClass e.recipe = some c := by
  obtain ⟨-, -, -, hent, -⟩ := h
  obtain ⟨-, -, hp⟩ := hent e he
  obtain ⟨p, hp⟩ := Option.isSome_iff_exists.mp hp
  exact ⟨p.productClass, by rw [State.recipeClass, hp]; rfl⟩

theorem record_of_entry {s : State} {e : PlanEntry} (he : e ∈ s.plan) :
    ∃ r, s.load.record = some r := by
  cases hr : s.load.record with
  | none => simp [State.plan, hr] at he
  | some r => exact ⟨r, rfl⟩

/-- The cancellation of an ARMED entry. -/
theorem cancelArmed_unplanned {s : State} {n : ArmId} {e : PlanEntry} (he : s.entryOf n = some e)
    (hs : e.state = .armed) : Unplanned w n s (cancelArmed n s) := by
  have hc : cancelArmed n s
      = ((releaseEntry e s).updRecord (OpenLoad.withoutArm n)).updArm n Arm.toIdle := by
    unfold cancelArmed; rw [he]; dsimp only; rw [if_pos hs]
  rw [hc, releaseEntry_frame]
  have hplan : ((({ s with accounts := (releaseEntry e s).accounts } : State).updRecord
      (OpenLoad.withoutArm n)).updArm n Arm.toIdle).plan = s.plan.filter (·.arm ≠ n) := by
    simp only [State.plan, updArm_load, State.updRecord]
    cases s.load.record <;> rfl
  refine ⟨rfl, hplan, rfl, rfl, rfl, fun h hr => ?_, by rw [arm_updArm_same]; rfl,
    by rw [arm_updArm_same]; rfl, fun k hk => by rw [arm_updArm_of_ne _ _ hk]; exact .refl _⟩
  obtain ⟨hm, hn⟩ := entryOf_spec he
  obtain ⟨c, hcl⟩ := h.entry_class hm
  obtain ⟨r, hrec⟩ := record_of_entry hm
  have hnod : (s.plan.map (·.arm)).Nodup := h.1
  refine hr.entry_gone (f := fun a => { a with reserved := a.reserved - e.reservation }) hnod hm
    (fun _ => rfl) (p := r.account) (by rw [State.payer, hrec]; rfl) hcl ?_ ?_ ?_ fun _ => rfl
  · simp only [releaseEntry, hrec, hcl]; rfl
  · simp only [State.payer, updArm_load, State.updRecord]; cases s.load.record <;> rfl
  · rw [hplan, hn]

theorem cancelArmed_accounts {n : ArmId} {s : State} (h : AccountsSound s) :
    AccountsSound (cancelArmed n s) := by
  unfold cancelArmed
  split
  · split
    · refine AccountsSound.congr (s := releaseEntry _ s) ?_ rfl
      unfold releaseEntry
      split
      · exact h.updAllocation fun a ha _ => Allocation.sound_released (h.2 a ha _) _
      · exact h
    · exact h
  · exact h

theorem cancelArmed_fit (n : ArmId) (s : State) (k : ArmId) :
    ArmFit w k (s.arm k) ((cancelArmed n s).arm k) := by
  refine armFit_of (fun h => (cancelArmed_frame n s).2 k h) ?_
  unfold cancelArmed
  split
  · split
    · rw [arm_updArm_same, updRecord_arm, releaseEntry_frame]; exact Arm.toIdle_fit _
    · exact .refl _
  · exact .refl _

theorem cancelArmed_step (n : ArmId) (s : State) : BayStep w s (cancelArmed n s) := by
  refine ⟨cancelArmed_accounts, cancelArmed_fit n s, ?_⟩
  cases he : s.entryOf n with
  | none => unfold cancelArmed; rw [he]; exact (BayStep.refl (w := w) s).bound
  | some e =>
    by_cases hs : e.state = .armed
    · intro h
      obtain ⟨hm, hn⟩ := entryOf_spec he
      obtain ⟨-, -, -, hent, -⟩ := id h
      obtain ⟨-, hag, -⟩ := hent e hm
      rw [EntryAgrees, hs, hn] at hag
      have hnot : (s.arm n).inBatch = false := by
        simp only [Arm.inBatch, Arm.beyondArmed, hag]; rfl
      exact (cancelArmed_unplanned (w := w) he hs).quiet_bound h hnot
    · unfold cancelArmed; rw [he]; dsimp only; rw [if_neg hs]; exact (BayStep.refl (w := w) s).bound

/-- A line takes its entry from the plan. -/
theorem makeLine_plan {s : State} (h : PlanSound s) {n : ArmId} {e : PlanEntry}
    (he : s.entryOf n = some e) (o : BatchOutcome) :
    (makeLine o n s).plan = s.plan.filter (·.arm ≠ n) := by
  obtain ⟨hm, hn⟩ := entryOf_spec he
  obtain ⟨-, -, -, hent, -⟩ := h
  obtain ⟨-, -, hp⟩ := hent e hm
  obtain ⟨p, hp⟩ := Option.isSome_iff_exists.mp hp
  cases hr : s.load.record with
  | none => simp [State.plan, hr] at hm
  | some r =>
    unfold makeLine
    simp only [hr, he, hp, charge, State.updAllocation, State.updRecord, State.plan, updArm_load,
      Option.map_some, Option.getD_some]
    rfl

theorem makeLine_accounts {s : State} (h : AccountsSound s) (o : BatchOutcome) (n : ArmId) :
    AccountsSound (makeLine o n s) := by
  have hcharge : ∀ a c r u, AccountsSound (charge a c r u s) := fun _ _ _ _ =>
    h.updAllocation fun a ha _ => Allocation.sound_charged (h.2 a ha _) _ _
  unfold makeLine
  split
  · split
    · exact (hcharge _ _ _ _).congr rfl
    · exact h
  · exact h

theorem makeLine_reserved {s t : State} (h : PlanSound s) {n : ArmId} {e : PlanEntry}
    (he : s.entryOf n = some e) (o : BatchOutcome) (hl : t.load = (makeLine o n s).load)
    (hb : t.accounts = (makeLine o n s).accounts) (hcl : ∀ r, t.recipeClass r = s.recipeClass r)
    (hr : ReservedSound s) : ReservedSound t := by
  obtain ⟨hm, hn⟩ := entryOf_spec he
  obtain ⟨ha, -, -, hent, -⟩ := id h
  obtain ⟨-, -, hp⟩ := hent e hm
  obtain ⟨p, hp⟩ := Option.isSome_iff_exists.mp hp
  obtain ⟨r, hrec⟩ := record_of_entry hm
  refine hr.entry_gone (f := (·.charged e.reservation (litres (s.arm n).figures.standard))) ha hm
    (fun _ => rfl) (p := r.account) (c := p.productClass) (by rw [State.payer, hrec]; rfl)
    (by rw [State.recipeClass, hp]; rfl) ?_ ?_ ?_ hcl
  · rw [hb]; simp only [makeLine, hrec, he, hp]; rfl
  · simp only [State.payer, hl, makeLine, hrec, he, hp]
    simp only [updArm_load, State.updRecord, charge, State.updAllocation, hrec]; rfl
  · rw [hn, ← makeLine_plan h he o]; simp only [State.plan, hl]

theorem makeLine_unplanned {s : State} (h : PlanSound s) {n : ArmId} {e : PlanEntry}
    (he : s.entryOf n = some e) (o : BatchOutcome) {t : State}
    (hl : t.load = (makeLine o n s).load) (hb : t.accounts = (makeLine o n s).accounts)
    (hr : t.recipes = s.recipes) (hp : t.products = s.products) (hi : t.injectors = s.injectors)
    (ha : t.arm n = (t.arm n).toIdle)
    (ho : ∀ k, k ≠ n → t.arm k = (makeLine o n s).arm k) : Unplanned w n s t := by
  obtain ⟨hrest, hothers, -⟩ := makeLine_rest o n s
  refine ⟨?_, ?_, hr, hp, hi, fun _ => makeLine_reserved h he o hl hb (recipeClass_congr hr hp),
    by rw [ha]; rfl, by rw [ha]; rfl, fun k hk => ?_⟩
  · rw [hl, hrest]
  · rw [← makeLine_plan h he o]; simp only [State.plan, hl]
  · rw [ho k hk, hothers k hk]; exact .refl _

theorem makeLine_fit (o : BatchOutcome) (n : ArmId) (s : State) (k : ArmId) :
    ArmFit w k (s.arm k) ((makeLine o n s).arm k) := by
  obtain ⟨-, hothers, harm⟩ := makeLine_rest o n s
  refine armFit_of (fun h => hothers k h) ?_
  rw [harm]; exact ⟨id, id, fun _ => id⟩

theorem batchOver_fit (n : ArmId) (c : ArmConfig) (s : State) (k : ArmId) :
    ArmFit w k (s.arm k) ((batchOver n c s).arm k) := by
  have hm := makeLine_fit (w := w) (s.arm n).endOutcome n s
  simp only [batchOver]
  split
  · refine (hm k).trans (armFit_of (k := n) (fun h => ?_) ?_)
    · rw [arm_updArm_of_ne _ _ h, post_arm, arm_updArm_of_ne _ _ h]
    · rw [arm_updArm_same, post_arm, arm_updArm_same]
      exact ArmFit.trans (b := Arm.learn c _) ⟨id, id, fun _ => id⟩ (Arm.toIdle_fit _)
  · refine (hm k).trans (armFit_of (k := n) (fun h => ?_) ?_)
    · rw [arm_updArm_of_ne _ _ h, post_arm]
    · rw [arm_updArm_same, post_arm]; exact Arm.toIdle_fit _

theorem batchOver_unplanned {s : State} (h : PlanSound s) {n : ArmId} {e : PlanEntry}
    (he : s.entryOf n = some e) (c : ArmConfig) : Unplanned w n s (batchOver n c s) := by
  have hrest := (makeLine_rest (s.arm n).endOutcome n s).1
  simp only [batchOver]
  split
  · refine makeLine_unplanned h he (s.arm n).endOutcome (by simp) (by simp) ?_ ?_ ?_
      (by rw [arm_updArm_same]; rfl) fun k hk => ?_
    · rw [updArm_recipes, post_recipes, updArm_recipes, hrest]
    · rw [updArm_products, post_products, updArm_products, hrest]
    · rw [updArm_injectors, post_injectors, updArm_injectors, hrest]
    · rw [arm_updArm_of_ne _ _ hk, post_arm, arm_updArm_of_ne _ _ hk]
  · refine makeLine_unplanned h he (s.arm n).endOutcome (by simp) (by simp) ?_ ?_ ?_
      (by rw [arm_updArm_same]; rfl) fun k hk => ?_
    · rw [updArm_recipes, post_recipes, hrest]
    · rw [updArm_products, post_products, hrest]
    · rw [updArm_injectors, post_injectors, hrest]
    · rw [arm_updArm_of_ne _ _ hk, post_arm]

/-- The sealing of a load whose plan is empty. -/
theorem sealLoad_bayKept {s : State} (h : s.plan = []) : BayKept w s (sealLoad s) := by
  obtain ⟨r, cause, hr, -, e⟩ | ⟨-, e⟩ := sealLoad_cases s <;> rw [e]
  · refine BayKept.post ?_ ..
    rw [storeNote_rest]
    refine ⟨.inl rfl, by rw [h]; rfl, rfl, .inl h, rfl, rfl, fun _ => .refl _, fun hi => ?_⟩
    exact (injectorsSound_iff.mp hi).1
  · exact .refl s

theorem endBatch_step {s : State} {n : ArmId} (c : ArmConfig)
    (hs : (s.arm n).control.state ≠ .idle) (hr : (s.arm n).inRun = false)
    (hq : additivesPending s n = false) : BayStep w s (endBatch n c s) := by
  have hacc : (batchOver n c s).accounts = (makeLine (s.arm n).endOutcome n s).accounts := by
    simp only [batchOver, updArm_accounts, post_accounts]
    split
    · simp
    · rfl
  have hover : BayStep w s (batchOver n c s) := by
    refine ⟨fun h => (makeLine_accounts h _ n).congr hacc, batchOver_fit n c s, fun h => ?_⟩
    obtain ⟨e, -, -, he⟩ := h.planned hs hr
    refine (batchOver_unplanned (w := w) h he c).bound h fun i r hi _ hn => ?_
    simp only [additivesPending, hr, Bool.not_false, Bool.true_and, Bool.or_eq_false_iff] at hq
    have := List.any_eq_false.mp hq.1 i (by fin_cases i <;> decide)
    simp [hi, hn] at this
  rw [endBatch_eq]
  split
  · next hp =>
    simp only [Bool.and_eq_true, State.planEmpty, List.isEmpty_iff] at hp
    exact hover.trans (sealLoad_bayKept hp.2).step
  · exact hover.trans ((BayKept.refl _).planMayHaveEmptied).step

theorem endRun_unplanned {s : State} (h : PlanSound s) {n : ArmId} (hr : (s.arm n).inRun = true)
    (r : MeterRun) : Unplanned w n s (endRun n r s) := by
  obtain ⟨hrest, hothers⟩ := endRun_rest n r s
  have harm : ((endRun n r s).arm n).control.state = .idle ∧ ((endRun n r s).arm n).inRun = false := by
    simp only [endRun, arm_updArm_same]; exact ⟨rfl, rfl⟩
  have hl : (endRun n r s).load = s.load := by rw [hrest]
  exact ⟨by rw [hl], by simp only [State.plan, hl]; exact (filter_arm_of_none (h.run_unplanned hr)).symm,
    by rw [hrest], by rw [hrest], by rw [hrest],
    fun _ h' => h'.congr (by simp only [State.plan, hl]) (by rw [hrest])
      (.inr (by simp only [State.payer, hl])) fun _ _ => by rw [hrest]; rfl, harm.1, harm.2,
    fun k hk => by rw [hothers k hk]; exact .refl _⟩

theorem endRun_fit (r : MeterRun) (s : State) (n k : ArmId) :
    ArmFit w k (s.arm k) ((endRun n r s).arm k) := by
  refine armFit_of (fun h => (endRun_rest n r s).2 k h) ?_
  simp only [endRun, arm_updArm_same, post_arm]
  exact (Arm.toIdle_fit _).trans ⟨id, id, fun _ => id⟩

theorem endRun_step {s : State} {n : ArmId} (hr : (s.arm n).inRun = true) (r : MeterRun) :
    BayStep w s (endRun n r s) :=
  ⟨fun h => h.congr (by rw [(endRun_rest n r s).1]), endRun_fit r s n, fun h =>
    (endRun_unplanned (w := w) h hr r).quiet_bound h (by simp [Arm.inBatch, hr])⟩

/-! ### Samples -/

theorem closingShare_step {s : State} {n : ArmId} (hs : (s.arm n).control.state.stage = 2)
    (c : ArmConfig) (pulses : Nat) : BayStep w s (closingShare n c pulses s) := by
  have hk : BayKept w s (s.updArm n fun a =>
      { a with control.settle := settleWith pulses a.control.settle }) :=
    (BayKept.refl s).updArm (.of rfl rfl rfl rfl id rfl rfl rfl rfl)
  simp only [closingShare]
  split
  · next hm =>
    split
    · next r hr => exact hk.step.trans (endRun_step (by rw [Arm.inRun, hr]; rfl) r)
    · next hr =>
      refine hk.step.trans (endBatch_step c (fun hi => ?_) (by rw [Arm.inRun, hr]; rfl) ?_)
      · rw [(hk.arms n).idle] at hi; rw [hi] at hs; cases hs
      · simpa using (Bool.and_eq_true_iff.mp hm).2
  · exact hk.step

theorem Arm.stage_of_flowing {a : Arm} (h : a.flowing = true) : a.control.state.stage = 2 :=
  ArmState.beyond_of_flowing h

theorem Arm.flowing_of_control {a b : Arm} (h : b.control = a.control) (hf : a.flowing = true) :
    b.flowing = true := by rw [Arm.flowing, h]; exact hf

theorem flowingShare_bayKept {s : State} {n : ArmId} (hf : (s.arm n).flowing = true)
    (c : ArmConfig) (r : SampleReport) (cause : Option HoldCause) (owed : List Nat) :
    BayKept w s (flowingShare n c r cause owed s) := by
  unfold flowingShare
  split
  · exact (BayKept.refl s).enterHeld ..
  · split
    · exact (BayKept.refl s).enterClosing _ (Arm.stage_of_flowing hf)
    · exact (BayKept.refl s).updArm (Arm.regulate_kept c _ _ _ _ hf)

theorem BayKept.stage {s t : State} (k : BayKept w s t) {n : ArmId} {v : Nat}
    (h : (s.arm n).control.state.stage = v) : (t.arm n).control.state.stage = v :=
  (k.arms n).stage.trans h

theorem chosen_bayKept (s : State) : BayKept w s s.chosen := .same rfl rfl rfl rfl rfl rfl

theorem countCycles_bayKept (d : Nat) (n : ArmId) (s : State) : BayKept w s (countCycles d n s) :=
  (BayKept.refl s).updArm
    (.of rfl rfl rfl (by simp only [List.map_map]; rfl) id rfl rfl rfl rfl)

theorem flowingBatchSample_bayKept {s : State} {n : ArmId} (hf : (s.arm n).flowing = true)
    (c : ArmConfig) (r : SampleReport) (cause : Option HoldCause) :
    BayKept w s (flowingBatchSample n c r cause s) := by
  have hc : BayKept w s (countCycles r.delta n s.chosen) :=
    (chosen_bayKept s).trans (countCycles_bayKept ..)
  have hcount : ((countCycles r.delta n s.chosen).arm n).control = (s.arm n).control := by
    simp [countCycles]
  simp only [flowingBatchSample]
  refine BayKept.offerAll (BayKept.trans ?_ (flowingShare_bayKept ?_ ..)) <;> split
  · exact hc.offerAll
  · exact hc
  · refine Arm.flowing_of_control ?_ hf
    rw [(offerAll_frame _).arm n]; exact hcount
  · exact Arm.flowing_of_control hcount hf

/-- A meter run's record may change under a flowing arm (R163). -/
theorem runSample_kept {n : ArmId} (f : MeterRun → MeterRun) (a : Arm) :
    ArmKept w n a { a with run := a.run.map f } := by
  have hrun : ({ a with run := a.run.map f } : Arm).inRun = a.inRun := by simp [Arm.inRun]
  refine .of rfl hrun rfl rfl (fun h => ?_) rfl rfl rfl rfl
  obtain ⟨hrest, hflow, hbeyond⟩ := h
  refine ⟨hrest, fun hf => ?_, fun hr => hbeyond (hrun ▸ hr)⟩
  rw [Arm.wantedCode, hrun]; exact hflow hf

theorem controllerSample_step {s : State} {n : ArmId} (c : ArmConfig) {r : SampleReport}
    (hr : r.before.control = (s.arm n).control) :
    BayStep w s (controllerSample n c r s) := by
  have h0 : BayKept w s (if (r.fault.isSome && r.overspeed) = true then s.chosen else s)
      ∧ ((if (r.fault.isSome && r.overspeed) = true then s.chosen else s).arm n).control
        = r.before.control := by
    split
    · exact ⟨chosen_bayKept s, by rw [chosen_arm, hr]⟩
    · exact ⟨.refl s, hr.symm⟩
  obtain ⟨h0, hctl⟩ := h0
  simp only [controllerSample]
  generalize (if (r.fault.isSome && r.overspeed) = true then s.chosen else s) = u at *
  split
  · next hf =>
    have hu : (u.arm n).flowing = true := Arm.flowing_of_control hctl hf
    split
    · have hk := h0.updArm (n := n) (f := fun a => { a with
        run := a.run.map (MeterRun.sample r.before.control.state r.factor) }) (runSample_kept _ _)
      refine (hk.trans (flowingShare_bayKept ?_ ..)).step
      rw [arm_updArm_same]; exact hu
    · exact (h0.trans (flowingBatchSample_bayKept hu ..)).step
  · split
    · next hcl =>
      refine h0.step.trans (closingShare_step ?_ _ _)
      rw [hctl, hcl]; rfl
    · exact h0.step

theorem engineSample_bayKept (n : ArmId) {c : ArmConfig} (p : Product) (probe : Option Int)
    {s : State} (hc : (s.arm n).config = some c)
    (hw : w.room → (s.arm n).totals.gross + (s.arm n).nextIncrement < 2 ^ 64) :
    BayKept w s (engineSample n c p probe s).1 := by
  obtain ⟨hrest, hothers, harm, -⟩ := engineSample_rest n c p probe s
  refine .of_arms (by rw [hrest]) (by rw [hrest]; rfl) (by rw [hrest]) (by rw [hrest]; rfl)
    (by rw [hrest]) (by rw [hrest]) (by rw [hrest]) fun k => ?_
  by_cases hk : k = n
  · subst hk; rw [harm]; exact Arm.engine_kept p probe hc hw
  · rw [hothers k hk]; exact .refl _

theorem sampleArm_step (n : ArmId) (probe : Option Int) {s : State}
    (hw : w.room → (s.arm n).totals.gross + (s.arm n).nextIncrement < 2 ^ 64) :
    BayStep w s (sampleArm n probe s) := by
  unfold sampleArm
  split
  · exact .refl s
  · next c hc =>
    split
    · exact .refl s
    · next p _ =>
      have hk := engineSample_bayKept n p probe hc hw
      refine hk.step.trans (controllerSample_step c ?_)
      obtain ⟨-, -, harm, -⟩ := engineSample_rest n c p probe s
      rw [harm]; rfl

/-! ### END LOAD and the start-ups -/

theorem enterLoad_bayKept {s : State} (l : LoadState) (h : s.meterRun = false) :
    BayKept w s (enterLoad l s) := by
  rw [enterLoad_rest]
  exact ⟨.inr (.inr h), rfl, rfl, .inr rfl, rfl, rfl, fun _ => .refl _, fun hi => (injectorsSound_iff.mp hi).1⟩

theorem enterLoad_step {s : State} (l : LoadState) (h : s.load.state ≠ .noLoad) :
    BayStep w s (enterLoad l s) :=
  ⟨fun ha => ha.congr (by rw [enterLoad_rest]), fun n => by rw [enterLoad_rest]; exact .refl _,
    fun hp =>
    (enterLoad_bayKept (w := w) l (hp.no_run h)).bound hp⟩

theorem updRecord_bayKept (s : State) {f : OpenLoad → OpenLoad} (h : ∀ r, (f r).plan = r.plan)
    (ha : ∀ r, (f r).account = r.account) : BayKept w s (s.updRecord f) :=
  .of_arms rfl (by simp only [State.plan, State.updRecord]; cases s.load.record <;> simp [h]) rfl
    (by simp only [State.payer, State.updRecord]; cases s.load.record <;> simp [ha]) rfl rfl
    rfl fun _ => .refl _

/-- The arm of an entry is cancelled or stopped at the end of a load (R65). -/
def endArm (n : ArmId) (s : State) : State :=
  match s.entryOf n with
  | some e => if e.state = .armed then cancelArmed n s else stopArmNow n s
  | none => s

theorem endArm_step (n : ArmId) (s : State) :
    BayStep w s (endArm n s) ∧ (endArm n s).load.state = s.load.state := by
  unfold endArm
  split
  · split
    · exact ⟨cancelArmed_step n s, (cancelArmed_loadKept n s).state⟩
    · exact ⟨((BayKept.refl s).stopArmNow n).step, (stopArmNow_loadKept n s).state⟩
  · exact ⟨.refl s, rfl⟩

theorem endOpenLoad_eq (cause : EndCause) (s : State) :
    endOpenLoad cause s =
      (let u := enterLoad .ending (forArms endArm
        (stopIdleTimer (s.updRecord fun r => { r with endCause := some cause })))
      if u.planEmpty then sealLoad u else u) := rfl

theorem endOpenLoad_step {s : State} (cause : EndCause) (hs : s.load.state = .opened) :
    BayStep w s (endOpenLoad cause s) := by
  have h1 : BayStep w s (stopIdleTimer (s.updRecord fun r => { r with endCause := some cause })) := by
    refine ((updRecord_bayKept s (f := fun r => { r with endCause := some cause }) (fun _ => rfl)
      fun _ => rfl).trans ?_).step
    exact .of_arms rfl rfl rfl rfl rfl rfl rfl fun _ => .refl _
  have h2 : BayStep w s (forArms endArm
        (stopIdleTimer (s.updRecord fun r => { r with endCause := some cause })))
      ∧ (forArms endArm (stopIdleTimer
        (s.updRecord fun r => { r with endCause := some cause }))).load.state = .opened := by
    refine forArms_invariant (fun u => BayStep w s u ∧ u.load.state = .opened) endArm
      (fun n u hu => ?_) ⟨h1, hs⟩
    exact ⟨hu.1.trans (endArm_step n u).1, (endArm_step (w := w) n u).2.trans hu.2⟩
  have h3 := h2.1.trans (enterLoad_step .ending (by rw [h2.2]; nofun))
  rw [endOpenLoad_eq]
  dsimp only
  split
  · next hp => exact h3.trans (sealLoad_bayKept (by simpa [State.planEmpty] using hp)).step
  · exact h3

theorem tick_bayKept (s : State) : BayKept w s s.tick := by
  unfold State.tick
  split
  · refine ⟨.inr (.inl rfl), rfl, rfl, .inr rfl, rfl, rfl, fun n => ?_, fun hi i => ?_⟩
    · simp only [State.arm, Bank4.get_map]; exact .of rfl rfl rfl rfl id rfl rfl rfl rfl
    · have ho := hi.ok i
      simp only [State.injector, Bank6.get_map] at ho ⊢
      refine InjectorOk.uses (s := s) ?_ fun r _ => ?_
      · cases hs : (s.injectors.get i).state with
        | shot r =>
          exact ho.shot (q := { r with timer := r.timer.tick }) hs rfl rfl
        | _ =>
          refine ho.of_no_shot rfl (by simp [InjectorState.tick]) fun hn => ?_
          have := ho.1 hn; rw [hs] at this; cases this <;> rfl
      · refine ArmKept.uses (w := w) (n := r.arm) ?_ i
        simp only [State.arm, Bank4.get_map]; exact .of rfl rfl rfl rfl id rfl rfl rfl rfl
  · exact .refl s

end Sys2Proof.Machine
end

section
/-! SUPPORT. What a granted plan has passed; the deeds of a step on the binding of arms, plan entries and
injectors. -/

namespace Sys2Proof.Machine

variable {w : Scope}

/-! ### The checks of a plan (R57 to R59) -/

theorem planChecks_ok {s : State} {r : OpenLoad} {n : ArmId} {compartment recipe : Nat}
    {c : Compartment} {p : Product} (h : planChecks s r n compartment recipe = .ok (c, p)) :
    (s.arm n).control.state = .idle
      ∧ (s.vehicle r.vehicle).bind (·.compartment compartment) = some c
      ∧ (∃ q, s.recipe recipe = some q ∧ s.products.get q.product = some p
          ∧ (s.arm n).config.map (·.product) = some q.product ∧ s.plumbed q n = true)
      ∧ inClasses p.productClass r.classes = true ∧ inClasses p.productClass c.classes = true := by
  unfold planChecks at h
  split at h
  · cases h
  next hi =>
  split at h
  · cases h
  next hc =>
  split at h
  · cases h
  next q hq =>
  split at h
  · cases h
  next hm =>
  split at h
  · cases h
  next hp =>
  split at h
  · cases h
  next hl =>
  split at h
  · cases h
  next hk =>
  cases h
  simp only [Bool.or_eq_true, not_or, decide_eq_true_eq, not_not, Bool.not_eq_true',
    Bool.not_eq_false] at hm hl hk
  exact ⟨by simpa using hi, hc, ⟨q, hq, hp, hm⟩, hl, hk⟩

theorem planPlace_none {r : OpenLoad} {compartment : Nat} (h : planPlace r compartment = none) :
    r.plan.length + r.lines.length < 8 ∧ ∀ e ∈ r.plan, e.compartment ≠ compartment := by
  unfold planPlace at h
  split at h
  · cases h
  next hf =>
  split at h
  · cases h
  next hc =>
  simp only [Config.linesPerLoad, not_le, List.any_eq_true, decide_eq_true_eq, not_exists,
    not_and] at hf hc
  exact ⟨hf, hc⟩

/-- A granted plan has passed the nine checks. -/
theorem planGrant_ok {s : State} {r : OpenLoad} {n : ArmId} {compartment recipe request preset : Nat}
    {p : Product} (h : planGrant s r n compartment recipe request = .ok (preset, p)) :
    ∃ c, planChecks s r n compartment recipe = .ok (c, p)
      ∧ allocationCheck (s.account r.account) p.productClass p.basis request
          (roomOf c compartment r) = .ok preset
      ∧ planPlace r compartment = none := by
  unfold planGrant at h
  split at h
  · cases h
  next c q hc =>
  split at h
  · cases h
  next hk =>
  split at h
  · cases h
  next hp =>
  cases h
  exact ⟨c, hc, hk, hp⟩

/-! ### Plans and starts -/

/-- Arms without a batch may change: the shots in flight serve other arms. -/
theorem InjectorsSound.shots_elsewhere {s t : State} (h : InjectorsSound s) {n : ArmId}
    (hq : (s.arm n).inBatch = false) (hi : t.injectors = s.injectors)
    (ho : ∀ k, k ≠ n → t.arm k = s.arm k) : ShotsSound t := by
  intro i
  have e : t.injector i = s.injector i := by simp only [State.injector, hi]
  rw [e]
  obtain ⟨h1, h2, h3⟩ := h.ok i
  refine ⟨h1, h2, fun c r hc hr => ?_⟩
  obtain ⟨hreach, hu, hd⟩ := h3 c r hc hr
  have hn : r.arm ≠ n := by
    rintro rfl
    simp [Arm.uses, hq] at hu
  exact ⟨hreach, by rw [ho _ hn]; exact hu, hd⟩

theorem PlanSound.idle_arm {s : State} (h : PlanSound s) {n : ArmId}
    (hs : (s.arm n).control.state = .idle) :
    (s.arm n).inRun = false ∧ ∀ e ∈ s.plan, e.arm ≠ n := by
  obtain ⟨-, -, hidle, -, -⟩ := h
  exact (hidle n).mp hs

theorem Arm.not_inBatch {a : Arm} (h : a.control.state = .idle ∨ a.control.state = .armed) :
    a.inBatch = false := by
  obtain h | h := h <;> simp only [Arm.inBatch, Arm.beyondArmed, h] <;> rfl

/-- The entry of an accepted plan (R60). -/
def plannedEntry (n : ArmId) (compartment recipe preset : Nat) (p : Product) : PlanEntry :=
  { compartment := compartment, recipe := recipe, arm := n, preset := preset
    reservation := reservationOf p.basis preset, state := .armed }

/-- The binding of an accepted plan (R103). -/
def plannedBinding (compartment recipe preset : Nat) (p : Product) : Binding :=
  { compartment := compartment, recipe := recipe, preset := preset, basis := p.basis
    reservation := reservationOf p.basis preset }

/-- The reservation of a granted plan fits what is available of its class (R43). -/
theorem allocationBound_fits (b : PresetBasis) (request n : Nat) :
    reservationOf b (allocationBound b request (some n)) ≤ n := by
  cases b with
  | standard => simp only [allocationBound, reservationOf]; omega
  | gross => simp only [allocationBound, reservationOf, ceilDiv]; omega

theorem reservationOf_mono (b : PresetBasis) {p q : Nat} (h : p ≤ q) :
    reservationOf b p ≤ reservationOf b q := by
  cases b with
  | standard => exact h
  | gross => simp only [reservationOf, ceilDiv]; omega

/-- A granted preset of a class with a limit: its reservation is available (R43). -/
theorem allocationCheck_available {a : Account} {c : ClassId} {b : PresetBasis} {request p n : Nat}
    {room : Int} (hn : (a.classes.get c).remaining = .litres n)
    (h : allocationCheck (some a) c b request room = .ok p) :
    reservationOf b p ≤ n - (a.classes.get c).reserved := by
  simp only [allocationCheck, Allocation.available, hn] at h
  split at h
  · cases h
  split at h
  · split at h <;> cases h
  cases h
  exact (reservationOf_mono b (Nat.min_le_left ..)).trans (allocationBound_fits ..)

theorem find?_number {l : List Account} (h : (l.map (·.number)).Nodup) {a : Account} (ha : a ∈ l) :
    l.find? (·.number == a.number) = some a := by
  induction l with
  | nil => cases ha
  | cons x l ih =>
    simp only [List.map_cons, List.nodup_cons, List.mem_map, not_exists, not_and] at h
    obtain ⟨hx, hl⟩ := h
    rw [List.find?_cons]
    obtain rfl | ha := List.mem_cons.mp ha
    · simp
    · have : (x.number == a.number) = false := by simpa using fun he => hx a ha he.symm
      rw [this]; exact ih hl ha

/-- A granted plan reserves no more than remains. -/
theorem acceptPlan_accounts {s : State} {load : OpenLoad} {n : ArmId}
    {compartment recipe request preset : Nat} {p : Product}
    (hg : planGrant s load n compartment recipe request = .ok (preset, p)) (h : AccountsSound s) :
    AccountsSound (acceptPlan load n compartment recipe preset p s) := by
  obtain ⟨c, -, hk, -⟩ := planGrant_ok hg
  have hres : AccountsSound (reserve load.account p.productClass (reservationOf p.basis preset) s) := by
    refine h.updAllocation fun a ha hn => ?_
    rw [State.account, ← hn, find?_number h.1 ha] at hk
    have hs := h.2 a ha p.productClass
    unfold Allocation.sound at *
    cases hr : (a.classes.get p.productClass).remaining with
    | unlimited => simp
    | litres l =>
      have := allocationCheck_available hr hk
      simp only [hr] at hs ⊢
      omega
  exact hres.congr rfl

/-- The litres of a granted plan join those reserved in its class. -/
theorem acceptPlan_reserved {s : State} {load : OpenLoad} {n : ArmId}
    {compartment recipe request preset : Nat} {p : Product} (hr : s.load.record = some load)
    (hg : planGrant s load n compartment recipe request = .ok (preset, p)) (h : ReservedSound s) :
    ReservedSound (acceptPlan load n compartment recipe preset p s) := by
  obtain ⟨c, hc, hk, -⟩ := planGrant_ok hg
  obtain ⟨-, -, ⟨q, hq, hp, -⟩, -⟩ := planChecks_ok hc
  have hclass : s.recipeClass recipe = some p.productClass := by
    simp only [State.recipeClass, State.recipeProduct, hq, Option.bind_some, hp, Option.map_some]
  have hsplan : s.plan = load.plan := by simp [State.plan, hr]
  have hspayer : s.payer = some load.account := by simp [State.payer, hr]
  rw [reservedSound_iff] at h ⊢
  obtain ⟨h1, -⟩ := h
  set t := acceptPlan load n compartment recipe preset p s with ht
  have hpayer : t.payer = some load.account := by
    rw [ht]
    simp [acceptPlan, stopIdleTimer, reserve, State.updAllocation, State.updRecord, State.payer, hr]
  have hplan : t.plan = s.plan ++ [plannedEntry n compartment recipe preset p] := by
    rw [hsplan, ht]
    simp [acceptPlan, stopIdleTimer, reserve, State.updAllocation, State.updRecord, State.plan, hr,
      plannedEntry]
  have haccounts : t.accounts = (s.updAllocation load.account p.productClass fun x =>
      { x with reserved := x.reserved + reservationOf p.basis preset }).accounts := rfl
  have hby : ∀ d, t.reservedBy t.plan d = s.reservedBy s.plan d
      + (if p.productClass = d then reservationOf p.basis preset else 0) := fun d => by
    have hcl : ∀ e ∈ t.plan, t.recipeClass e.recipe = s.recipeClass e.recipe := fun _ _ => rfl
    rw [reservedBy_congr hcl, hplan, State.reservedBy_append, State.reservedBy_cons,
      State.reservedBy_nil]
    change _ + ((if s.recipeClass recipe = some d then reservationOf p.basis preset else 0) + 0) = _
    rw [hclass]; simp only [Option.some.injEq, Nat.add_zero]
  refine ⟨fun a ha d => ?_, fun _ => ⟨load.account, hpayer, ?_⟩⟩
  · rw [haccounts] at ha
    simp only [State.updAllocation, List.mem_map] at ha
    obtain ⟨b, hb, rfl⟩ := ha
    have hbd := h1 b hb d
    simp only [State.reservedFor, hspayer, hpayer, Option.some.injEq, hby] at hbd ⊢
    by_cases hn : b.number = load.account
    · rw [if_pos hn, if_pos hn.symm]
      rw [if_pos hn.symm] at hbd
      by_cases hd : d = p.productClass
      · subst hd; rw [Bank8.get_set_same, if_pos rfl, hbd]
      · rw [Bank8.get_set_of_ne _ _ hd, if_neg (Ne.symm hd), hbd]; rfl
    · rw [if_neg hn, if_neg (Ne.symm hn)]
      rw [if_neg (Ne.symm hn)] at hbd
      exact hbd
  · rw [account_isSome, haccounts, updAllocation_number, ← account_isSome]
    cases ha : s.account load.account with
    | none => rw [ha] at hk; cases hk
    | some a => rfl

theorem acceptPlan_fit {s : State} {load : OpenLoad} {n : ArmId} {compartment recipe preset : Nat}
    {p : Product} (hidle : (s.arm n).control.state = .idle) (k : ArmId) :
    ArmFit w k (s.arm k) ((acceptPlan load n compartment recipe preset p s).arm k) := by
  refine armFit_of (k := n) (fun h => ?_) ?_
  · simp [acceptPlan, reserve, arm_updArm_of_ne _ _ h]
  · have hn : (acceptPlan load n compartment recipe preset p s).arm n
        = (s.arm n).arm (plannedBinding compartment recipe preset p) := by
      simp [acceptPlan, reserve, plannedBinding]
    rw [hn]
    have hnf : (s.arm n).flowing = false := by rw [Arm.flowing, hidle]; rfl
    have hnb : (s.arm n).beyondArmed = false := by rw [Arm.beyondArmed, hidle]; rfl
    refine ⟨fun h => ?_, fun h => h.mono rfl rfl nofun, fun _ => id⟩
    obtain ⟨hrest, -, hb⟩ := h
    refine Arm.safe_of_rest rfl (hrest hnf) fun hr => ?_
    have := hb hr
    rw [hnb] at this; cases this

/-- An accepted plan: the arm is ARMED and its entry is the last. -/
theorem acceptPlan_step {s : State} {load : OpenLoad} {n : ArmId}
    {compartment recipe request preset : Nat} {p : Product} (hs : s.load.state = .opened)
    (hr : s.load.record = some load)
    (hg : planGrant s load n compartment recipe request = .ok (preset, p)) :
    BayStep w s (acceptPlan load n compartment recipe preset p s) := by
  obtain ⟨c, hc, -, hpl⟩ := planGrant_ok hg
  obtain ⟨hidle, -, ⟨q, hq, hp, -⟩, -⟩ := planChecks_ok hc
  obtain ⟨-, hcomp⟩ := planPlace_none hpl
  refine ⟨acceptPlan_accounts hg, acceptPlan_fit hidle, fun h => ?_⟩
  obtain ⟨hrun, hno⟩ := h.idle_arm hidle
  obtain ⟨ha, hcs, hiff, hent, hmeter⟩ := id h
  have hsplan : s.plan = load.plan := by simp [State.plan, hr]
  set t := acceptPlan load n compartment recipe preset p s with ht
  have hplan : t.plan = s.plan ++ [plannedEntry n compartment recipe preset p] := by
    rw [hsplan, ht]
    simp [acceptPlan, stopIdleTimer, reserve, State.updAllocation, State.updRecord, State.plan, hr,
      plannedEntry]
  have hn : t.arm n = (s.arm n).arm (plannedBinding compartment recipe preset p) := by
    simp [ht, acceptPlan, reserve, plannedBinding]
  have ho : ∀ k, k ≠ n → t.arm k = s.arm k := fun k hk => by
    simp [ht, acceptPlan, reserve, arm_updArm_of_ne _ _ hk]
  have hnrun : (t.arm n).inRun = false := by rw [hn]; exact hrun
  refine ⟨⟨?_, ?_, fun k => ?_, fun e he => ?_, ?_⟩, fun hi => injectorsSound_iff.mpr ⟨?_, ?_⟩,
    acceptPlan_reserved hr hg⟩
  · rw [hplan, List.map_append, List.nodup_append]
    refine ⟨ha, by simp, fun a ha b hb => ?_⟩
    simp only [List.map_cons, List.map_nil, List.mem_singleton] at hb
    obtain ⟨e, he, rfl⟩ := List.mem_map.mp ha
    rw [hb]; exact hno e he
  · rw [hplan, List.map_append, List.nodup_append]
    refine ⟨hcs, by simp, fun a ha b hb => ?_⟩
    simp only [List.map_cons, List.map_nil, List.mem_singleton] at hb
    obtain ⟨e, he, rfl⟩ := List.mem_map.mp ha
    rw [hb]; exact hcomp e (hsplan ▸ he)
  · by_cases hk : k = n
    · subst hk
      rw [hplan, hn]
      simp [Arm.arm, plannedEntry]
    · rw [ho k hk, hiff k, hplan]
      have hnk : (plannedEntry n compartment recipe preset p).arm ≠ k := fun hn => hk hn.symm
      simp only [List.forall_mem_append, List.forall_mem_singleton, hnk, and_true, ne_eq,
        not_false_eq_true]
  · rw [hplan, List.mem_append, List.mem_singleton] at he
    obtain he | rfl := he
    · have hne := hno e he
      obtain ⟨h1, h2, h3⟩ := hent e he
      refine ⟨by rw [ho _ hne]; exact h1, ?_, h3⟩
      exact h2.kept (w := w) (by rw [ho _ hne]; exact .refl _)
    · refine ⟨hnrun, ?_, ?_⟩
      · change (t.arm n).control.state = .armed
        rw [hn]; rfl
      · change ((s.recipe recipe).bind fun r => s.products.get r.product).isSome = true
        rw [hq]; exact Option.isSome_iff_exists.mpr ⟨p, hp⟩
  · intro hm
    have : t.meterRun = s.meterRun := meterRun_congr fun k => by
      by_cases hk : k = n
      · subst hk; rw [hnrun, hrun]
      · rw [ho k hk]
    rw [this, h.no_run (by rw [hs]; nofun)] at hm; cases hm
  · exact hi.shots_elsewhere (Arm.not_inBatch (.inl hidle)) rfl ho
  · intro e he
    rw [hplan, List.mem_append, List.mem_singleton] at he
    obtain he | rfl := he
    · exact ((injectorsSound_iff.mp hi).2 e he).kept (w := w) (by rw [ho _ (hno e he)]; exact .refl _) rfl
    · exact ⟨⟨p.basis, congrArg (·.control.binding) hn⟩, nofun⟩

/-- The component records of a new batch stand on the injectors of the recipe, in its order (R143). -/
theorem newComponents_names {s : State} {code : Nat} {r : Recipe} (h : s.recipe code = some r) :
    (newComponents s code).map (·.injector) = r.components.map (·.injector) := by
  simp [newComponents, h, newComponent]

/-- What START ARM does to the entries of an arm (R55). -/
def PlanEntry.activated (n : ArmId) (e : PlanEntry) : PlanEntry :=
  if e.arm = n then { e with state := .active } else e

theorem PlanEntry.activated_arm (n : ArmId) (e : PlanEntry) : (e.activated n).arm = e.arm := by
  unfold activated; split <;> rfl

theorem PlanEntry.activated_rest (n : ArmId) (e : PlanEntry) :
    (e.activated n).compartment = e.compartment ∧ (e.activated n).recipe = e.recipe
      ∧ (e.activated n).preset = e.preset ∧ (e.activated n).reservation = e.reservation := by
  unfold activated; split <;> exact ⟨rfl, rfl, rfl, rfl⟩

theorem PlanEntry.activated_of_ne {n : ArmId} {e : PlanEntry} (h : e.arm ≠ n) :
    e.activated n = e := if_neg h

theorem PlanEntry.activated_state {n : ArmId} {e : PlanEntry} (h : e.arm = n) :
    (e.activated n).state = .active := by unfold activated; rw [if_pos h]

theorem reservedBy_activated (s : State) (n : ArmId) (l : List PlanEntry) (c : ClassId) :
    s.reservedBy (l.map (PlanEntry.activated n)) c = s.reservedBy l c := by
  induction l with
  | nil => rfl
  | cons e l ih =>
    obtain ⟨-, hrec, -, hres⟩ := PlanEntry.activated_rest n e
    rw [List.map_cons, State.reservedBy_cons, State.reservedBy_cons, ih, hrec, hres]

theorem startBatch_plan (s : State) (n : ArmId) (c : ArmConfig) (b : Binding) :
    (startBatch n c b s).plan = s.plan.map (PlanEntry.activated n) := by
  simp only [startBatch, State.plan, post_load, updArm_load, stopIdleTimer, State.updRecord]
  cases s.load.record <;> rfl

theorem startBatch_arm (s : State) (n : ArmId) (c : ArmConfig) (b : Binding) :
    (startBatch n c b s).arm n
        = { (s.arm n).starting c with components := newComponents s b.recipe }
      ∧ ∀ k, k ≠ n → (startBatch n c b s).arm k = s.arm k := by
  refine ⟨by simp [startBatch], fun k hk => ?_⟩
  simp [startBatch, arm_updArm_of_ne _ _ hk]

/-- What the checks of a start or a resume ask of the monitor for an arm to flow (R104, R117, R160). -/
def Monitor.Allows (m : Monitor) (n : ArmId) (code : Nat) : Prop :=
  m.permissiveOk = true ∧ m.deployed n = true ∧ m.couplerCode n = code

theorem Arm.starting_single {a b : Arm} (h : a.SingleOk) (hc : b.config = a.config)
    (hp : b.channel.pulsesB = a.channel.pulsesB) (hb : b.figures.bTotal = 0) : b.SingleOk :=
  fun c hbc hs => ⟨hp.trans (h c (hc ▸ hbc) hs).1, fun _ => hb⟩

/-- An arm that starts to flow with the monitor's leave. -/
theorem Arm.safe_of_allowed {m : Monitor} {n : ArmId} {a : Arm} (hf : a.flowing = true)
    (h : m.Allows n a.wantedCode) : a.Safe m n := by
  refine ⟨fun h' => ?_, fun _ => h, fun _ => ArmState.stage_beyond.mp (ArmState.beyond_of_flowing hf)⟩
  rw [hf] at h'; cases h'

theorem startBatch_fit {s : State} {n : ArmId} (c : ArmConfig) {b : Binding}
    (hs : (s.arm n).control.state = .armed) (hb : (s.arm n).control.binding = some b)
    (hm : w.monitor.Allows n b.compartment) :
    ArmFit w n (s.arm n) ((startBatch n c b s).arm n) := by
  rw [(startBatch_arm s n c b).1]
  refine ⟨fun h => Arm.safe_of_allowed rfl ?_, fun h => Arm.starting_single h rfl rfl rfl, fun _ => id⟩
  obtain ⟨-, -, hrun⟩ := h
  have hnot : (s.arm n).inRun = false := by
    cases hr : (s.arm n).inRun with
    | false => rfl
    | true =>
      have := hrun hr
      rw [Arm.beyondArmed, hs] at this; cases this
  have hw : ({ (s.arm n).starting c with components := newComponents s b.recipe } : Arm).wantedCode
      = b.compartment := by
    change (if (s.arm n).inRun = true then 0
      else ((s.arm n).control.binding.map (·.compartment)).getD 0) = b.compartment
    rw [hnot, hb]; rfl
  rw [hw]; exact hm

theorem startBatch_step {s : State} {n : ArmId} (c : ArmConfig) {b : Binding}
    (hs : (s.arm n).control.state = .armed) (hb : (s.arm n).control.binding = some b)
    (hm : w.monitor.Allows n b.compartment) :
    BayStep w s (startBatch n c b s) := by
  have hacc : (startBatch n c b s).accounts = s.accounts := by simp [startBatch]
  have hpayer : (startBatch n c b s).payer = s.payer := by
    simp only [startBatch, State.payer, post_load, updArm_load, stopIdleTimer, State.updRecord]
    cases s.load.record <;> rfl
  refine ⟨fun h => h.congr hacc, fun k => armFit_of (k := n) (fun h => (startBatch_arm s n c b).2 k h)
    (startBatch_fit c hs hb hm), fun h => ?_⟩
  obtain ⟨ha, hcs, hiff, hent, hmeter⟩ := id h
  have hplan := startBatch_plan s n c b
  obtain ⟨hn, ho⟩ := startBatch_arm s n c b
  have hr : (startBatch n c b s).recipes = s.recipes := by simp [startBatch]
  have hp : (startBatch n c b s).products = s.products := by simp [startBatch]
  have hi : (startBatch n c b s).injectors = s.injectors := by simp [startBatch]
  have hl : (startBatch n c b s).load.state = s.load.state := by
    simp [startBatch, stopIdleTimer, State.updRecord]
  generalize startBatch n c b s = t at *
  have harms : ∀ k, (t.arm k).inRun = (s.arm k).inRun := fun k => by
    by_cases hk : k = n
    · subst hk; rw [hn]; rfl
    · rw [ho k hk]
  have hmap : ∀ {β : Type} (f : PlanEntry → β), (∀ e, f (e.activated n) = f e) →
      t.plan.map f = s.plan.map f := fun f hf => by
    rw [hplan, List.map_map]; exact List.map_congr_left fun e _ => hf e
  refine ⟨⟨?_, ?_, fun k => ?_, fun e he => ?_, ?_⟩, fun hinj => injectorsSound_iff.mpr ⟨?_, ?_⟩,
    fun hres => ?_⟩
  · rw [hmap _ (PlanEntry.activated_arm n)]; exact ha
  · rw [hmap _ fun e => (PlanEntry.activated_rest n e).1]; exact hcs
  · have hall : (∀ e ∈ t.plan, e.arm ≠ k) ↔ ∀ e ∈ s.plan, e.arm ≠ k := by
      simp only [hplan, List.forall_mem_map, PlanEntry.activated_arm]
    rw [hall, harms k, ← hiff k]
    by_cases hk : k = n
    · subst hk; rw [hn]; simp [Arm.starting, Arm.clearFigures, hs]
    · rw [ho k hk]
  · rw [hplan, List.mem_map] at he
    obtain ⟨e, he, rfl⟩ := he
    obtain ⟨h1, h2, h3⟩ := hent e he
    rw [PlanEntry.activated_arm, (PlanEntry.activated_rest n e).2.1, harms,
      recipeProduct_congr hr hp]
    refine ⟨h1, ?_, h3⟩
    by_cases hk : e.arm = n
    · rw [EntryAgrees, PlanEntry.activated_state hk, PlanEntry.activated_arm, hk, hn]; rfl
    · rw [PlanEntry.activated_of_ne hk]
      exact h2.kept (w := w) (by rw [ho _ hk]; exact .refl _)
  · rw [meterRun_congr harms, hl]; exact hmeter
  · exact hinj.shots_elsewhere (Arm.not_inBatch (.inr hs)) hi ho
  · intro e he
    rw [hplan, List.mem_map] at he
    obtain ⟨e, he, rfl⟩ := he
    have hbound := (injectorsSound_iff.mp hinj).2 e he
    by_cases hk : e.arm = n
    · obtain ⟨hc, hrec, hpre, hres⟩ := PlanEntry.activated_rest n e
      obtain ⟨⟨basis, hbb⟩, -⟩ := hbound
      rw [hk, hb, Option.some.injEq] at hbb
      simp only [EntryBound, PlanEntry.activated_arm, hc, hrec, hpre, hres, hk, hn,
        recipe_congr hr]
      refine ⟨⟨basis, ?_⟩, fun _ r hr => ?_⟩
      · rw [← hbb]; exact hb
      · refine newComponents_names ?_
        rw [hbb]; exact hr
    · rw [PlanEntry.activated_of_ne hk]
      exact hbound.kept (w := w) (by rw [ho _ hk]; exact .refl _) (recipe_congr hr _)
  · rw [reservedSound_iff] at hres ⊢
    obtain ⟨h1, h2⟩ := hres
    have hby : ∀ d, t.reservedBy t.plan d = s.reservedBy s.plan d := fun d => by
      rw [reservedBy_congr fun e _ => recipeClass_congr hr hp e.recipe, hplan]
      exact reservedBy_activated ..
    refine ⟨fun a ha d => ?_, fun hne => ?_⟩
    · rw [hacc] at ha
      simp only [State.reservedFor, hpayer, hby]; exact h1 a ha d
    · rw [hpayer]
      simpa only [State.account, hacc] using h2 fun hs => hne (by rw [hplan, hs]; rfl)

/-- The start of a meter run on an IDLE arm in NO_LOAD. -/
theorem beginRun_step {s : State} {n : ArmId} (c : ArmConfig) (volume : Nat)
    (hs : (s.arm n).control.state = .idle) (hl : s.load.state = .noLoad)
    (hm : w.monitor.Allows n 0) : BayStep w s (s.updArm n (Arm.beginRun c volume)) := by
  refine ⟨id, fun k => armFit_of (k := n) (fun h => arm_updArm_of_ne _ _ h) ?_, fun h => ?_⟩
  · rw [arm_updArm_same]
    exact ⟨fun _ => Arm.safe_of_allowed rfl hm, fun h => Arm.starting_single h rfl rfl rfl, fun _ => id⟩
  obtain ⟨ha, hcs, hiff, hent, hmeter⟩ := id h
  obtain ⟨-, hno⟩ := h.idle_arm hs
  have ho : ∀ k, k ≠ n → (s.updArm n (Arm.beginRun c volume)).arm k = s.arm k :=
    fun k hk => arm_updArm_of_ne _ _ hk
  refine ⟨⟨ha, hcs, fun k => ?_, fun e he => ?_, fun _ => hl⟩,
    fun hi => injectorsSound_iff.mpr
      ⟨hi.shots_elsewhere (Arm.not_inBatch (.inl hs)) rfl ho, fun e he => ?_⟩,
    fun hres => hres.congr rfl rfl (.inr rfl) fun _ _ => rfl⟩
  · by_cases hk : k = n
    · subst hk
      rw [arm_updArm_same]
      simp [Arm.beginRun, Arm.starting, Arm.clearFigures, Arm.inRun]
    · rw [ho k hk]; exact hiff k
  · obtain ⟨h1, h2, h3⟩ := hent e he
    have hne := hno e he
    exact ⟨by rw [ho _ hne]; exact h1, h2.kept (w := w) (by rw [ho _ hne]; exact .refl _), h3⟩
  · exact ((injectorsSound_iff.mp hi).2 e he).kept (w := w) (by rw [ho _ (hno e he)]; exact .refl _) rfl

/-! ### Products and recipes -/

/-- A change of the tables that keeps the recipes of the plan and their products. -/
theorem tables_step {s t : State} (hl : t.load = s.load) (ha : t.arms = s.arms)
    (hi : t.injectors = s.injectors) (hb : t.accounts = s.accounts)
    (hr : PlanSound s → ∀ e ∈ s.plan, t.recipe e.recipe = s.recipe e.recipe)
    (hp : PlanSound s → ∀ e ∈ s.plan, t.recipeProduct e.recipe = s.recipeProduct e.recipe) :
    BayStep w s t := by
  refine ⟨fun ha => ha.congr hb, fun n => by simp only [State.arm, ha]; exact .refl _, fun h => ?_⟩
  obtain ⟨hn, hcs, hiff, hent, hmeter⟩ := id h
  have hplan : t.plan = s.plan := by simp only [State.plan, hl]
  have harm : ∀ n, t.arm n = s.arm n := fun n => by simp only [State.arm, ha]
  have hinj : ∀ i, t.injector i = s.injector i := fun i => by simp only [State.injector, hi]
  refine ⟨⟨by rw [hplan]; exact hn, by rw [hplan]; exact hcs,
    fun n => by rw [harm, hplan]; exact hiff n, fun e he => ?_, ?_⟩,
    fun hk => injectorsSound_iff.mpr ⟨fun i => ?_, fun e he => ?_⟩,
    fun hres => hres.congr hplan hb (.inr (by simp only [State.payer, hl])) fun e he => by
      simp only [State.recipeClass, hp h e he]⟩
  · rw [hplan] at he
    obtain ⟨h1, h2, h3⟩ := hent e he
    exact ⟨by rw [harm]; exact h1, h2.kept (w := w) (by rw [harm]; exact .refl _), by rw [hp h e he]; exact h3⟩
  · rw [meterRun_congr (s := s) (fun n => by rw [harm]), hl]; exact hmeter
  · rw [hinj]; exact (hk.ok i).uses fun r _ => by rw [harm]
  · rw [hplan] at he
    exact ((injectorsSound_iff.mp hk).2 e he).kept (w := w) (by rw [harm]; exact .refl _) (hr h e he)

/-- A replaced or added entry leaves the entries of other keys as they are. -/
theorem find?_replaceBy {α : Type} {same other : α → Bool} {x : α} {l : List α}
    (hx : other x = false) (hd : ∀ y, same y = true → other y = false) :
    (replaceBy same x l).find? other = l.find? other := by
  have hmap : (l.map fun e => if same e = true then x else e).find? other = l.find? other := by
    induction l with
    | nil => rfl
    | cons y l ih =>
      rw [List.map_cons, List.find?_cons, List.find?_cons, ih]
      cases hy : same y
      · simp
      · simp [hx, hd y hy]
  unfold replaceBy
  split
  · exact hmap
  · rw [List.find?_append]
    simp [hx]

theorem recipe_written {s : State} {r : Recipe} {code : Nat} (h : code ≠ r.code) :
    ({ s with recipes := replaceBy (·.code == r.code) r s.recipes } : State).recipe code
      = s.recipe code :=
  find?_replaceBy (by simpa using Ne.symm h) fun y hy => by
    simp only [beq_iff_eq] at hy
    simpa [hy] using Ne.symm h

theorem recipe_dropped {s : State} {code other : Nat} (h : other ≠ code) :
    ({ s with recipes := s.recipes.filter (·.code ≠ code) } : State).recipe other
      = s.recipe other := by
  simp only [State.recipe, List.find?_filter]
  congr 1
  funext r
  by_cases hr : r.code = other
  · simp [hr, h]
  · simp [hr]

theorem not_recipeInUse {s : State} {code : Nat} (h : s.recipeInUse code = false) :
    ∀ e ∈ s.plan, e.recipe ≠ code := by
  simpa [State.recipeInUse] using h

/-! ### Injectors -/

/-- An injector with a shot in flight is in use: its recipe stands in the plan (R138, R143). -/
theorem shot_injectorInUse {s : State} (h : PlanSound s) (hi : InjectorsSound s) {i : InjId}
    {r : Shot} (hr : (s.injector i).state = .shot r) : s.injectorInUse i = true := by
  obtain ⟨h1, -, h3⟩ := hi.ok i
  cases hc : (s.injector i).config with
  | none => rw [h1 hc] at hr; cases hr
  | some c =>
    obtain ⟨-, hu, -⟩ := h3 c r hc hr
    obtain ⟨hst, hrun, k, hk, rfl⟩ := Arm.uses_beyond hu
    obtain ⟨e, he, harm, -⟩ := h.planned (fun hn => by rw [hn] at hst; cases hst) hrun
    obtain ⟨-, -, -, hent, -⟩ := h
    obtain ⟨-, hag, hp⟩ := hent e he
    obtain ⟨-, hnames⟩ := (injectorsSound_iff.mp hi).2 e he
    have hact : e.state = .active := by
      cases hes : e.state with
      | active => rfl
      | armed => rw [EntryAgrees, hes, harm] at hag; rw [hag] at hst; cases hst
    cases hq : s.recipe e.recipe with
    | none => rw [State.recipeProduct, hq] at hp; cases hp
    | some q =>
      have hin : k.injector ∈ q.components.map (·.injector) := by
        rw [← hnames hact q hq, harm]; exact List.mem_map_of_mem hk
      obtain ⟨x, hx, hxi⟩ := List.mem_map.mp hin
      simp only [State.injectorInUse, Bool.or_eq_true, List.any_eq_true]
      exact .inr ⟨e, he, by rw [hq]; simpa [Recipe.names] using ⟨x, hx, hxi⟩⟩

theorem configure_step {s : State} {i : InjId} {c : InjectorConfig}
    (hu : s.injectorInUse i = false)
    (hc : 1 ≤ c.shotMl ∧ c.shotMl ≤ 500 ∧ 100 ≤ c.meterK ∧ c.meterK ≤ 100000) :
    BayStep w s (s.setInjector i ((s.injector i).configure c)) := by
  refine ⟨id, fun _ => .refl _, fun h =>
    ((BayKept.refl (w := w) s).setInjector fun hi => ?_).bound h⟩
  refine ⟨nofun, fun c' hc' => ?_, fun _ r _ hr => ?_⟩
  · cases hc'; exact hc
  · have := shot_injectorInUse h hi hr
    rw [hu] at this; cases this

/-! ### Identification -/

theorem identified_step {s t : State} (hs : LoadStateSound s) (hi : Identified s t) :
    BayStep w s t := by
  have hnone := hi.no_record hs
  have hempty : s.plan = [] := by simp [State.plan, hnone]
  have hplan : t.plan = s.plan := by
    rw [hempty]
    obtain ⟨-, -, hr, -⟩ | ⟨-, ⟨p, v, hr⟩, -⟩ := hi.after
    · simp [State.plan, hr, hnone]
    · simp [State.plan, hr, newLoad]
  have hacc : t.accounts = s.accounts := by rw [hi.rest]
  refine ⟨fun ha => ha.congr hacc, fun n => by rw [hi.rest]; exact .refl _, fun h => ?_⟩
  have hstate : t.load.state = .noLoad ∨ s.meterRun = false := by
    by_cases h0 : s.load.state = .noLoad
    · exact (hi.room h0).imp_right (·.2)
    · exact .inr (h.no_run h0)
  have hrest := hi.rest
  have hk : BayKept w s t := by
    refine ⟨hstate.imp_right .inr, hplan, hacc, .inl hempty, by rw [hrest], by rw [hrest],
      fun n => ?_, fun hj => ?_⟩
    · rw [hrest]; exact .refl _
    · rw [hrest]; exact (injectorsSound_iff.mp hj).1
  exact hk.bound h

/-! ### Rack stop and inputs -/

theorem rackStopCancel_step (s : State) : BayStep w s (rackStopCancel s) := by
  have hc : BayStep w s (forArms cancelArmed s) :=
    forArms_invariant (BayStep w s) cancelArmed (fun n _ hu => hu.trans (cancelArmed_step n _))
      (.refl s)
  simp only [rackStopCancel]
  split
  · exact hc.trans ((BayKept.refl _).planMayHaveEmptied).step
  · exact hc

theorem setRackStop_step (s : State) : BayStep w s (setRackStop s) := by
  have h0 : BayKept w s (recomputed (post .rackStop 0 0 0 { s with monitor.rackStop := true })) := by
    refine .recomputed (.post ?_ ..)
    exact .same rfl rfl rfl rfl rfl rfl
  simp only [setRackStop]
  exact (h0.step.trans (rackStopCancel_step _)).trans
    (((BayKept.refl _).forArms fun n u => (BayKept.refl u).rackStopHandOver _ n).forInjectors
      rackStopInjector_bayKept).step

theorem inputChanged_step (i : Input) (old v : Nat) (s : State) :
    BayStep w s (inputChanged i old v s) := by
  have hp := fun k a c v => (BayKept.refl (w := w) s).post k a c v
  unfold inputChanged
  split
  · exact (hp ..).recomputePermissive.step
  · exact (hp ..).recomputePermissive.step
  · exact (hp ..).recomputePermissive.step
  · split
    · exact (hp ..).step
    · dsimp only
      split
      · exact (hp ..).step
      · exact (hp ..).step.trans (setRackStop_step _)
  · dsimp only
    split
    · exact (hp ..).step
    · exact ((hp ..).loseCoupler _).step
  · dsimp only
    split
    · exact (hp ..).step
    · exact ((hp ..).loseCoupler _).step

end Sys2Proof.Machine
end

section
/-! Start-ups, every deed on the binding of arms, plan entries and injectors, and O60. -/

namespace Sys2Proof.Machine

variable {w : Scope}

/-! ### Start-ups -/

theorem warmReset_bayKept (address : Byte) (baud : BitVec 2) (s : State) :
    BayKept w s (warmReset address baud s) ∧
      ∀ i, ((warmReset address baud s).injector i).state = .idle := by
  have hw : ∀ u : State, u.load.state = s.load.state.warm → u.load.record = s.load.record →
      u.recipes = s.recipes → u.products = s.products → u.accounts = s.accounts →
      u.arms = s.arms.map Arm.warm →
      u.injectors = s.injectors.map Injector.warm →
      BayKept w s u ∧ ∀ i, (u.injector i).state = .idle := by
    intro u hl hr hrec hp hacc ha hi
    have hinj : ∀ i, u.injector i = (s.injector i).warm := fun i => by
      simp only [State.injector, hi, Bank6.get_map]
    refine ⟨⟨?_, by simp only [State.plan, hr], hacc, .inr (by simp only [State.payer, hr]), hrec, hp, fun n => ?_, fun hs i => ?_⟩,
      fun i => by rw [hinj]; rfl⟩
    · rw [hl]; cases s.load.state <;> simp [LoadState.warm]
    · simp only [State.arm, ha, Bank4.get_map]; exact Arm.warm_kept _
    · rw [hinj]
      exact ⟨fun _ => rfl, (hs.ok i).2.1, nofun⟩
  simp only [warmReset]
  split <;> exact hw _ rfl rfl rfl rfl rfl rfl rfl

/-- The close-out of an arm: its entry, if it has one, leaves the plan (R187). -/
theorem closeOutArm_unplanned {s : State} (h : PlanSound s) (n : ArmId) :
    Unplanned w n s (closeOutArm n s) := by
  have hle : ∀ {t : State}, Unplanned w n s t → Unplanned w n s (t.updArm n Arm.toIdle) := fun k => by
    refine ⟨k.state, k.plan, k.recipes, k.products, k.injectors,
      fun h' hr => (k.reserved h' hr).congr rfl rfl (.inr rfl) fun _ _ => rfl,
      by rw [arm_updArm_same]; rfl, by rw [arm_updArm_same]; rfl, fun m hm => ?_⟩
    rw [arm_updArm_of_ne _ _ hm]; exact k.others m hm
  simp only [closeOutArm]
  split
  · next hb =>
    simp only [Arm.interrupted, Arm.inBatch, Bool.and_eq_true, Bool.not_eq_true'] at hb
    obtain ⟨e, -, -, he⟩ := h.planned (fun hi => by rw [Arm.beyondArmed, hi] at hb; cases hb.1) hb.2
    have hrest := (makeLine_rest .interrupted n s).1
    exact makeLine_unplanned h he .interrupted rfl rfl (by rw [updArm_recipes, hrest])
      (by rw [updArm_products, hrest]) (by rw [updArm_injectors, hrest])
      (by rw [arm_updArm_same]; rfl) fun k hk => arm_updArm_of_ne _ _ hk
  · next hb =>
    split
    · next hr => exact toIdle_unplanned (h.run_unplanned hr)
    · next hr =>
      cases he : s.entryOf n with
      | none =>
        have hc : cancelArmed n s = s := by unfold cancelArmed; rw [he]
        rw [hc]
        exact toIdle_unplanned fun e hm => by simpa using List.find?_eq_none.mp he e hm
      | some e =>
        obtain ⟨hm, hn⟩ := entryOf_spec he
        obtain ⟨-, -, -, hent, -⟩ := h
        obtain ⟨-, hag, -⟩ := hent e hm
        cases hs : e.state with
        | armed => exact hle (cancelArmed_unplanned he hs)
        | active =>
          rw [EntryAgrees, hs, hn] at hag
          simp only [Arm.interrupted, Arm.inBatch, hag, Bool.true_and, Bool.not_eq_true',
            Bool.not_eq_false] at hb
          exact absurd hb hr

theorem closeOutArm_accounts {n : ArmId} {s : State} (h : AccountsSound s) :
    AccountsSound (closeOutArm n s) := by
  simp only [closeOutArm]
  split
  · exact (makeLine_accounts h .interrupted n).congr rfl
  · split
    · exact h.congr rfl
    · exact (cancelArmed_accounts (n := n) h).congr rfl

theorem closeOutArm_fit (n : ArmId) (s : State) (k : ArmId) :
    ArmFit w k (s.arm k) ((closeOutArm n s).arm k) := by
  simp only [closeOutArm]
  have hend : ∀ u : State, ArmFit w k (u.arm k) ((u.updArm n Arm.toIdle).arm k) := fun u =>
    armFit_of (k := n) (fun h => arm_updArm_of_ne _ _ h) (by rw [arm_updArm_same]; exact Arm.toIdle_fit _)
  refine ArmFit.trans ?_ (hend _)
  split
  · exact makeLine_fit .interrupted n s k
  · split
    · exact .refl _
    · exact cancelArmed_fit n s k

theorem closeOutArm_others (n : ArmId) (s : State) :
    ((closeOutArm n s).arm n).control.state = .idle
      ∧ ∀ k, k ≠ n → (closeOutArm n s).arm k = s.arm k := by
  simp only [closeOutArm]
  refine ⟨by rw [arm_updArm_same]; rfl, fun k hk => ?_⟩
  rw [arm_updArm_of_ne _ _ hk]
  split
  · exact (makeLine_rest _ n s).2.1 k hk
  · split
    · rfl
    · exact (cancelArmed_frame n s).2 k hk

/-- The arms after the close-out are IDLE. -/
theorem closeOut_idle (s : State) (n : ArmId) :
    ((forArms closeOutArm s).arm n).control.state = .idle := by
  refine forArms_each (R := fun _ => True) (Q := fun n u => (u.arm n).control.state = .idle)
    (fun _ _ _ => trivial) (fun n u _ => (closeOutArm_others n u).1) (fun n k u hu => ?_) trivial n
  by_cases hk : n = k
  · subst hk; exact (closeOutArm_others n u).1
  · rw [(closeOutArm_others k u).2 n hk]; exact hu

theorem PlanSound.plan_nil {s : State} (h : PlanSound s)
    (hi : ∀ n, (s.arm n).control.state = .idle) : s.plan = [] := by
  refine List.eq_nil_iff_forall_not_mem.mpr fun e he => ?_
  exact (h.idle_arm (hi e.arm)).2 e he rfl

theorem closeOutLoad_bayKept {s : State} (h : s.plan = []) : BayKept w s (closeOutLoad s) := by
  simp only [closeOutLoad]
  split
  · next r hr =>
    rw [storeNote_rest]
    exact ⟨.inl rfl, by rw [h]; rfl, rfl, .inl h, rfl, rfl, fun _ => .refl _, fun hi => (injectorsSound_iff.mp hi).1⟩
  · exact ⟨.inl rfl, rfl, rfl, .inr rfl, rfl, rfl, fun _ => .refl _, fun hi => (injectorsSound_iff.mp hi).1⟩

theorem closeOutLoad_accounts (s : State) : (closeOutLoad s).accounts = s.accounts := by
  simp only [closeOutLoad]
  split
  · rw [storeNote_rest]
  · rfl

theorem closeOutLoad_arm (s : State) (n : ArmId) : (closeOutLoad s).arm n = s.arm n := by
  simp only [closeOutLoad]
  split
  · rw [storeNote_rest]; rfl
  · rfl

theorem afterStartUp_bayKept (s : State) : BayKept w s (afterStartUp s) :=
  .of_arms rfl rfl rfl rfl rfl rfl rfl fun n => by
    simp only [afterStartUp, State.arm, Bank4.get_map]; exact .of rfl rfl rfl rfl id rfl rfl rfl rfl

theorem warmStart_step (address : Byte) (baud : BitVec 2) (s : State) :
    BayStep w s (warmStart address baud s) := by
  obtain ⟨hw, hidle⟩ := warmReset_bayKept (w := w) address baud s
  have hi : ∀ (l : List ArmId) (u : State),
      BayKept w u (l.foldl (fun s n => postInterrupted n s) u) := by
    intro l
    induction l with
    | nil => exact .refl
    | cons n l ih => exact fun u => (BayKept.post (.refl u) ..).trans (ih _)
  have hsealed : ∀ r u, BayKept w u (postSealed r u) := fun r u => by
    unfold postSealed
    split
    · exact .post (.refl u) ..
    · exact .refl u
  simp only [warmStart]
  generalize warmReset address baud s = v at *
  have hclose : BayStep w v (forArms closeOutArm v)
      ∧ ∀ i, ((forArms closeOutArm v).injector i).state = .idle := by
    refine forArms_invariant
      (fun u => BayStep w v u ∧ ∀ i, (u.injector i).state = .idle) closeOutArm
      (fun n u hu => ⟨hu.1.trans ⟨closeOutArm_accounts, closeOutArm_fit n u, fun h => ?_⟩,
        fun i => ?_⟩) ⟨.refl v, hidle⟩
    · refine (closeOutArm_unplanned (w := w) h n).bound h fun i r hr => ?_
      rw [hu.2] at hr; cases hr
    · rw [← hu.2 i]
      have hinj : (closeOutArm n u).injectors = u.injectors := by
        simp only [closeOutArm, updArm_injectors]
        split
        · rw [(makeLine_rest _ n u).1]
        · split
          · rfl
          · rw [(cancelArmed_frame n u).1]
      simp only [State.injector, hinj]
  refine hw.step.trans (hclose.1.trans ?_)
  have hload : BayStep w (forArms closeOutArm v) (closeOutLoad (forArms closeOutArm v)) :=
    ⟨fun h => h.congr (closeOutLoad_accounts _), fun n => by rw [closeOutLoad_arm]; exact .refl _,
      fun h => (closeOutLoad_bayKept (w := w) (h.plan_nil (closeOut_idle v))).bound h⟩
  exact hload.trans (((((BayKept.refl _).post ..).trans (hi _ _)).trans (hsealed _ _)).trans
    (afterStartUp_bayKept _)).step

theorem coldStart_sound (address : Byte) (baud : BitVec 2) (s : State) :
    PlanSound (coldStart address baud s) ∧ InjectorsSound (coldStart address baud s)
      ∧ AccountsSound (coldStart address baud s) ∧ ReservedSound (coldStart address baud s) := by
  have hbase : ∀ u : State, u.load = .cold → u.arms = .replicate .cold →
      u.injectors = .replicate .cold → u.accounts = [] →
      PlanSound u ∧ InjectorsSound u ∧ AccountsSound u ∧ ReservedSound u := by
    intro u hl ha hi hacc
    have hplan : u.plan = [] := by rw [State.plan, hl]; rfl
    have harm : ∀ n, u.arm n = .cold := fun n => by simp only [State.arm, ha, Bank4.get_replicate]
    have hinj : ∀ i, u.injector i = .cold := fun i => by
      simp only [State.injector, hi, Bank6.get_replicate]
    refine ⟨⟨by rw [hplan]; simp, by rw [hplan]; simp, fun n => ?_, by rw [hplan]; nofun, fun _ => ?_⟩,
      injectorsSound_iff.mpr ⟨fun i => ?_, by rw [hplan]; nofun⟩, ?_,
      reservedSound_iff.mpr ⟨by rw [hacc]; nofun, fun hne => absurd hplan hne⟩⟩
    · rw [harm, hplan]; simp [Arm.cold, Arm.inRun, ArmControl.cold]
    · rw [hl]; rfl
    · rw [hinj]; exact ⟨fun _ => rfl, nofun, nofun⟩
    · simp [AccountsSound, hacc]
  unfold coldStart
  obtain ⟨hp, hi, ha, hr⟩ := hbase { State.cold with
      port.station := address, port.baud := baud
      monitor := s.monitor.restart
      choices := s.choices, pending := s.pending } rfl rfl rfl rfl
  have hk : ∀ u, BayKept s.scope u (afterStartUp (post .coldStart 0 0 0 u)) := fun u =>
    ((BayKept.refl u).post ..).trans (afterStartUp_bayKept _)
  exact ⟨(hk _).planSound hp, (hk _).injectors hi, ha.congr (hk _).accounts, (hk _).reserved hr⟩

/-! ### Tables that the plan reads -/

theorem not_productInUse {s : State} {i : Fin 8} (h : s.productInUse i = false) :
    ∀ e ∈ s.plan, (s.recipe e.recipe).map (·.product) ≠ some i := by
  simp only [State.productInUse, Bool.or_eq_false_iff, List.any_eq_false, beq_iff_eq] at h
  exact h.2

theorem product_written {s : State} {i : Fin 8} {p : Product} {code : Nat}
    (h : (s.recipe code).map (·.product) ≠ some i) :
    ({ s with products := s.products.set i (some p) } : State).recipeProduct code
      = s.recipeProduct code := by
  change (s.recipe code).bind (fun r => (s.products.set i (some p)).get r.product)
    = (s.recipe code).bind fun r => s.products.get r.product
  cases hr : s.recipe code with
  | none => rfl
  | some r =>
    rw [hr] at h
    exact Bank8.get_set_of_ne _ _ fun he => h (congrArg some he)

theorem PlanSound.recipe_known {s : State} (h : PlanSound s) {e : PlanEntry} (he : e ∈ s.plan)
    {code : Nat} (hc : s.recipe code = none) : e.recipe ≠ code := by
  rintro rfl
  obtain ⟨-, -, -, hent, -⟩ := h
  obtain ⟨-, -, hp⟩ := hent e he
  rw [State.recipeProduct, hc] at hp; cases hp

/-! ### Account requests (R39 to R41) -/

/-- A change of the account table alone. -/
theorem accounts_step {s t : State} (ht : t = { s with accounts := t.accounts })
    (ha : AccountsSound s → AccountsSound t) (hr : ReservedSound s → ReservedSound t) :
    BayStep w s t := by
  refine ⟨ha, fun n => by rw [ht]; exact .refl _, fun h => ?_⟩
  have hk : BayKept w s { t with accounts := s.accounts } := by
    rw [ht]; exact .same rfl rfl rfl rfl rfl rfl
  exact ⟨hk.planSound h, hk.injectors, hr⟩

theorem accountHold_sound {s : State} (number : Nat) (hold : Bool) (h : AccountsSound s) :
    AccountsSound { s with accounts := s.accounts.map fun a =>
      if a.number = number then { a with hold := hold } else a } := by
  obtain ⟨hn, hs⟩ := h
  refine ⟨?_, fun a ha c => ?_⟩
  · rw [List.map_map, List.map_congr_left (g := (·.number)) fun a _ => ?_]
    · exact hn
    · simp only [Function.comp_apply]; split <;> rfl
  · obtain ⟨b, hb, rfl⟩ := List.mem_map.mp ha
    have := hs b hb c
    split <;> exact this

/-- A change of the accounts that leaves every number and every reserved total. -/
theorem ReservedSound.map_accounts {s : State} (h : ReservedSound s) {f : Account → Account}
    (hn : ∀ a, (f a).number = a.number)
    (hr : ∀ a c, ((f a).classes.get c).reserved = (a.classes.get c).reserved) :
    ReservedSound { s with accounts := s.accounts.map f } := by
  rw [reservedSound_iff] at h ⊢
  obtain ⟨h1, h2⟩ := h
  refine ⟨fun a ha c => ?_, fun hne => ?_⟩
  · obtain ⟨b, hb, rfl⟩ := List.mem_map.mp ha
    rw [hr, hn]; exact h1 b hb c
  · obtain ⟨n, hp, ha⟩ := h2 hne
    refine ⟨n, hp, ?_⟩
    rw [account_isSome] at ha ⊢
    obtain ⟨a, hm, rfl⟩ := List.mem_map.mp ha
    exact List.mem_map.mpr ⟨f a, List.mem_map_of_mem hm, hn a⟩

theorem accountHold_reserved {s : State} (number : Nat) (hold : Bool) (h : ReservedSound s) :
    ReservedSound { s with accounts := s.accounts.map fun a =>
      if a.number = number then { a with hold := hold } else a } :=
  h.map_accounts (fun a => by split <;> rfl) fun a c => by split <;> rfl

theorem accountNew_sound {s : State} {number : Nat} (hold : Bool) (hn : s.account number = none)
    (h : AccountsSound s) :
    AccountsSound { s with accounts := s.accounts ++ [newAccount number hold] } := by
  obtain ⟨hnd, hs⟩ := h
  refine ⟨?_, fun a ha c => ?_⟩
  · rw [List.map_append, List.nodup_append]
    refine ⟨hnd, by simp, fun x hx y hy => ?_⟩
    simp only [List.map_cons, List.map_nil, List.mem_singleton] at hy
    rintro rfl
    rw [hy] at hx
    have := account_isSome.mpr hx
    rw [newAccount, hn] at this; cases this
  · obtain ha | ha := List.mem_append.mp ha
    · exact hs a ha c
    · rw [List.mem_singleton.mp ha]
      simp [newAccount, Allocation.sound]

theorem accountNew_reserved {s : State} {number : Nat} (hold : Bool) (hn : s.account number = none)
    (h : ReservedSound s) :
    ReservedSound { s with accounts := s.accounts ++ [newAccount number hold] } := by
  rw [reservedSound_iff] at h ⊢
  obtain ⟨h1, h2⟩ := h
  refine ⟨fun a ha c => ?_, fun hne => ?_⟩
  · obtain ha | ha := List.mem_append.mp ha
    · exact h1 a ha c
    · rw [List.mem_singleton.mp ha]
      have hzero : s.reservedFor number c = 0 := by
        unfold State.reservedFor
        split
        · next hp =>
          have hnil : s.plan = [] := by
            by_contra hne
            obtain ⟨m, hm, ha⟩ := h2 hne
            rw [hp, Option.some.injEq] at hm
            rw [← hm, hn] at ha; cases ha
          rw [hnil]; rfl
        · rfl
      change _ = s.reservedFor number c
      rw [hzero]; simp [newAccount]
  · obtain ⟨n, hp, ha⟩ := h2 hne
    refine ⟨n, hp, ?_⟩
    rw [account_isSome] at ha ⊢
    rw [List.map_append]; exact List.mem_append_left _ ha

theorem allocate_sound {s : State} {number : Nat} {c : ClassId} {a : Account}
    (ha : s.account number = some a) (value : Nat) (h : AccountsSound s) :
    AccountsSound (s.updAllocation number c fun x =>
      { x with remaining := allocationTaken value (a.classes.get c).reserved }) := by
  refine h.updAllocation fun b hb hn => ?_
  rw [State.account, ← hn, find?_number h.1 hb, Option.some.injEq] at ha
  subst ha
  unfold allocationTaken Allocation.sound
  dsimp only
  split
  · next h =>
    split at h
    · cases h
    · cases h; exact Nat.le_max_right ..
  · trivial

theorem allocate_reserved {s : State} (number : Nat) (c : ClassId) (r : Remaining)
    (h : ReservedSound s) :
    ReservedSound (s.updAllocation number c fun x => { x with remaining := r }) := by
  refine h.map_accounts (fun a => by split <;> rfl) fun a d => ?_
  split
  · by_cases hd : d = c
    · subst hd; rw [Bank8.get_set_same]
    · rw [Bank8.get_set_of_ne _ _ hd]
  · rfl

theorem accountDrop_sound {s : State} (number : Nat) (h : AccountsSound s) :
    AccountsSound { s with accounts := s.accounts.filter (·.number ≠ number) } :=
  ⟨h.1.sublist (List.filter_sublist.map _), fun a ha => h.2 a (List.mem_of_mem_filter ha)⟩

theorem accountDrop_reserved {s : State} {number : Nat} (hl : LoadStateSound s)
    (hu : s.accountInUse number = false) (h : ReservedSound s) :
    ReservedSound { s with accounts := s.accounts.filter (·.number ≠ number) } := by
  rw [reservedSound_iff] at h ⊢
  obtain ⟨h1, h2⟩ := h
  refine ⟨fun a ha c => h1 a (List.mem_of_mem_filter ha) c, fun hne => ?_⟩
  obtain ⟨n, hp, ha⟩ := h2 hne
  refine ⟨n, hp, ?_⟩
  have hnn : n ≠ number := by
    rintro rfl
    have hrec : s.load.record.isSome = true := by
      simpa [State.payer] using congrArg Option.isSome hp
    have hst := hl.1.mp hrec
    have hp' : s.load.record.map (·.account) = some n := hp
    simp only [State.accountInUse, hp', beq_self_eq_true, Bool.and_true, Bool.or_eq_false_iff,
      decide_eq_false_iff_not] at hu
    exact hst.elim hu.1 hu.2
  rw [account_isSome] at ha ⊢
  obtain ⟨a, hm, rfl⟩ := List.mem_map.mp ha
  exact List.mem_map_of_mem (List.mem_filter.mpr ⟨hm, by simpa using hnn⟩)

/-! ### Every deed -/

/-! ### Arms that are configured, stopped and resumed -/

theorem Arm.configure_kept {n : ArmId} (c : ArmConfig) (overrun : Nat) {a : Arm}
    (hs : a.control.state = .idle) : ArmKept w n a (a.configure c overrun) := by
  refine ⟨rfl, rfl, rfl, rfl, id, fun _ d _ _ => ⟨rfl, fun hb => ?_⟩, fun _ => id⟩
  have : a.beyondArmed = true := hb
  rw [Arm.beyondArmed, hs] at this; cases this

/-- A valve that closes and a pump that stops are safe (R184). -/
theorem Arm.shut_kept {n : ArmId} (a : Arm) : ArmKept w n a a.shut :=
  .of rfl rfl rfl rfl (fun h => ⟨fun hf => ⟨rfl, rfl, (h.1 hf).2.2⟩, h.2⟩) rfl rfl rfl rfl

/-- The B total of a single-channel arm is not aligned (R92). -/
theorem Arm.align_single_ok {a : Arm} {c : ArmConfig} (hc : a.config = some c) (h : a.SingleOk) :
    (a.align c).SingleOk := by
  intro d hd hs
  obtain ⟨hp, hb⟩ := h d hd hs
  have hcd : c = d := by rw [← Option.some.injEq, ← hc]; exact hd
  refine ⟨hp, fun hbb => ?_⟩
  simp only [Arm.align, hcd, hs, if_true]
  exact hb hbb

theorem Arm.align_kept {n : ArmId} {a : Arm} {c : ArmConfig} (hc : a.config = some c) :
    ArmKept w n a (a.align c) :=
  ⟨rfl, rfl, rfl, rfl, id, align_single_ok hc, fun _ => id⟩

theorem Arm.resumed_kept {n : ArmId} {a : Arm} {c : ArmConfig} (hs : a.control.state = .held)
    (hc : a.config = some c) (hm : w.monitor.Allows n a.wantedCode) :
    ArmKept w n a ((a.align c).resumed c) := by
  refine ⟨by rw [hs]; rfl, rfl, rfl, rfl, fun _ => safe_of_allowed rfl hm, fun h => ?_, fun _ => id⟩
  refine (align_single_ok hc h).mono rfl rfl fun _ => ⟨?_, rfl⟩
  change a.control.state.beyondArmed = true
  rw [hs]; rfl

theorem startRefusal_allows {s : State} {n : ArmId} {b : Binding} (h : startRefusal s n b = none) :
    s.monitor.Allows n b.compartment := by
  unfold startRefusal at h
  split at h
  · cases h
  split at h
  · cases h
  next hd =>
  split at h
  · cases h
  next hc =>
  split at h
  · cases h
  split at h
  · cases h
  next hp => exact ⟨by simpa using hp, by simpa using hd, by simpa using hc⟩

theorem resumeRefusal_allows {s : State} {n : ArmId} (h : resumeRefusal s n = none) :
    s.monitor.Allows n (s.arm n).wantedCode := by
  unfold resumeRefusal at h
  dsimp only at h
  split at h
  · cases h
  next hp =>
  split at h
  · cases h
  next hd =>
  split at h
  · cases h
  next hc => exact ⟨by simpa using hp, by simpa using hd, by simpa using hc⟩

theorem runRefusal_none {s : State} {n : ArmId} (h : runRefusal s n = none) :
    s.load.state = .noLoad ∧ (s.arm n).control.state = .idle ∧ s.monitor.Allows n 0 := by
  unfold runRefusal at h
  split at h
  · cases h
  next hl =>
  split at h
  · cases h
  split at h
  · cases h
  next hs =>
  split at h
  · cases h
  split at h
  · cases h
  next hd =>
  split at h
  · cases h
  next hc =>
  split at h
  · cases h
  next hp => exact ⟨by simpa using hl, by simpa using hs, by simpa using hp, by simpa using hd,
    by simpa using hc⟩

theorem coldStart_arm (address : Byte) (baud : BitVec 2) (s : State) (n : ArmId) :
    (coldStart address baud s).arm n = Arm.cold.startSampling := by
  simp [coldStart, afterStartUp, State.arm, State.cold]

theorem coldStart_fit (address : Byte) (baud : BitVec 2) (s : State) (n : ArmId) :
    ArmFit w n (s.arm n) ((coldStart address baud s).arm n) := by
  rw [coldStart_arm]
  exact ⟨fun _ => Arm.safe_of_rest rfl ⟨rfl, rfl, rfl⟩ nofun, fun _ => nofun, fun _ _ => rfl⟩

/-- What a deed does to the accounts and the arms, and with a sound load record to the binding. -/
structure LoadStep (w : Scope) (s t : State) : Prop where
  accounts : AccountsSound s → AccountsSound t
  fit : ∀ n, ArmFit w n (s.arm n) (t.arm n)
  bound : LoadStateSound s → PlanSound s → Bound s t

theorem BayStep.load {s t : State} (k : BayStep w s t) : LoadStep w s t := ⟨k.accounts, k.fit, fun _ => k.bound⟩

theorem deed_loadStep {s t : State} (hm : w.monitor = s.monitor)
    (hroom : w.room → ∀ n, (s.arm n).totals.gross + (s.arm n).nextIncrement < 2 ^ 64)
    (d : Deed s t) : LoadStep w s t := by
  cases d with
  | identified hf hi =>
    refine ⟨fun h => h.congr (by rw [hf]), fun n => by rw [hf]; exact .refl _, fun hl => ?_⟩
    obtain rfl | hi := hi hl
    · exact (BayStep.refl (w := w) _).bound
    · exact (identified_step (w := w) hl hi).bound
  | plan load n compartment recipe request preset p hs hr hg => exact (acceptPlan_step hs hr hg).load
  | endOpen cause hs => exact (endOpenLoad_step cause hs).load
  | product i p hu =>
    refine BayStep.load ?_
    exact tables_step rfl rfl rfl rfl (fun _ _ _ => rfl) fun _ e he =>
      product_written (not_productInUse hu e he)
  | configure n c overrun hs => exact ((BayKept.refl s).updArm (Arm.configure_kept c overrun hs)).step.load
  | pulseB n c hc hs =>
    refine ((BayKept.refl s).updArm ⟨rfl, rfl, rfl, rfl, id, fun _ d hd hds => ?_, fun _ => id⟩).step.load
    have : c = d := by rw [← Option.some.injEq, ← hc]; exact hd
    rw [← this, hs] at hds; cases hds
  | curve n points | noResult n | pulseA n | closingTimer n =>
    refine ((BayKept.refl s).updArm ?_).step.load
    exact .of rfl rfl rfl rfl id rfl rfl rfl rfl
  | factor n point f => exact ((BayKept.refl s).updArm (.of rfl rfl rfl rfl id rfl rfl rfl rfl)).step.load
  | start n c b hs hb _ hr =>
    exact (startBatch_step c hs hb (by rw [hm]; exact startRefusal_allows hr)).load
  | beginRun n c volume _ hr =>
    obtain ⟨hl, hs, ha⟩ := runRefusal_none hr
    exact (beginRun_step c volume hs hl (by rw [hm]; exact ha)).load
  | stop n => exact ((BayKept.refl s).stopArmNow n).step.load
  | cancel n => exact ((cancelArmed_step n s).trans (BayKept.refl _).planMayHaveEmptied.step).load
  | abort n c hs hc =>
    have hk : BayKept w s (s.updArm n (Arm.align c)) := (BayKept.refl s).updArm (Arm.align_kept hc)
    exact (hk.enterClosing _ (hk.stage (by rw [hs]; rfl))).step.load
  | resume n c hs hc hr =>
    have hk : BayKept w s (s.updArm n fun a => (a.align c).resumed c) :=
      (BayKept.refl s).updArm (Arm.resumed_kept hs hc (by rw [hm]; exact resumeRefusal_allows hr))
    have hi : BayKept w s (stopIdleTimer (s.updArm n fun a => (a.align c).resumed c)) :=
      hk.trans (.of_arms rfl rfl rfl rfl rfl rfl rfl fun _ => .refl _)
    simp only [resumeBatch]
    exact ((hi.post ..).offerAll).step.load
  | sample n probe => exact (sampleArm_step n probe fun h => hroom h n).load
  | noFlow n => exact ((BayKept.refl s).enterHeld ..).step.load
  | trailingTimer n =>
    refine ((BayKept.refl s).updArm (.of rfl rfl rfl ?_ id rfl rfl rfl rfl)).step.load
    exact map_injector (fun k => by split <;> rfl) _
  | bay b =>
    refine (BayKept.recomputePermissive (s := s) ?_).step.load
    exact .same rfl rfl rfl rfl rfl rfl
  | rackCleared =>
    refine ((BayKept.post ?_ ..).recomputePermissive).step.load
    exact .same rfl rfl rfl rfl rfl rfl
  | window i v =>
    have hk : BayKept w s { s with monitor := s.monitor.setInput i ((s.monitor.input i).accept v) } :=
      .same rfl rfl rfl rfl rfl rfl
    exact (hk.step.trans (inputChanged_step _ _ _ _)).load
  | injector i c hu hc => exact (configure_step hu hc).load
  | faultCleared i c | provingEnded i p =>
    refine (((BayKept.refl s).idleInjector i ?_ ?_).offer i).step.load <;> rfl
  | recipe r _ hu =>
    have hr : ∀ e ∈ s.plan, _ := fun e he => recipe_written (s := s) (not_recipeInUse hu e he)
    refine BayStep.load ?_
    exact tables_step rfl rfl rfl rfl (fun _ => hr) fun _ e he =>
      congrArg (Option.bind · _) (hr e he)
  | recipeNew r hn =>
    have hr : PlanSound s → ∀ e ∈ s.plan, _ := fun h e he =>
      recipe_written (s := s) (h.recipe_known he hn)
    refine BayStep.load ?_
    exact tables_step rfl rfl rfl rfl hr fun h e he => congrArg (Option.bind · _) (hr h e he)
  | recipeDrop code hu =>
    have hr : ∀ e ∈ s.plan, _ := fun e he => recipe_dropped (s := s) (not_recipeInUse hu e he)
    refine BayStep.load ?_
    exact tables_step rfl rfl rfl rfl (fun _ => hr) fun _ e he =>
      congrArg (Option.bind · _) (hr e he)
  | proving i c hc =>
    refine ((BayKept.refl s).setInjector fun hi => ?_).step.load
    exact (hi.ok i).of_no_shot rfl nofun fun hn => by rw [hc] at hn; cases hn
  | proveShot i c p _ hp => exact (proving_bayKept hp _).step.load
  | meterK i c p new hc hp hk =>
    refine ((BayKept.refl s).setInjector fun hi => ?_).step.load
    refine ⟨nofun, fun c' hc' => ?_, fun _ _ _ hr => by cases hr⟩
    cases hc'
    obtain ⟨h1, h2, -⟩ := (hi.ok i).2.1 c hc
    simp only [meterKAccepted, Bool.and_eq_true, decide_eq_true_eq] at hk
    exact ⟨h1, h2, hk.1.2, hk.2⟩
  | additivePulse i => exact (takePulse_bayKept i s).step.load
  | shotTimer i => exact (shotTimeOut_bayKept i s).step.load
  | tailTimer i => exact (tailTimeOut_bayKept i s).step.load
  | proveTail i => exact (proveTailTimeOut_bayKept i s).step.load
  | stops supply =>
    have hk : BayKept w s (stopWork supply s) := by
      refine .of_arms rfl rfl rfl rfl rfl rfl rfl fun n => ?_
      rw [stopWork_arm]; exact Arm.shut_kept _
    exact hk.step.load
  | warm address baud => exact (warmStart_step address baud s).load
  | cold address baud =>
    obtain ⟨hp, hi, ha, hr⟩ := coldStart_sound address baud s
    exact ⟨fun _ => ha, coldStart_fit address baud s, fun _ _ => ⟨hp, fun _ => hi, fun _ => hr⟩⟩
  | accountHold number hold => 
    refine BayStep.load ?_
    exact accounts_step rfl (accountHold_sound number hold) (accountHold_reserved number hold)
  | accountNew number hold hn => 
    refine BayStep.load ?_
    exact accounts_step rfl (accountNew_sound hold hn) (accountNew_reserved hold hn)
  | allocate number c value a ha => 
    refine BayStep.load ?_
    exact accounts_step rfl (allocate_sound ha value) (allocate_reserved number c _)
  | accountDrop number a ha hu =>
    refine ⟨accountDrop_sound number, fun _ => .refl _, fun hl => ?_⟩
    refine BayStep.bound (w := w) ?_
    exact accounts_step rfl (accountDrop_sound number) (accountDrop_reserved hl hu)
  | noteReleased | rawInput =>
    refine BayStep.load ?_
    exact BayKept.step (.same rfl rfl rfl rfl rfl rfl)

/-- The load's record with its state and the binding of the plan, with `b` the injectors and with `r` the
reserved litres too. -/
def PlanBound (b r : Prop) (s : State) : Prop :=
  LoadStateSound s ∧ PlanSound s ∧ (b → InjectorsSound s) ∧ (r → ReservedSound s)

theorem PlanBound.after {b r : Prop} {s t : State} (h : PlanBound b r s) (hl : LoadStateSound t)
    (k : LoadStep w s t) : PlanBound b r t := by
  obtain ⟨hls, hp, hi, hr⟩ := h
  obtain ⟨hp', hi', hr'⟩ := k.bound hls hp
  exact ⟨hl, hp', fun hb => hi' (hi hb), fun hb => hr' (hr hb)⟩

theorem Deed.loadStep {s t : State} (d : Deed s t) : LoadStep s.scope s t :=
  deed_loadStep rfl False.elim d

theorem planBound_step {b r : Prop} {s t : State} (h : PlanBound b r s) (hs : step s = .next t) :
    PlanBound b r t :=
  step_invariant (P := PlanBound b r)
    (fun s h => h.after ((tick_loadKept s).loadState h.1) (tick_bayKept (w := s.scope) s).step.load)
    (fun {s _} q h => h.after (q.loadKept.loadState h.1) (q.bayKept (w := s.scope)).step.load)
    (fun h d => h.after (deed_keeps loadState_invariant h.1 d) d.loadStep) h hs

/-- Settles O60: an operation leaves an arm's part of its binding as it is (`BayKept`), takes an arm and
its entry out of the plan (`Unplanned`), or is an accepted plan, a start or a change of a table that the
plan does not read. -/
theorem everyStepKeepsThePlanBound : Obligations.EveryStepKeepsThePlanBound := by
  refine ⟨fun s t h hs => ?_, fun s t h hs => ?_⟩
  · obtain ⟨hl, hp⟩ := h
    obtain ⟨hl, hp, -⟩ := planBound_step (b := False) (r := False)
      ⟨hl, hp, False.elim, False.elim⟩ hs
    exact ⟨hl, hp⟩
  · obtain ⟨hl, hp, hi⟩ := h
    exact (planBound_step (b := True) (r := False) ⟨hl, hp, fun _ => hi, False.elim⟩ hs).2.2.1 trivial

/-- Settles O57: the accounts change with account requests, reservations, releases and charges alone, and
each of them moves the reserved litres of one class as it moves the plan. -/
theorem everyStepKeepsAccountsSound : Obligations.EveryStepKeepsAccountsSound := by
  refine ⟨fun s t h hs => ?_, fun s t hr hl hp hs => ?_⟩
  · exact step_invariant (P := AccountsSound) (fun s h => h.congr (tick_bayKept (w := s.scope) s).accounts)
      (fun q h => h.congr q.accounts) (fun h d => d.loadStep.accounts h) h hs
  · exact (planBound_step (b := False) (r := True) ⟨hl, hp, False.elim, fun _ => hr⟩ hs).2.2.2 trivial

end Sys2Proof.Machine
end

section
/-! Flow, totalizers and single channels over every step, and O56. -/

namespace Sys2Proof.Machine

variable {w : Scope}

/-! ### What the monitor reads -/

theorem setInput_input_same (m : Monitor) (i : Input) (d : Debounce) :
    (m.setInput i d).input i = d := by
  cases i <;> simp [Monitor.setInput, Monitor.input]

theorem setInput_input_of_ne (m : Monitor) {i k : Input} (d : Debounce) (h : k ≠ i) :
    (m.setInput i d).input k = m.input k := by
  cases i <;> cases k <;> simp [Monitor.setInput, Monitor.input] at h ⊢
  · exact Bank4.get_set_of_ne _ _ h
  · exact Bank4.get_set_of_ne _ _ h

@[simp] theorem setInput_permissiveOk (m : Monitor) (i : Input) (d : Debounce) :
    (m.setInput i d).permissiveOk = m.permissiveOk := by cases i <;> rfl

@[simp] theorem setInput_rackStop (m : Monitor) (i : Input) (d : Debounce) :
    (m.setInput i d).rackStop = m.rackStop := by cases i <;> rfl

theorem mem_inputs (i : Input) : i ∈ inputs := by
  cases i with
  | stow n => fin_cases n <;> decide
  | coupler n => fin_cases n <;> decide
  | _ => decide

theorem foldl_setInput_input (f : Input → Debounce → Debounce) {l : List Input} (h : l.Nodup)
    (m : Monitor) (i : Input) :
    (l.foldl (fun m i => m.setInput i (f i (m.input i))) m).input i
      = if i ∈ l then f i (m.input i) else m.input i := by
  induction l generalizing m with
  | nil => rfl
  | cons k l ih =>
    obtain ⟨hk, hl⟩ := List.nodup_cons.mp h
    rw [List.foldl_cons, ih hl]
    by_cases hi : i = k
    · subst hi; simp [hk, setInput_input_same]
    · simp [hi, setInput_input_of_ne _ _ hi]

/-- Every input's record after a change of all of them. -/
theorem mapInputs_input (f : Input → Debounce → Debounce) (m : Monitor) (i : Input) :
    (m.mapInputs f).input i = f i (m.input i) := by
  rw [Monitor.mapInputs, foldl_setInput_input f (by decide), if_pos (mem_inputs i)]

theorem mapInputs_latches (f : Input → Debounce → Debounce) (m : Monitor) :
    (m.mapInputs f).permissiveOk = m.permissiveOk ∧ (m.mapInputs f).rackStop = m.rackStop := by
  unfold Monitor.mapInputs
  induction inputs generalizing m with
  | nil => exact ⟨rfl, rfl⟩
  | cons k l ih =>
    obtain ⟨h1, h2⟩ := ih (m.setInput k (f k (m.input k)))
    exact ⟨h1.trans (setInput_permissiveOk ..), h2.trans (setInput_rackStop ..)⟩

/-- Two monitors that have accepted the same values. -/
def Monitor.Reads (m k : Monitor) : Prop := ∀ i, (k.input i).accepted = (m.input i).accepted

theorem Monitor.Reads.deployed {m k : Monitor} (h : m.Reads k) (n : ArmId) :
    k.deployed n = m.deployed n := congrArg (· == 1) (h (.stow n))

theorem Monitor.Reads.couplerCode {m k : Monitor} (h : m.Reads k) (n : ArmId) :
    k.couplerCode n = m.couplerCode n := h (.coupler n)

theorem Monitor.Reads.permissive {m k : Monitor} (h : m.Reads k) (hr : k.rackStop = m.rackStop)
    (v : Bool) : bayPermissiveOf k v = bayPermissiveOf m v := by
  have h1 : k.ground.accepted = m.ground.accepted := h .ground
  have h2 : k.overfill.accepted = m.overfill.accepted := h .overfill
  have h3 : k.vapour.accepted = m.vapour.accepted := h .vapour
  rw [bayPermissiveOf, bayPermissiveOf, h1, h2, h3, hr]

theorem mapInputs_reads {f : Input → Debounce → Debounce} (hf : ∀ i d, (f i d).accepted = d.accepted)
    (m : Monitor) : m.Reads (m.mapInputs f) := fun i => by rw [mapInputs_input, hf]

theorem Debounce.compare_accepted (i : Input) (d : Debounce) :
    (d.compare i).accepted = d.accepted := by
  unfold Debounce.compare Debounce.rawChange
  split
  · rfl
  · rfl

theorem Debounce.setLevels_accepted (i : Input) (levels : BitVec 4) (running : Bool) (d : Debounce) :
    (d.setLevels i levels running).accepted = d.accepted := by
  unfold Debounce.setLevels Debounce.rawChange
  dsimp only
  split
  · split <;> rfl
  · rfl

/-! ### Safe arms -/

theorem flowSafe_iff {s : State} :
    FlowSafe s ↔ s.monitor.permissiveOk = bayPermissiveOf s.monitor s.bay.vapourRequired
      ∧ ∀ n, (s.arm n).Safe s.monitor n := Iff.rfl

theorem Arm.Safe.of_not_flowing {m k : Monitor} {n : ArmId} {a : Arm} (h : a.Safe m n)
    (hf : a.flowing = false) : a.Safe k n := safe_of_rest hf (h.1 hf) h.2.2

theorem Arm.Safe.not_flowing {m : Monitor} {n : ArmId} {a : Arm} (h : a.Safe m n)
    (hm : m.permissiveOk = false) : a.flowing = false := by
  cases hf : a.flowing with
  | false => rfl
  | true =>
    have := (h.2.1 hf).1
    rw [hm] at this; cases this

/-- An arm stays safe under a monitor that allows what the other allowed. -/
theorem Arm.Safe.mono {m k : Monitor} {n : ArmId} {a : Arm} (h : a.Safe m n)
    (hp : k.permissiveOk = m.permissiveOk) (hd : k.deployed n = m.deployed n)
    (hc : k.couplerCode n = m.couplerCode n) : a.Safe k n :=
  ⟨h.1, fun hf => by rw [hp, hd, hc]; exact h.2.1 hf, h.2.2⟩

theorem FlowSafe.mono {s t : State} (h : FlowSafe s) (hb : t.bay = s.bay)
    (hr : s.monitor.Reads t.monitor) (hp : t.monitor.permissiveOk = s.monitor.permissiveOk)
    (hs : t.monitor.rackStop = s.monitor.rackStop)
    (ha : ∀ n, (t.arm n).Safe s.monitor n) : FlowSafe t :=
  ⟨by rw [hp, hr.permissive hs, hb]; exact h.1, fun n =>
    (ha n).mono hp (hr.deployed n) (hr.couplerCode n)⟩

/-- The monitor and the settings of the bay as they were, and the arms still safe. -/
theorem FlowSafe.kept {s t : State} (h : FlowSafe s) (ha : ∀ n, (t.arm n).Safe s.monitor n)
    (hm : t.monitor = s.monitor) (hb : t.bay = s.bay) : FlowSafe t :=
  h.mono hb (fun i => by rw [hm]) (by rw [hm]) (by rw [hm]) ha

/-! ### The bay permissive -/

theorem enterHeld_flowing (k : HoldCause) (n : ArmId) (s : State) :
    ((enterHeld k n s).arm n).flowing = false := by
  obtain ⟨-, e⟩ | ⟨h, e⟩ := enterHeld_cases k n s <;> rw [e]
  · rw [post_arm, arm_updArm_same]; rfl
  · exact h

theorem losePermissive_flowing (n : ArmId) (s : State) :
    ((losePermissive n s).arm n).flowing = false := by
  unfold losePermissive
  split
  · exact enterHeld_flowing ..
  · next h =>
    cases hf : (s.arm n).flowing with
    | false => rfl
    | true => exact absurd (ArmState.stage_beyond.mp (ArmState.beyond_of_flowing hf)) h

theorem BayKept.safe {s t : State} (k : BayKept w s t) {n : ArmId} (h : (s.arm n).Safe w.monitor n) :
    (t.arm n).Safe w.monitor n := (k.arms n).fit.safe h

/-- Once the permissive is recomputed flow is safe, when the arms were safe before. -/
theorem recomputePermissive_flowSafe {s : State} (h : ∀ n, (s.arm n).Safe s.monitor n) :
    FlowSafe (recomputePermissive s) := by
  have hrest := recomputePermissive_rest s
  refine flowSafe_iff.mpr ⟨by rw [hrest]; rfl, fun n => ?_⟩
  have hrec : ∀ k, ((recomputed s).arm k) = s.arm k := fun k => by rw [recomputed_rest]; rfl
  have hp : (recomputed s).monitor.permissiveOk = bayPermissiveOf s.monitor s.bay.vapourRequired := by
    rw [recomputed_rest]
  have hmon : (recomputePermissive s).monitor = { s.monitor with
      permissiveOk := bayPermissiveOf s.monitor s.bay.vapourRequired } := by rw [hrest]
  rw [hmon]
  simp only [recomputePermissive, hp]
  split
  · next hsame => rw [hsame, hrec]; exact h n
  · split
    · next hsame hok =>
      have hbefore : s.monitor.permissiveOk = false := by
        cases hb : s.monitor.permissiveOk with
        | false => rfl
        | true => rw [hok, hb] at hsame; exact absurd rfl hsame
      have hf := (h n).not_flowing hbefore
      have hk : BayKept s.scope (recomputed s) (offerAll (recomputed s)) := (BayKept.refl _).offerAll
      refine (hk.safe (by rw [hrec]; exact h n)).of_not_flowing ?_
      rw [Arm.flowing, (offerAll_frame _).arm n, hrec]; exact hf
    · next hsame hok =>
      set m : Monitor := { s.monitor with
        permissiveOk := bayPermissiveOf s.monitor s.bay.vapourRequired } with hm
      refine forArms_each (R := fun u => ∀ k, (u.arm k).Safe s.monitor k)
        (Q := fun n u => (u.arm n).Safe m n) (fun k u hu i => ?_) (fun k u hu => ?_)
        (fun i k u hu => ?_) (fun k => by rw [hrec]; exact h k) n
      · exact ((BayKept.refl (w := s.scope) u).losePermissive k).safe (hu i)
      · exact (((BayKept.refl (w := s.scope) u).losePermissive k).safe (hu k)).of_not_flowing
          (losePermissive_flowing k u)
      · exact ((BayKept.refl (w := ⟨m, False⟩) u).losePermissive k).safe hu

/-! ### The rack stop -/

/-- The monitor and the settings of the bay. -/
def State.monitoring (s : State) : Monitor × BaySettings := (s.monitor, s.bay)

theorem AdditiveFrame.monitoring {s t : State} (h : AdditiveFrame s t) :
    t.monitoring = s.monitoring := by rw [h]; rfl

theorem losePermissive_monitoring (n : ArmId) (s : State) :
    (losePermissive n s).monitoring = s.monitoring := by
  rw [(losePermissive_rest n s).1]; rfl

theorem rackStopArm_monitoring (n : ArmId) (s : State) :
    (rackStopArm n s).monitoring = s.monitoring := by
  rw [(rackStopArm_rest n s).1]; rfl

theorem rackStopHandOver_monitoring (lost : Bool) (n : ArmId) (s : State) :
    (rackStopHandOver lost n s).monitoring = s.monitoring := by
  unfold rackStopHandOver
  split
  · split
    · rw [rackStopArm_monitoring, losePermissive_monitoring]; rfl
    · rw [losePermissive_monitoring, rackStopArm_monitoring]; rfl
  · exact rackStopArm_monitoring n s

theorem cancelArmed_monitoring (n : ArmId) (s : State) :
    (cancelArmed n s).monitoring = s.monitoring := by rw [(cancelArmed_frame n s).1]; rfl

theorem planMayHaveEmptied_monitoring (s : State) :
    (planMayHaveEmptied s).monitoring = s.monitoring := by
  obtain ⟨-, e⟩ | ⟨-, e⟩ := planMayHaveEmptied_cases s <;> rw [e]; rfl

theorem rackStopCancel_monitoring (s : State) : (rackStopCancel s).monitoring = s.monitoring := by
  have h := forArms_keeps State.monitoring _ cancelArmed_monitoring s
  simp only [rackStopCancel]
  split
  · rw [planMayHaveEmptied_monitoring, h]
  · exact h

theorem rackStopArm_flowing (n : ArmId) (s : State) :
    ((rackStopArm n s).arm n).flowing = false := by
  unfold rackStopArm
  split
  · rw [(enterClosing_frame .aborted n s).2 nofun nofun, arm_updArm_same]
    unfold Arm.closedFor
    split <;> rfl
  · next h =>
    simp only [Bool.or_eq_true, not_or, Bool.not_eq_true] at h
    split
    · next hc => rw [Arm.flowing, arm_updArm_same, hc]; rfl
    · exact h.1

theorem rackStopHandOver_flowing (lost : Bool) (n : ArmId) (s : State) :
    ((rackStopHandOver lost n s).arm n).flowing = false := by
  unfold rackStopHandOver
  split
  · split
    · exact rackStopArm_flowing ..
    · exact losePermissive_flowing ..
  · exact rackStopArm_flowing ..

theorem setRackStop_flowSafe {s : State} (h : ∀ n, (s.arm n).Safe s.monitor n) :
    FlowSafe (setRackStop s) := by
  have hfalse : bayPermissiveOf { s.monitor with rackStop := true } s.bay.vapourRequired = false := by
    simp [bayPermissiveOf]
  simp only [setRackStop]
  set t := recomputed (post .rackStop 0 0 0 { s with monitor.rackStop := true }) with ht
  have htm : t.monitor = { s.monitor with rackStop := true, permissiveOk := false } := by
    rw [ht, recomputed_rest]; simp [hfalse]
  have htb : t.bay = s.bay := by rw [ht, recomputed_rest]; simp
  have hta : ∀ n, t.arm n = s.arm n := fun n => by rw [ht, recomputed_rest]; simp [State.arm]
  generalize (s.monitor.permissiveOk && !t.monitor.permissiveOk) = lost
  have hcancel : BayStep s.scope t (rackStopCancel t) := rackStopCancel_step t
  have hq : ∀ n, ((forArms (rackStopHandOver lost) (rackStopCancel t)).arm n).Safe t.monitor n :=
    fun n => by
      refine forArms_each (R := fun u => ∀ k, (u.arm k).Safe s.monitor k)
        (Q := fun n u => (u.arm n).Safe t.monitor n) (fun k u hu i => ?_) (fun k u hu => ?_)
        (fun i k u hu => ?_) (fun k => (hcancel.fit k).safe (by rw [hta]; exact h k)) n
      · exact ((BayKept.refl (w := s.scope) u).rackStopHandOver lost k).safe (hu i)
      · exact (((BayKept.refl (w := s.scope) u).rackStopHandOver lost k).safe (hu k)).of_not_flowing
          (rackStopHandOver_flowing lost k u)
      · exact ((BayKept.refl (w := t.scope) u).rackStopHandOver lost k).safe hu
  have hinj := (BayKept.refl (w := t.scope)
    (forArms (rackStopHandOver lost) (rackStopCancel t))).forInjectors rackStopInjector_bayKept
  have hview : (forInjectors rackStopInjector
      (forArms (rackStopHandOver lost) (rackStopCancel t))).monitoring = t.monitoring := by
    rw [forInjectors_keeps State.monitoring _ fun i u => (rackStopInjector_rest i u).monitoring,
      forArms_keeps State.monitoring _ (rackStopHandOver_monitoring lost),
      rackStopCancel_monitoring]
  obtain ⟨hm, hb⟩ := Prod.mk.inj hview
  refine flowSafe_iff.mpr ⟨?_, fun n => ?_⟩
  · rw [hm, hb, htb, htm]; exact hfalse.symm
  · rw [hm]; exact hinj.safe (hq n)

/-! ### Inputs -/

theorem loseCoupler_flowing {n : ArmId} {s : State} :
    ((loseCoupler n s).arm n).flowing = false := by
  unfold loseCoupler
  split
  · exact enterHeld_flowing ..
  · next h =>
    simp only [Bool.or_eq_true, not_or, Bool.not_eq_true] at h
    exact h.1

/-- An input other than the stow switch or coupler of an arm leaves the arm as safe as it was. -/
theorem safe_of_input {s : State} {i : Input} {d : Debounce} {n : ArmId}
    (h : (s.arm n).Safe s.monitor n) (hs : i ≠ .stow n) (hc : i ≠ .coupler n) :
    (s.arm n).Safe (s.monitor.setInput i d) n := by
  refine h.mono (setInput_permissiveOk ..) ?_ ?_
  · have := setInput_input_of_ne s.monitor d (k := .stow n) (Ne.symm hs)
    exact congrArg (fun e : Debounce => e.accepted == 1) this
  · have := setInput_input_of_ne s.monitor d (k := .coupler n) (Ne.symm hc)
    exact congrArg Debounce.accepted this

/-- A stow switch or coupler that no longer lets its arm flow (R114). -/
theorem loseCoupler_flowSafe {s : State} {n : ArmId}
    (hp : s.monitor.permissiveOk = bayPermissiveOf s.monitor s.bay.vapourRequired)
    (ho : ∀ k, k ≠ n → (s.arm k).Safe s.monitor k) {m : Monitor} (hn : (s.arm n).Safe m n) :
    FlowSafe (loseCoupler n s) := by
  obtain ⟨hrest, hothers⟩ := loseCoupler_rest n s
  have hm : (loseCoupler n s).monitor = s.monitor := by rw [hrest]
  have hb : (loseCoupler n s).bay = s.bay := by rw [hrest]
  refine flowSafe_iff.mpr ⟨by rw [hm, hb]; exact hp, fun k => ?_⟩
  rw [hm]
  by_cases hk : k = n
  · subst hk
    exact (((BayKept.refl (w := ⟨m, False⟩) s).loseCoupler k).safe hn).of_not_flowing
      loseCoupler_flowing
  · rw [hothers k hk]; exact ho k hk

theorem window_flowSafe {s : State} (h : FlowSafe s) (i : Input) (old v : Nat) :
    FlowSafe (inputChanged i old v
      { s with monitor := s.monitor.setInput i ((s.monitor.input i).accept v) }) := by
  obtain ⟨hp, ha⟩ := flowSafe_iff.mp h
  set m := s.monitor.setInput i ((s.monitor.input i).accept v) with hm
  have hpost : ∀ k a c d, ∀ n, ((post k a c d { s with monitor := m }).arm n) = s.arm n :=
    fun k a c d n => by rw [post_arm]; rfl
  cases i with
  | ground | overfill | vapour =>
    refine recomputePermissive_flowSafe fun n => ?_
    rw [hpost, post_monitor]
    exact safe_of_input (ha n) nofun nofun
  | estop =>
    have hs : ∀ k a c d, FlowSafe (post k a c d { s with monitor := m }) := fun k a c d => by
      refine flowSafe_iff.mpr ⟨?_, fun n => ?_⟩
      · rw [post_monitor, post_bay]; exact hp
      · rw [hpost, post_monitor]; exact safe_of_input (ha n) nofun nofun
    simp only [inputChanged]
    split
    · exact hs ..
    · split
      · exact hs ..
      · exact setRackStop_flowSafe (flowSafe_iff.mp (hs ..)).2
  | stow n =>
    set u := post .couplerChange (armNumber n) (0x0200 + v) old { s with monitor := m } with hu
    have hum : u.monitor = m := post_monitor ..
    have hpu : u.monitor.permissiveOk = bayPermissiveOf u.monitor u.bay.vapourRequired := by
      rw [hum, hu, post_bay]; exact hp
    have ho : ∀ k, k ≠ n → (u.arm k).Safe u.monitor k := fun k hk => by
      rw [hum, hu, hpost]
      exact safe_of_input (ha k) (fun e => hk (by cases e; rfl)) nofun
    change FlowSafe (if u.monitor.deployed n then u else loseCoupler n u)
    split
    · next hd =>
      refine flowSafe_iff.mpr ⟨hpu, fun k => ?_⟩
      by_cases hk : k = n
      · subst hk
        rw [hum] at hd ⊢
        rw [hu, hpost]
        obtain ⟨h1, h2, h3⟩ := ha k
        exact ⟨h1, fun hf => ⟨(h2 hf).1, hd, (h2 hf).2.2⟩, h3⟩
      · exact ho k hk
    · exact loseCoupler_flowSafe hpu ho (m := s.monitor) (by rw [hu, hpost]; exact ha n)
  | coupler n =>
    set u := post .couplerChange (armNumber n) (0x0100 + v) old { s with monitor := m } with hu
    have hum : u.monitor = m := post_monitor ..
    have hpu : u.monitor.permissiveOk = bayPermissiveOf u.monitor u.bay.vapourRequired := by
      rw [hum, hu, post_bay]; exact hp
    have ho : ∀ k, k ≠ n → (u.arm k).Safe u.monitor k := fun k hk => by
      rw [hum, hu, hpost]
      exact safe_of_input (ha k) nofun (fun e => hk (by cases e; rfl))
    change FlowSafe (if u.monitor.couplerCode n = (u.arm n).wantedCode then u else loseCoupler n u)
    split
    · next hc =>
      refine flowSafe_iff.mpr ⟨hpu, fun k => ?_⟩
      by_cases hk : k = n
      · subst hk
        rw [hum] at hc ⊢
        rw [hu, hpost] at hc ⊢
        obtain ⟨h1, h2, h3⟩ := ha k
        exact ⟨h1, fun hf => ⟨(h2 hf).1, (h2 hf).2.1, hc⟩, h3⟩
      · exact ho k hk
    · exact loseCoupler_flowSafe hpu ho (m := s.monitor) (by rw [hu, hpost]; exact ha n)

/-! ### Start-ups -/

theorem restart_input (m : Monitor) (i : Input) :
    m.restart.input i = (m.input i).restart i := by
  have h : m.restart.input i = (m.mapInputs Debounce.restart).input i := by
    unfold Monitor.restart
    generalize m.mapInputs Debounce.restart = k
    cases i <;> rfl
  rw [h, mapInputs_input]

theorem restart_permissive (m : Monitor) (v : Bool) :
    bayPermissiveOf (m.restart.mapInputs Debounce.compare) v = false := by
  have hg : ∀ k : Monitor, k.ground = k.input .ground := fun _ => rfl
  have hr : (m.restart.mapInputs Debounce.compare).ground.accepted = 0 := by
    rw [hg, mapInputs_input, Debounce.compare_accepted, restart_input]; rfl
  simp [bayPermissiveOf, hr]

theorem restart_latches (m : Monitor) :
    (m.restart.mapInputs Debounce.compare).permissiveOk = false
      ∧ (m.restart.mapInputs Debounce.compare).rackStop = false := mapInputs_latches _ _

/-- What stands after a warm start of the monitor and the bay, and the arms are IDLE (R126, R187). -/
theorem warmStart_monitoring (address : Byte) (baud : BitVec 2) (s : State) :
    (warmStart address baud s).monitor = s.monitor.restart.mapInputs Debounce.compare
      ∧ (warmStart address baud s).bay = s.bay
      ∧ ∀ n, ((warmStart address baud s).arm n).control.state = .idle := by
  have hw : (warmReset address baud s).monitoring = (s.monitor.restart, s.bay) := by
    simp only [warmReset]; split <;> rfl
  have hi : ∀ (l : List ArmId) (u : State),
      (l.foldl (fun s n => postInterrupted n s) u).monitoring = u.monitoring
        ∧ ∀ n, (l.foldl (fun s n => postInterrupted n s) u).arm n = u.arm n := by
    intro l
    induction l with
    | nil => exact fun u => ⟨rfl, fun _ => rfl⟩
    | cons n l ih =>
      intro u
      obtain ⟨h1, h2⟩ := ih (postInterrupted n u)
      refine ⟨h1.trans ?_, fun k => (h2 k).trans (post_arm ..)⟩
      simp [State.monitoring, postInterrupted]
  have hs : ∀ r u, (postSealed r u).monitoring = u.monitoring
      ∧ ∀ n, (postSealed r u).arm n = u.arm n := fun r u => by
    unfold postSealed
    split
    · exact ⟨by simp [State.monitoring], fun n => post_arm ..⟩
    · exact ⟨rfl, fun _ => rfl⟩
  have hclose : ∀ n u, (closeOutArm n u).monitoring = u.monitoring := fun n u => by
    simp only [closeOutArm]
    split
    · rw [(makeLine_rest _ n u).1]; rfl
    · split
      · rfl
      · exact cancelArmed_monitoring n u
  have hload : ∀ u, (closeOutLoad u).monitoring = u.monitoring := fun u => by
    simp only [closeOutLoad, State.monitoring]
    split
    · rw [storeNote_rest]
    · rfl
  simp only [warmStart]
  generalize hr : warmReset address baud s = r at *
  set z := postSealed r.load.record
    (((armIds.filter fun n => (r.arm n).interrupted).foldl (fun s n => postInterrupted n s)
      (post .powerRecovered 0 0 (armIds.filter fun n => (r.arm n).interrupted).length
        (closeOutLoad (forArms closeOutArm r))))) with hz
  have hzm : z.monitoring = (s.monitor.restart, s.bay) := by
    rw [hz, (hs _ _).1, (hi _ _).1]
    simp only [State.monitoring, post_monitor, post_bay]
    change (closeOutLoad (forArms closeOutArm r)).monitoring = _
    rw [hload, forArms_keeps State.monitoring _ hclose, hw]
  obtain ⟨hm, hb⟩ := Prod.mk.inj hzm
  refine ⟨by simp only [afterStartUp, hm], by simp only [afterStartUp, hb], fun n => ?_⟩
  have hzn : (z.arm n).control.state = .idle := by
    rw [hz, (hs _ _).2, (hi _ _).2, post_arm, closeOutLoad_arm]; exact closeOut_idle r n
  simp only [afterStartUp, State.arm, Bank4.get_map] at hzn ⊢
  exact hzn

theorem warmStart_flowSafe (address : Byte) (baud : BitVec 2) {s : State} (h : FlowSafe s) :
    FlowSafe (warmStart address baud s) := by
  obtain ⟨hm, hb, hidle⟩ := warmStart_monitoring address baud s
  refine flowSafe_iff.mpr ⟨?_, fun n => ?_⟩
  · rw [hm, restart_permissive, (restart_latches _).1]
  · refine (((warmStart_step (w := s.scope) address baud s).fit n).safe
      ((flowSafe_iff.mp h).2 n)).of_not_flowing ?_
    rw [Arm.flowing, hidle]; rfl

theorem coldStart_flowSafe (address : Byte) (baud : BitVec 2) (s : State) :
    FlowSafe (coldStart address baud s) := by
  have hm : (coldStart address baud s).monitor = s.monitor.restart.mapInputs Debounce.compare := by
    simp [coldStart, afterStartUp]
  refine flowSafe_iff.mpr ⟨?_, fun n => ?_⟩
  · rw [hm, restart_permissive, (restart_latches _).1]
  · rw [coldStart_arm]; exact Arm.safe_of_rest rfl ⟨rfl, rfl, rfl⟩ nofun

/-! ### Every deed -/

theorem enterClosing_monitoring (o : BatchOutcome) (n : ArmId) (s : State) :
    (enterClosing o n s).monitoring = s.monitoring := ((AdditiveFrame.refl s).closed o n).monitoring

theorem stopArmNow_monitoring (n : ArmId) (s : State) :
    (stopArmNow n s).monitoring = s.monitoring := by
  unfold stopArmNow
  split
  · exact enterClosing_monitoring ..
  · rfl

theorem resumeBatch_monitoring (n : ArmId) (c : ArmConfig) (s : State) :
    (resumeBatch n c s).monitoring = s.monitoring := by
  simp only [resumeBatch]
  rw [(offerAll_frame _).additive.monitoring]
  simp [State.monitoring]

theorem endOpenLoad_monitoring (cause : EndCause) (s : State) :
    (endOpenLoad cause s).monitoring = s.monitoring := by
  have he : ∀ n u, (endArm n u).monitoring = u.monitoring := fun n u => by
    unfold endArm
    split
    · split
      · exact cancelArmed_monitoring n u
      · exact stopArmNow_monitoring n u
    · rfl
  have hl : ∀ (l : LoadState) (u : State), (enterLoad l u).monitoring = u.monitoring := fun l u => by
    rw [enterLoad_rest]; rfl
  have hs : ∀ u : State, (sealLoad u).monitoring = u.monitoring := fun u => by
    rw [sealLoad_rest]; rfl
  rw [endOpenLoad_eq]
  dsimp only
  split
  · rw [hs, hl, forArms_keeps State.monitoring _ he]; rfl
  · rw [hl, forArms_keeps State.monitoring _ he]; rfl

theorem deed_flowSafe {s t : State} (h : FlowSafe s) (d : Deed s t) : FlowSafe t := by
  have hfit : ∀ n, (t.arm n).Safe s.monitor n := fun n =>
    (d.loadStep.fit n).safe ((flowSafe_iff.mp h).2 n)
  have kept : t.monitoring = s.monitoring → FlowSafe t := fun hm =>
    h.kept hfit (Prod.mk.inj hm).1 (Prod.mk.inj hm).2
  cases d with
  | identified hf => exact kept (by rw [hf]; rfl)
  | endOpen cause => exact kept (endOpenLoad_monitoring cause s)
  | start n c b => exact kept (by simp [State.monitoring, startBatch])
  | stop n => exact kept (stopArmNow_monitoring n s)
  | cancel n => exact kept ((planMayHaveEmptied_monitoring _).trans (cancelArmed_monitoring n s))
  | abort n c => exact kept (enterClosing_monitoring ..)
  | resume n c => exact kept (resumeBatch_monitoring n c s)
  | sample n probe => exact kept (by rw [sampleArm_rest]; rfl)
  | noFlow n => exact kept ((AdditiveFrame.refl s).held .noFlow n).monitoring
  | bay b =>
    refine recomputePermissive_flowSafe fun n => ?_
    exact (flowSafe_iff.mp h).2 n
  | rackCleared =>
    refine recomputePermissive_flowSafe fun n => ?_
    rw [post_arm, post_monitor]
    exact (flowSafe_iff.mp h).2 n
  | rawInput i levels =>
    refine h.mono rfl (fun k => ?_) (setInput_permissiveOk ..) (setInput_rackStop ..) hfit
    by_cases hk : k = i
    · subst hk; rw [setInput_input_same, Debounce.setLevels_accepted]
    · rw [setInput_input_of_ne _ _ hk]
  | window i v => exact window_flowSafe h i _ v
  | faultCleared i | provingEnded i => exact kept (offer_frame _ _).additive.monitoring
  | additivePulse i => exact kept (takePulse_additive i s).monitoring
  | shotTimer i => exact kept (shotTimeOut_additive i s).monitoring
  | tailTimer i => exact kept (tailTimeOut_additive i s).monitoring
  | proveTail i => exact kept (proveTailTimeOut_additive i s).monitoring
  | warm address baud => exact warmStart_flowSafe address baud h
  | cold address baud => exact coldStart_flowSafe address baud s
  | _ => exact kept rfl

/-- A step under a room for each arm's next sample. -/
theorem step_fit {s t : State} (hs : step s = .next t) (hm : w.monitor = s.monitor)
    (hroom : w.room → ∀ n, (s.arm n).totals.gross + (s.arm n).nextIncrement < 2 ^ 64) (n : ArmId) :
    ArmFit w n (s.arm n) (t.arm n) := by
  obtain rfl | q | ⟨u, v, q1, d, q2⟩ := step_cases hs
  · exact ((tick_bayKept s).arms n).fit
  · exact (q.bayKept.arms n).fit
  · have h := (deed_loadStep (w := w) (hm.trans q1.monitor.symm) (fun hr k => by
      rw [q1.arm]; exact hroom hr k) d).fit n
    rw [q1.arm] at h
    rw [q2.arm]; exact h

theorem tick_flowSafe {s : State} (h : FlowSafe s) : FlowSafe s.tick := by
  have hfit : ∀ n, (s.tick.arm n).Safe s.monitor n := fun n =>
    (tick_bayKept (w := s.scope) s).safe ((flowSafe_iff.mp h).2 n)
  have hm : s.tick.monitor = (if s.running then s.monitor.mapInputs fun _ => Debounce.tick
      else s.monitor) ∧ s.tick.bay = s.bay := by
    unfold State.tick
    split <;> exact ⟨rfl, rfl⟩
  obtain ⟨hm, hb⟩ := hm
  have hread := mapInputs_reads (f := fun _ => Debounce.tick) (fun _ _ => rfl) s.monitor
  obtain ⟨h1, h2⟩ := mapInputs_latches (fun _ => Debounce.tick) s.monitor
  split at hm
  · exact h.mono hb (by rw [hm]; exact hread) (by rw [hm, h1]) (by rw [hm, h2]) hfit
  · exact h.kept hfit hm hb

/-- Settles O56: an arm changes under an operation as its state allows (`ArmFit`), a flowing arm is held
or closed by what takes its leave away, and a sample alone moves the totalizers. -/
theorem everyStepKeepsFlowSafe : Obligations.EveryStepKeepsFlowSafe := by
  refine ⟨fun s t h hs => ?_, fun s t h hroom hs n => ?_, fun s t h hs n c => ?_⟩
  · exact step_invariant (P := FlowSafe) (fun _ h => tick_flowSafe h)
      (fun {s _} q h => h.kept (fun n => by rw [q.arm]; exact (flowSafe_iff.mp h).2 n) q.monitor q.bay)
      (fun h d => deed_flowSafe h d) h hs
  · exact (step_fit (w := ⟨s.monitor, True⟩) hs rfl (fun _ => hroom) n).totals trivial (h n)
  · exact (step_fit (w := s.scope) hs rfl False.elim n).single (h n) c

end Sys2Proof.Machine
end

section
/-! SUPPORT AND PROOF. Reset, the step, the frames and the line (chapter 1): the state after reset and the
invariants in it, a millisecond without a command, the checks that a frame meets before its owner, the
event queue, the reply and the silence timer. -/

namespace Sys2Proof.Machine

/-! ### Reset -/

@[simp] theorem reset_arm (n : ArmId) : State.reset.arm n = .cold := Bank4.get_replicate _ n

@[simp] theorem reset_injector (i : InjId) : State.reset.injector i = .cold :=
  Bank6.get_replicate _ i

/-- Settles O1: every record is the one that `State.cold` gives it, and each bank holds one record in
every place. -/
theorem resetLeavesColdStart : Obligations.ResetLeavesColdStart := by
  unfold Obligations.ResetLeavesColdStart
  refine ⟨rfl, rfl, rfl, rfl, rfl, rfl, rfl, rfl, rfl, rfl, rfl, rfl, rfl, rfl, rfl, rfl,
    Bank8.get_replicate _, rfl, fun n => ?arm, reset_injector, rfl, rfl, rfl, rfl, rfl, rfl, rfl⟩
  case arm => rw [reset_arm]; exact ⟨rfl, rfl, rfl, rfl, rfl, rfl⟩

/-- No load, no batch and no shot: every invariant about arms, plan and notes holds at reset. -/
theorem planSound_reset : PlanSound State.reset := by
  refine ⟨List.nodup_nil, List.nodup_nil, fun n => ?_, fun e he => absurd he List.not_mem_nil,
    fun _ => rfl⟩
  rw [reset_arm]
  exact ⟨fun _ => ⟨rfl, fun e he => absurd he List.not_mem_nil⟩, fun _ => rfl⟩

theorem injectorsSound_reset : InjectorsSound State.reset := by
  refine ⟨fun i _ => by rw [reset_injector]; rfl, fun i c h => ?_, fun i c r h _ => ?_,
    fun e he => absurd he List.not_mem_nil⟩ <;>
  · rw [reset_injector] at h
    cases h

theorem flowSafe_reset : FlowSafe State.reset := by
  refine ⟨rfl, fun n => ?_⟩
  rw [reset_arm]
  exact ⟨fun _ => ⟨rfl, rfl, rfl⟩, fun h => absurd h Bool.false_ne_true,
    fun h => absurd h Bool.false_ne_true⟩

/-- Settles O3: the tables, the plan and the store are empty and every arm and injector is cold. -/
theorem invariantsHoldAtReset : Obligations.InvariantsHoldAtReset := by
  unfold Obligations.InvariantsHoldAtReset
  refine ⟨flowSafe_reset, ⟨List.nodup_nil, fun a ha => absurd ha List.not_mem_nil⟩, ?port, ?console,
    ?load, ?notes, planSound_reset,
    ⟨fun a ha => absurd ha List.not_mem_nil, fun r hr => absurd hr nofun⟩,
    fun n => by rw [reset_arm]; rfl, ?single, injectorsSound_reset⟩
  case single =>
    intro n c h
    rw [reset_arm] at h
    cases h
  case port => unfold PortSound; decide
  case console => unfold ConsoleSound; decide
  case load => unfold LoadStateSound; decide
  case notes =>
    exact ⟨.nil, fun t ht => absurd ht List.not_mem_nil, fun r hr => absurd hr nofun, by decide,
      by decide⟩

/-! ### The step -/

theorem step_cons {c : Instr} {rest : List Instr} {s : State} (h : s.pending = c :: rest) :
    step s = exec c { s with pending := rest } := by
  unfold step; rw [h]

theorem step_nil {s : State} (h : s.pending = []) : step s = .next s.tick := by
  unfold step; rw [h]

theorem tick_of_not_running {s : State} (h : s.running = false) : s.tick = s := by
  rw [State.tick, h]; rfl

theorem tick_of_running {s : State} (h : s.running = true) :
    s.tick = { s with
      port.silence := s.port.silence.tick
      permit.referralTimer := s.permit.referralTimer.tick
      load.identTimer := s.load.identTimer.tick, load.idleTimer := s.load.idleTimer.tick
      arms := s.arms.map Arm.tick
      monitor := s.monitor.mapInputs fun _ => Debounce.tick
      injectors := s.injectors.map fun j => { j with state := j.state.tick } } := by
  rw [State.tick, h]; rfl

theorem Timer.tick_below {t : Timer} (hr : t.running = true) (h : t.elapsed < t.limit) :
    t.tick = { t with elapsed := t.elapsed + 1 } := by
  simp [Timer.tick, hr, h]

/-- Settles O2: the step by the queue, and a millisecond by whether the part runs; an arm's millisecond
touches its timers alone. -/
theorem stepRunsFrontCommandOrIdles : Obligations.StepRunsFrontCommandOrIdles := by
  unfold Obligations.StepRunsFrontCommandOrIdles
  refine ⟨fun _ _ _ h => step_cons h, fun _ h => step_nil h, fun s h => ?timers,
    fun _ => Timer.tick_below, fun s => ?records, fun _ h => tick_of_not_running h⟩
  case timers =>
    have arms : ∀ n, s.tick.arm n = (s.arm n).tick := tick_arm h
    simp only [arms]
    rw [tick_of_running h]
    exact ⟨rfl, rfl, rfl, rfl, fun _ => ⟨rfl, rfl, rfl⟩⟩
  case records =>
    cases h : s.running with
    | false => rw [tick_of_not_running h]; simp only [and_self, implies_true]
    | true =>
      have arms : ∀ n, s.tick.arm n = (s.arm n).tick := tick_arm h
      simp only [arms]
      rw [tick_of_running h]
      exact ⟨rfl, rfl, rfl, rfl, rfl, rfl, rfl, rfl, rfl, fun _ => ⟨rfl, rfl, rfl⟩⟩

/-! ### Meter pulses -/

theorem meterPulse_a {n : ArmId} {s : State} {c : ArmConfig} (hr : s.running = true)
    (hc : (s.arm n).config = some c) :
    exec (.meterPulse n .a) s
      = .next (s.updArm n fun a => { a with channel.pulsesA := a.channel.pulsesA + 1 }) := by
  simp only [exec, execMeterPulse, hr, hc, if_true]

theorem meterPulse_b {n : ArmId} {s : State} {c : ArmConfig} (hr : s.running = true)
    (hc : (s.arm n).config = some c) :
    exec (.meterPulse n .b) s
      = if c.singleChannel then .next s
        else .next (s.updArm n fun a => { a with channel.pulsesB := a.channel.pulsesB + 1 }) := by
  simp only [exec, execMeterPulse, hr, hc, if_true]

theorem meterPulse_unconfigured {n : ArmId} {s : State} (hr : s.running = true)
    (hc : (s.arm n).config = none) (ch : Channel) : exec (.meterPulse n ch) s = .next s := by
  simp only [exec, execMeterPulse, hr, hc, if_true]

/-- Settles O26: the counter of the channel on a configured arm, by the channel and the number of
channels. -/
theorem meterPulsesAreCounted : Obligations.MeterPulsesAreCounted := by
  unfold Obligations.MeterPulsesAreCounted
  refine fun n s hr => ⟨fun c hc => ⟨meterPulse_a hr hc, fun h => ?pair, fun h => ?single⟩,
    meterPulse_unconfigured hr⟩
  case pair => rw [meterPulse_b hr hc, if_neg (by rw [h]; exact Bool.false_ne_true)]; rfl
  case single => rw [meterPulse_b hr hc, if_pos h]

/-! ### Posting and replies -/

theorem post_room {s : State} (h : s.port.events.length < 32) (k : EventKind) (arm code value : Nat) :
    post k arm code value s = { s with
      port.events := s.port.events ++
        [{ kind := k, arm := arm, code := code, value := value, clock := s.port.clock }] } :=
  if_pos h

theorem post_full {s : State} (h : 32 ≤ s.port.events.length) (k : EventKind)
    (arm code value : Nat) : post k arm code value s = { s with port.overflow := true } :=
  if_neg (Nat.not_lt.mpr h)

theorem be_one (v : Nat) : be 1 v = [BitVec.ofNat 8 v] := rfl

theorem Answer.body_of_reason {a : Answer} {d : DenyReason} (h : a.reason = some d) :
    a.body = BitVec.ofNat 8 a.status.code :: BitVec.ofNat 8 d.code :: a.fields := by
  rw [Answer.body, h]; rfl

theorem Answer.body_of_no_reason {a : Answer} (h : a.reason = none) :
    a.body = BitVec.ofNat 8 a.status.code :: a.fields := by
  rw [Answer.body, h]; rfl

theorem Answer.body_head (a : Answer) : a.body.head? = some (BitVec.ofNat 8 a.status.code) := rfl

/-- A reply's kind is the request's plus 128 (R5): the sum fits its byte. -/
theorem replyTo_kind (station tag : Byte) {kind : Byte} (h : kind.toNat < 128) (a : Answer) :
    (replyTo station tag kind a).kind.toNat = kind.toNat + 128 := by
  change (BitVec.ofNat 8 (fit 8 (kind.toNat + 0x80))).toNat = _
  rw [fit_of_lt (by omega), BitVec.toNat_ofNat, Nat.mod_eq_of_lt (by omega)]

/-- Settles O4: a taken frame by the link state, a posting by the room in the queue, and the reply by its
fields. -/
theorem framesEventsAndReplies : Obligations.FramesEventsAndReplies := by
  unfold Obligations.FramesEventsAndReplies
  exact ⟨⟨frameTaken_up, frameTaken_lost⟩,
    fun k arm code value s => ⟨fun h => post_room h .., fun h => post_full h ..⟩,
    fun kind tag a s => ⟨rfl, replyTo s.port.station tag kind a, rfl, rfl, rfl,
      fun h => replyTo_kind _ _ h _, a.body_head, fun _ => Answer.body_of_reason,
      Answer.body_of_no_reason, rfl⟩⟩

/-! ### The checks before the owner -/

/-- Every request of fixed length is a form of its sizes. -/
theorem fixedRequest_form {r : FixedRequest} (hr : r ∈ fixedRequests) :
    ∃ owner, ∀ f s, exec (r.command f) s = takeRequest r.kind (fixedForm r.sizes owner) f s := by
  revert r
  simp only [fixedRequests, List.forall_mem_cons, List.not_mem_nil, false_implies, implies_true,
    and_true]
  and_intros <;> exact ⟨_, fun _ _ => rfl⟩

/-- Every request of variable length is a form of its count. -/
theorem countedRequest_form {r : CountedRequest} (hr : r ∈ countedRequests) :
    ∃ owner, ∀ f s, exec (r.command f) s
      = takeRequest r.kind (countedForm r.offset r.width r.most r.sizes owner) f s := by
  revert r
  simp only [countedRequests, List.forall_mem_cons, List.not_mem_nil, false_implies, implies_true,
    and_true]
  and_intros <;> exact ⟨_, fun _ _ => rfl⟩

/-- Settles O5: each request is a form, and a form answers a wrong length and a wrong count itself. -/
theorem framesAreCheckedBeforeTheOwner : Obligations.FramesAreCheckedBeforeTheOwner := by
  unfold Obligations.FramesAreCheckedBeforeTheOwner
  refine ⟨⟨fun r hr f s h => ?fixedInvalid, fun r hr f s h => ?countedInvalid⟩,
    fun r hr f s h hlen => ?fixedLength, fun r hr f s h => ⟨fun hlen => ?short, fun hlen hn => ?count,
      fun hlen h1 hm hsum => ?countedLength⟩,
    fun kind f s => ⟨fun hk h => ?unknown, fun hk h => ?unknownInvalid, fun hk => ?known⟩⟩
  case fixedInvalid =>
    obtain ⟨owner, he⟩ := fixedRequest_form hr
    rw [he, takeRequest_invalid h]
  case countedInvalid =>
    obtain ⟨owner, he⟩ := countedRequest_form hr
    rw [he, takeRequest_invalid h]
  case fixedLength =>
    obtain ⟨owner, he⟩ := fixedRequest_form hr
    rw [he, takeRequest_valid h, fixedForm_length hlen, refuse]
  case short =>
    obtain ⟨owner, he⟩ := countedRequest_form hr
    rw [he, takeRequest_valid h, countedForm_short hlen, refuse]
  case count =>
    obtain ⟨owner, he⟩ := countedRequest_form hr
    rw [he, takeRequest_valid h, countedForm_count hlen hn, refuse]
  case countedLength =>
    obtain ⟨owner, he⟩ := countedRequest_form hr
    rw [he, takeRequest_valid h, countedForm_fixed hlen h1 hm, fixedForm_length hsum, refuse]
  case unknown =>
    rw [exec, execUnknownKind, if_neg (by rw [hk]; exact Bool.false_ne_true), takeRequest_valid h,
      refuse]
  case unknownInvalid =>
    rw [exec, execUnknownKind, if_neg (by rw [hk]; exact Bool.false_ne_true), takeRequest_invalid h]
  case known => rw [exec, execUnknownKind, if_pos hk]

/-! ### The line and the silence timer -/

theorem receiverHunts_running {s : State} (h : s.running = true) :
    receiverHunts s = { s with port.receiver := .hunting } := if_pos h

/-- A frame for another address or with another check is not valid (R1). -/
theorem validFrame_discarded {s : State} {kind : Byte} {f : Frame}
    (h : f.address ≠ s.port.station ∨ f.check ≠ frameCheck f.address f.tag kind f.body) :
    validFrame s kind f = false := by
  obtain h | h := h <;> simp [validFrame, h]

theorem linkLost_of_none {s : State} (h : s.permit.referral.pendingCard = none) :
    linkLost s = s := by
  unfold linkLost
  cases hr : s.permit.referral with
  | pending c r => rw [hr] at h; cases h
  | empty => rfl
  | expired c => rfl

theorem linkLost_of_pending {s : State} {c : Nat} {reason : ReferralReason}
    (h : s.permit.referral = .pending c reason) :
    linkLost s = denyIdentification .noHost c (endReferral .empty s) := by
  rw [linkLost, h]

theorem exec_silenceTimerExpiry {s : State} (hr : s.running = true)
    (ht : s.port.silence.running = true) (hl : s.port.link = .up) :
    exec .silenceTimerExpiry s = .next (linkLost (post .linkLost 0 0 s.port.silenceLimit
      { s with port.link := .lost, port.silence := .stopped })) := by
  rw [exec, execSilenceTimerExpiry, hr, ht, hl]; rfl

/-- Settles O6: the receiver's commands return it to HUNTING, and the expiry is the loss of the link, by
whether a referral is pending. -/
theorem theLineAndTheSilenceTimer : Obligations.TheLineAndTheSilenceTimer := by
  unfold Obligations.TheLineAndTheSilenceTimer
  refine ⟨⟨fun s hr hn => ?lead, fun s hr => ?hunts, fun kind f s hr h => ?discarded,
    fun s => ⟨rfl, Bool.and_false _⟩⟩,
    fun s hr ht hl => ⟨fun hn => ?none, fun c reason hp => ?pending⟩⟩
  case lead => rw [exec, execLeadByteReceived, State.listening, hr, hn]; rfl
  case hunts =>
    have h := receiverHunts_running hr
    exact ⟨congrArg Host.Outcome.next h, congrArg Host.Outcome.next h, congrArg Host.Outcome.next h⟩
  case discarded =>
    rw [exec, execDiscardedFrame, validFrame_discarded h, receiverHunts_running hr]; rfl
  case none => rw [exec_silenceTimerExpiry hr ht hl, linkLost_of_none (by rw [post_permit]; exact hn)]
  case pending =>
    rw [exec_silenceTimerExpiry hr ht hl, linkLost_of_pending (by rw [post_permit]; exact hp),
      endReferral]

end Sys2Proof.Machine
end

section
/-! SUPPORT AND PROOF. The numbers that name an arm, an injector, a product, a class, a card, a vehicle, an
account or a recipe: a request with one outside its range is refused by its owner, whatever the state. -/

namespace Sys2Proof.Machine

/-- A valid request of fixed length is answered with what its owner gives. -/
theorem fixed_done {kind : Byte} {ws : List Nat} {owner : List Nat → Owner} {f : Frame} {s t : State}
    {vs : List Nat} {a : Answer} (h : validFrame s kind f = true) (hr : readFields ws f.body = some vs)
    (ho : owner vs (frameTaken s) = (t, a)) :
    takeRequest kind (fixedForm ws owner) f s = answered kind f a t := by
  rw [fixed_answered h hr, ho]

/-- A valid request of variable length is answered with what its owner gives. -/
theorem counted_done {kind : Byte} {offset width most n : Nat} {ws : Nat → List Nat}
    {owner : List Nat → Owner} {f : Frame} {s t : State} {vs : List Nat} {a : Answer}
    (h : validFrame s kind f = true) (hlen : offset + width ≤ f.body.length)
    (hcount : beNat ((f.body.drop offset).take width) = n) (h1 : 1 ≤ n) (hmost : n ≤ most)
    (hr : readFields (ws n) f.body = some vs) (ho : owner vs (frameTaken s) = (t, a)) :
    takeRequest kind (countedForm offset width most ws owner) f s = answered kind f a t := by
  rw [counted_answered h hlen hcount h1 hmost hr, ho]

section Arms
variable {v : Nat} (hv : v = 0 ∨ 4 < v) (s : State)
include hv

theorem getArm_badArm : getArm v s = (s, .refused .badValue) := by rw [getArm, armOf_none hv]

theorem getTotals_badArm : getTotals v s = (s, .refused .badValue) := by rw [getTotals, armOf_none hv]

theorem startArm_badArm : startArm v s = (s, .refused .badValue) := by rw [startArm, armOf_none hv]

theorem stopArm_badArm : stopArm v s = (s, .refused .badValue) := by rw [stopArm, armOf_none hv]

theorem resumeArm_badArm : resumeArm v s = (s, .refused .badValue) := by rw [resumeArm, armOf_none hv]

theorem beginMeterRun_badArm (volume : Nat) : beginMeterRun v volume s = (s, .refused .badValue) := by
  rw [beginMeterRun, armOf_none hv]

theorem meterResult_badArm (point prover : Nat) :
    meterResult v point prover s = (s, .refused .badValue) := by rw [meterResult, armOf_none hv]

theorem putArm_badArm (config : Option ArmConfig) (overrun : Nat) :
    putArm v config overrun s = (s, .refused .badValue) := by
  unfold putArm; rw [armOf_none hv]

theorem putMeterCurve_badArm (points : List CurvePoint) :
    putMeterCurve v points s = (s, .refused .badValue) := by rw [putMeterCurve, armOf_none hv]

end Arms

section Injectors
variable {v : Nat} (hv : v = 0 ∨ 6 < v) (s : State)
include hv

theorem getInjector_badInjector : getInjector v s = (s, .refused .badValue) := by
  rw [getInjector, injectorOf_none hv]

theorem clearInjectorFault_badInjector : clearInjectorFault v s = (s, .refused .badValue) := by
  rw [clearInjectorFault, injectorOf_none hv]

theorem beginInjectorProving_badInjector : beginInjectorProving v s = (s, .refused .badValue) := by
  rw [beginInjectorProving, injectorOf_none hv]

theorem proveShot_badInjector : proveShot v s = (s, .refused .badValue) := by
  rw [proveShot, injectorOf_none hv]

theorem injectorResult_badInjector (total : Nat) :
    injectorResult v total s = (s, .refused .badValue) := by rw [injectorResult, injectorOf_none hv]

theorem putInjector_badInjector (config : Option InjectorConfig) :
    putInjector v config s = (s, .refused .badValue) := by
  unfold putInjector; rw [injectorOf_none hv]

end Injectors

theorem putProduct_badIndex {v : Nat} (hv : v = 0 ∨ 8 < v) (p : Option Product) (s : State) :
    putProduct v p s = (s, .refused .badValue) := by
  unfold putProduct; rw [productIndexOf_none hv]

/-- END PROVING's subject is 0 or 1 and its number one of the subject's. -/
theorem endProving_badValue {v w : Nat}
    (h : 1 < v ∨ w = 0 ∨ (v = 0 ∧ 4 < w) ∨ (v = 1 ∧ 6 < w)) (s : State) :
    endProving v w s = (s, .refused .badValue) := by
  unfold endProving
  match v with
  | 0 => rw [armOf_none (by omega)]; cases injectorOf w <;> rfl
  | 1 => rw [injectorOf_none (by omega)]; cases armOf w <;> rfl
  | v + 2 => rfl

theorem classOf_none {v : Nat} (h : 7 < v) : classOf v = none := by simp [classOf]; omega

theorem setAllocation_badNumber {v c : Nat} (h : v = 0 ∨ 7 < c) (x : Nat) (s : State) :
    setAllocation v c x s = (s, .refused .badValue) := by
  unfold setAllocation
  cases hc : classOf c with
  | none => rfl
  | some k =>
    have hv : v = 0 := h.resolve_right fun h7 => by rw [classOf_none h7] at hc; cases hc
    exact if_pos (.inl hv)

theorem cardInRange_iff {card : Nat} : cardInRange card = true ↔ 1 ≤ card ∧ card < 2 ^ 40 := by
  simp [cardInRange]

theorem cardInRange_zero : cardInRange 0 = false := rfl

theorem vehicleInRange_iff {number : Nat} :
    vehicleInRange number = true ↔ 1 ≤ number ∧ number ≤ 999999 := by simp [vehicleInRange]

theorem vehicleInRange_none {v : Nat} (h : v = 0 ∨ 999999 < v) : vehicleInRange v = false := by
  simp [vehicleInRange]; omega

theorem getVehicle_badNumber {v : Nat} (h : v = 0 ∨ 999999 < v) (s : State) :
    getVehicle v s = (s, .refused .badValue) := by rw [getVehicle, vehicleInRange_none h]; rfl

theorem dropVehicle_badNumber {v : Nat} (h : v = 0 ∨ 999999 < v) (s : State) :
    dropVehicle v s = (s, .refused .badValue) := by rw [dropVehicle, vehicleInRange_none h]; rfl

/-- Settles O8: each request reads its number, and its owner refuses one outside the range before it looks
at the state. -/
theorem numbersOutOfRangeAreRefused : Obligations.NumbersOutOfRangeAreRefused := by
  unfold Obligations.NumbersOutOfRangeAreRefused
  intro f s v
  refine ⟨fun hr hv => ⟨fun h => fixed_done h hr (getArm_badArm hv _),
      fun h => fixed_done h hr (getTotals_badArm hv _),
      fun h => fixed_done h hr (startArm_badArm hv _),
      fun h => fixed_done h hr (stopArm_badArm hv _),
      fun h => fixed_done h hr (resumeArm_badArm hv _)⟩,
    fun hr hv => ⟨fun h => fixed_done h hr (getInjector_badInjector hv _),
      fun h => fixed_done h hr (clearInjectorFault_badInjector hv _),
      fun h => fixed_done h hr (beginInjectorProving_badInjector hv _),
      fun h => fixed_done h hr (proveShot_badInjector hv _)⟩,
    fun rest h hr hv => ?run, fun rest h hr hv => ?result, fun rest h hr hv => ?injectorResult,
    fun w h hr hv => fixed_done h hr (endProving_badValue hv _), fun rest h hr hv => ?product,
    fun rest h hr hv => ?arm, fun rest h hr hv => ?injector,
    fun m rest h hlen hm h1 h4 hr hv => ?curve,
    fun c x h hr hv => fixed_done h hr (setAllocation_badNumber hv x _),
    fun hr => ⟨fun hv => ⟨fun h => fixed_done h hr (if_pos hv),
        fun h => fixed_done h hr (if_pos hv)⟩,
      fun hv => ⟨fun h => fixed_done h hr (dropVehicle_badNumber hv _),
        fun h => fixed_done h hr (getVehicle_badNumber hv _)⟩⟩,
    fun hr hv => ⟨fun h => fixed_done h hr (if_pos (by rw [hv]; rfl)),
      fun h => fixed_done h hr (if_pos (by rw [hv]; rfl))⟩,
    fun hr hv h => fixed_done h hr (if_pos hv)⟩
  case run =>
    match rest, (readFields_length hr).2 with
    | [_], _ => exact fixed_done h hr (beginMeterRun_badArm hv _ _)
  case result =>
    match rest, (readFields_length hr).2 with
    | [_, _], _ => exact fixed_done h hr (meterResult_badArm hv _ _ _)
  case injectorResult =>
    match rest, (readFields_length hr).2 with
    | [_], _ => exact fixed_done h hr (injectorResult_badInjector hv _ _)
  case product =>
    match rest, (readFields_length hr).2 with
    | [_, _, _, _, _, _, _, _, _], _ => exact fixed_done h hr (putProduct_badIndex hv _ _)
  case arm =>
    match rest, (readFields_length hr).2 with
    | [_, _, _, _, _, _, _, _, _, _, _, _, _], _ => exact fixed_done h hr (putArm_badArm hv _ _ _)
  case injector =>
    match rest, (readFields_length hr).2 with
    | [_, _, _, _, _, _, _, _, _, _, _], _ =>
      exact fixed_done h hr (putInjector_badInjector hv _ _)
  case curve =>
    exact counted_done (ws := fun n => [1, 1] ++ (List.replicate n [2, 2]).flatten) h hlen hm h1 h4 hr
      (putMeterCurve_badArm hv _ _)

end Sys2Proof.Machine
end

section
/-! SUPPORT AND PROOF. The clock, the settings, and the requests that write and drop an entry of the
driver, vehicle, account and recipe tables (R14 to R20, R23, R36, R41, R52, R142). -/

namespace Sys2Proof.Machine

/-! ### Clock and settings -/

theorem writeClock_sameDay {s : State} {v : BitVec 32}
    (h : v.toNat / 86400 = s.port.clock.toNat / 86400) :
    writeClock v s = { s with port.clock := v } := if_pos h

theorem writeClock_newDay {s : State} {v : BitVec 32}
    (h : v.toNat / 86400 ≠ s.port.clock.toNat / 86400) :
    writeClock v s = { s with
      port.clock := v, permit.countDay := v.toNat / 86400
      permit.drivers := s.permit.drivers.map fun d => { d with loadsToday := 0 } } := if_neg h

theorem setLink_zero (s : State) :
    setLink 0 s = ({ s with port.silenceLimit := 0, port.silence := .stopped }, .ok) := rfl

theorem setLink_inRange {v : Nat} (h1 : 1 ≤ v) (h : v ≤ 60) (s : State) :
    setLink v s = ({ s with
      port.silenceLimit := v
      port.silence := { running := true, limit := v * 1000, elapsed := 0 } }, .ok) := by
  rw [setLink, if_neg (by omega), silenceTimerFor, if_neg (by omega), Timer.start]

theorem setLink_badValue {v : Nat} (h : 60 < v) (s : State) :
    setLink v s = (s, .refused .badValue) := if_pos h

theorem authorityModeOf_none {v : Nat} (h : 2 < v) : authorityModeOf v = none := by
  match v with
  | v + 3 => rfl

theorem setAuthority_inRange {a b : Nat} {m : AuthorityMode} (hm : authorityModeOf a = some m)
    (h5 : 5 ≤ b) (h60 : b ≤ 60) (s : State) :
    setAuthority a b s = ({ s with permit.mode := m, permit.referralTimeout := b }, .ok) := by
  rw [setAuthority, hm]; exact if_pos ⟨h5, h60⟩

theorem setAuthority_badValue {a b : Nat} (h : 2 < a ∨ b < 5 ∨ 60 < b) (s : State) :
    setAuthority a b s = (s, .refused .badValue) := by
  unfold setAuthority
  cases hm : authorityModeOf a with
  | none => rfl
  | some m =>
    have ha : ¬ 2 < a := fun ha => by rw [authorityModeOf_none ha] at hm; cases hm
    exact if_neg (by omega)

/-- Settles O9: the clock by whether the day number changes, and each setting by its range. -/
theorem clockAndSettingsAreTaken : Obligations.ClockAndSettingsAreTaken := by
  unfold Obligations.ClockAndSettingsAreTaken
  refine ⟨⟨fun f s v h hr => fixed_done h hr rfl, fun s hr => ?advance,
      fun s v => writeClock_sameDay, fun s v => writeClock_newDay⟩,
    fun f s v h hr => ⟨fun h0 => ?off, fun h1 h60 => fixed_done h hr (setLink_inRange h1 h60 _),
      fun hv => fixed_done h hr (setLink_badValue hv _)⟩,
    fun f s a b => ⟨fun h hr => ⟨fun m hm h5 h60 => fixed_done h hr (setAuthority_inRange hm h5 h60 _),
        fun hv => fixed_done h hr (setAuthority_badValue hv _)⟩,
      fun h hr => ⟨fun ha hA hb hB => fixed_done h hr (if_pos ⟨ha, hA, hb, hB⟩),
        fun hv => fixed_done h hr (if_neg (by omega))⟩⟩⟩
  case advance => rw [exec, execClockAdvance, if_pos hr]
  case off =>
    subst h0
    exact fixed_done h hr (setLink_zero _)

/-! ### The entries that fields give -/

theorem driverOf_eq {card suspended valid account classes bound limit : Nat} :
    driverOf card suspended valid account classes bound limit
      = if 1 ≤ card ∧ card < 2 ^ 40 ∧ suspended ≤ 1 ∧ account ≠ 0 ∧ bound ≤ 999999 ∧ limit ≤ 15 then
          some { card := card, suspended := decide (suspended = 1), validUntil := valid
                 account := account, classes := BitVec.ofNat 8 classes
                 bound := if bound = 0 then none else some bound, dailyLimit := limit
                 loadsToday := 0 }
        else none := by
  unfold driverOf
  by_cases hs : suspended ≤ 1
  · rw [flagOf_of_le hs]
    have range : (!cardInRange card || decide (account = 0) || decide (999999 < bound)
        || decide (15 < limit)) = true
        ↔ ¬ (1 ≤ card ∧ card < 2 ^ 40 ∧ suspended ≤ 1 ∧ account ≠ 0 ∧ bound ≤ 999999
          ∧ limit ≤ 15) := by
      simp only [cardInRange, Bool.or_eq_true, Bool.not_eq_true', Bool.and_eq_false_iff,
        decide_eq_false_iff_not, decide_eq_true_eq]
      omega
    dsimp only
    split
    case _ h => exact (if_neg (range.mp h)).symm
    case _ h => exact (if_pos (not_not.mp (mt range.mpr h))).symm
  · rw [flagOf_of_gt (by omega), if_neg (by omega)]

theorem driverOf_none {card suspended valid account classes bound limit : Nat}
    (h : card = 0 ∨ account = 0 ∨ 999999 < bound ∨ 15 < limit ∨ 1 < suspended) :
    driverOf card suspended valid account classes bound limit = none := by
  rw [driverOf_eq, if_neg (by omega)]

theorem vehicleOf_eq (number valid : Nat) (l : List (Nat × Nat)) :
    vehicleOf number valid l
      = if 1 ≤ number ∧ number ≤ 999999 ∧ valid ≠ 0 ∧ ∀ x ∈ l, 100 ≤ x.1 ∧ x.1 ≤ 20000 then
          some { number := number, validUntil := valid
                 compartments := l.map fun x =>
                   { capacity := x.1, classes := BitVec.ofNat 8 x.2 } }
        else none := by
  unfold vehicleOf
  have capacities : (l.any fun c => decide (c.1 < 100) || decide (20000 < c.1)) = true
      ↔ ¬ ∀ x ∈ l, 100 ≤ x.1 ∧ x.1 ≤ 20000 := by
    simp only [List.any_eq_true, Bool.or_eq_true, decide_eq_true_eq, not_forall]
    exact ⟨fun ⟨x, hx, h⟩ => ⟨x, hx, by omega⟩, fun ⟨x, hx, h⟩ => ⟨x, hx, by omega⟩⟩
  have range : (!vehicleInRange number || decide (valid = 0)
      || l.any fun c => decide (c.1 < 100) || decide (20000 < c.1)) = true
      ↔ ¬ (1 ≤ number ∧ number ≤ 999999 ∧ valid ≠ 0 ∧ ∀ x ∈ l, 100 ≤ x.1 ∧ x.1 ≤ 20000) := by
    rw [Bool.or_eq_true, capacities]
    simp only [vehicleInRange, Bool.or_eq_true, Bool.not_eq_true', Bool.and_eq_false_iff,
      decide_eq_false_iff_not, decide_eq_true_eq]
    tauto
  split
  case _ h => exact (if_neg (range.mp h)).symm
  case _ h => exact (if_pos (not_not.mp (mt range.mpr h))).symm

/-! ### An entry written -/

theorem replaceBy_found {α : Type} {same : α → Bool} {table : List α}
    (h : (table.find? same).isSome = true) (entry : α) :
    replaceBy same entry table = table.map fun e => if same e then entry else e := by
  rw [find?_isSome_eq_any] at h
  exact if_pos h

theorem replaceBy_absent {α : Type} {same : α → Bool} {table : List α} (h : table.find? same = none)
    (entry : α) : replaceBy same entry table = table ++ [entry] := by
  have hany : table.any same = false := by rw [← find?_isSome_eq_any, h]; rfl
  exact if_neg (by rw [hany]; exact Bool.false_ne_true)

section Driver
variable {s : State} {d : Driver}

theorem putDriver_inUse {old : Driver} (ho : s.driver d.card = some old)
    (hc : s.currentCard = some d.card) : putDriver (some d) s = (s, .refused .inUse) := by
  simp only [putDriver, ho, State.driverInUse, hc, beq_self_eq_true, if_true]

theorem putDriver_replaced {old : Driver} (ho : s.driver d.card = some old)
    (hc : s.currentCard ≠ some d.card) :
    putDriver (some d) s
      = ({ s with permit.drivers := s.permit.drivers.map fun e =>
             if e.card = d.card then { d with loadsToday := loadsKept d.dailyLimit old.loadsToday }
             else e },
         .okWith (field 1 (loadsKept d.dailyLimit old.loadsToday))) := by
  have hfound : (s.permit.drivers.find? (·.card == d.card)).isSome = true := by
    rw [show s.permit.drivers.find? _ = _ from ho]; rfl
  simp only [putDriver, ho, State.driverInUse, beq_iff_eq, hc, if_false, replaceBy_found hfound]

theorem putDriver_new (ho : s.driver d.card = none) (hl : s.permit.drivers.length < 64) :
    putDriver (some d) s
      = ({ s with permit.drivers := s.permit.drivers ++ [{ d with loadsToday := 0 }] },
         .okWith (field 1 0)) := by
  simp only [putDriver, ho]
  rw [if_pos (show _ < Config.driverTableSize from hl), replaceBy_absent ho]

theorem putDriver_full (ho : s.driver d.card = none) (hl : 64 ≤ s.permit.drivers.length) :
    putDriver (some d) s = (s, .refused .full) := by
  simp only [putDriver, ho]
  rw [if_neg (show ¬ _ < Config.driverTableSize from Nat.not_lt.mpr hl)]

end Driver

section Vehicle
variable {s : State} {v : Vehicle}

theorem putVehicle_inUse (h : s.vehicleInUse v.number = true) :
    putVehicle (some v) s = (s, .refused .inUse) := if_pos h

theorem putVehicle_replaced (h : s.vehicleInUse v.number = false)
    (hv : (s.vehicle v.number).isSome = true) :
    putVehicle (some v) s
      = ({ s with permit.vehicles := s.permit.vehicles.map fun e =>
             if e.number = v.number then v else e }, .ok) := by
  simp only [putVehicle, h, hv, Bool.true_or, if_true, Bool.false_eq_true, if_false,
    replaceBy_found hv, beq_iff_eq]

theorem putVehicle_new (h : s.vehicleInUse v.number = false) (hv : s.vehicle v.number = none)
    (hl : s.permit.vehicles.length < 32) :
    putVehicle (some v) s = ({ s with permit.vehicles := s.permit.vehicles ++ [v] }, .ok) := by
  have room : decide (s.permit.vehicles.length < Config.vehicleTableSize) = true := decide_eq_true hl
  simp only [putVehicle, h, room, Bool.or_true, if_true, Bool.false_eq_true, if_false,
    replaceBy_absent hv]

theorem putVehicle_full (h : s.vehicleInUse v.number = false) (hv : s.vehicle v.number = none)
    (hl : 32 ≤ s.permit.vehicles.length) : putVehicle (some v) s = (s, .refused .full) := by
  have full : decide (s.permit.vehicles.length < Config.vehicleTableSize) = false :=
    decide_eq_false (Nat.not_lt.mpr hl)
  simp only [putVehicle, h, hv, full, Option.isSome_none, Bool.or_self, Bool.false_eq_true, if_false]

end Vehicle

/-- Settles O10: the entry that the fields give, and the two owners by whether an entry stands in the
table, is in use, and finds room. -/
theorem driversAndVehiclesAreWritten : Obligations.DriversAndVehiclesAreWritten := by
  unfold Obligations.DriversAndVehiclesAreWritten
  refine ⟨fun f s card suspended valid account classes bound limit h hr => ⟨fun hv => ?bad,
      fun d hd => ?driver⟩,
    fun f s v number valid n rest h hlen hn h1 h8 hr => ⟨fun hv => ?badVehicle, fun hv => ?vehicle⟩,
    fun card suspended valid account classes bound limit => ⟨?driverRange, fun d hd => ?driverEntry⟩,
    fun number valid l => ⟨?vehicleRange, fun v hv => ?vehicleEntry⟩, rfl, fun _ _ _ => rfl⟩
  case bad =>
    exact fixed_done h hr (by dsimp only; rw [driverOf_none hv]; rfl)
  case driver =>
    obtain ⟨rfl, rfl⟩ := driverOf_fields hd
    have hp := frameTaken_permit s
    refine ⟨fun old ho hc => fixed_done h hr ?inUse, fun old ho hc => fixed_done h hr ?replaced,
      fun ho hl => fixed_done h hr ?new, fun ho hl => fixed_done h hr ?full⟩ <;>
    dsimp only <;> rw [hd]
    case inUse =>
      rw [putDriver_inUse ((frameTaken_driver ..).trans ho) ((frameTaken_currentCard s).trans hc)]
    case replaced =>
      rw [putDriver_replaced ((frameTaken_driver ..).trans ho)
        (by rw [frameTaken_currentCard]; exact hc), hp]
      rfl
    case new =>
      rw [putDriver_new ((frameTaken_driver ..).trans ho) (by rw [hp]; exact hl), hp]
    case full => rw [putDriver_full ((frameTaken_driver ..).trans ho) (by rw [hp]; exact hl)]
  case badVehicle =>
    exact counted_done (ws := fun n => [4, 2, 1] ++ (List.replicate n [2, 1]).flatten)
      h hlen hn h1 h8 hr (by dsimp only; rw [hv]; rfl)
  case vehicle =>
    obtain rfl := vehicleOf_number hv
    have hp := frameTaken_permit s
    have hu := frameTaken_vehicleInUse s v.number
    have hg := frameTaken_vehicle s v.number
    have done {t : State} {a : Answer} (ho : putVehicle (some v) (frameTaken s) = (t, a)) :
        exec (.putVehicle f) s = answered 0x13 f a t :=
      counted_done (ws := fun n => [4, 2, 1] ++ (List.replicate n [2, 1]).flatten)
        h hlen hn h1 h8 hr (by dsimp only; rw [hv]; exact ho)
    refine ⟨fun hi => done (putVehicle_inUse (hu.trans hi)), fun hi hs => done ?replaced,
      fun hi hs hl => done ?new,
      fun hi hs hl => done (putVehicle_full (hu.trans hi) (hg.trans hs) (by rw [hp]; exact hl))⟩
    case replaced => dsimp only; rw [putVehicle_replaced (hu.trans hi) (by rw [hg]; exact hs), hp]
    case new => dsimp only; rw [putVehicle_new (hu.trans hi) (hg.trans hs) (by rw [hp]; exact hl), hp]
  case driverRange =>
    rw [driverOf_eq]
    split
    case _ hv => exact ⟨fun _ => hv, fun _ => rfl⟩
    case _ hv => exact ⟨fun h => absurd h Bool.false_ne_true, fun h => absurd h hv⟩
  case driverEntry =>
    rw [driverOf_eq] at hd
    split at hd
    · exact (Option.some.inj hd).symm
    · cases hd
  case vehicleRange =>
    rw [vehicleOf_eq]
    split
    case _ hv => exact ⟨fun _ => hv, fun _ => rfl⟩
    case _ hv => exact ⟨fun h => absurd h Bool.false_ne_true, fun h => absurd h hv⟩
  case vehicleEntry =>
    rw [vehicleOf_eq] at hv
    split at hv
    · exact (Option.some.inj hv).symm
    · cases hv

/-! ### An entry dropped -/

section Drops
variable {s : State} {v : Nat}

theorem dropDriver_absent (hv : cardInRange v = true) (h : s.driver v = none) :
    dropDriver v s = (s, .refused .notFound) := by
  simp only [dropDriver, hv, h, Bool.not_true, Bool.false_eq_true, if_false]

theorem dropDriver_entry (hv : cardInRange v = true) (h : (s.driver v).isSome = true) :
    dropDriver v s = if s.currentCard = some v then (s, .refused .inUse)
      else ({ s with permit.drivers := s.permit.drivers.filter (·.card ≠ v) }, .ok) := by
  obtain ⟨d, hd⟩ := Option.isSome_iff_exists.mp h
  simp only [dropDriver, hv, hd, Bool.not_true, Bool.false_eq_true, if_false, State.driverInUse,
    beq_iff_eq]

theorem dropVehicle_absent (hv : vehicleInRange v = true) (h : s.vehicle v = none) :
    dropVehicle v s = (s, .refused .notFound) := by
  simp only [dropVehicle, hv, h, Bool.not_true, Bool.false_eq_true, if_false]

theorem dropVehicle_entry (hv : vehicleInRange v = true) (h : (s.vehicle v).isSome = true) :
    dropVehicle v s = if s.vehicleInUse v = true then (s, .refused .inUse)
      else ({ s with permit.vehicles := s.permit.vehicles.filter (·.number ≠ v) }, .ok) := by
  obtain ⟨d, hd⟩ := Option.isSome_iff_exists.mp h
  simp only [dropVehicle, hv, hd, Bool.not_true, Bool.false_eq_true, if_false]

theorem dropAccount_absent (hv : 1 ≤ v) (h : s.account v = none) :
    dropAccount v s = (s, .refused .notFound) := by
  simp only [dropAccount, Nat.ne_of_gt hv, h, if_false]

theorem dropAccount_entry {a : Account} (hv : 1 ≤ v) (h : s.account v = some a) :
    dropAccount v s
      = if s.accountInUse v = true ∨ ∃ c : ClassId, 0 < (a.classes.get c).reserved then
          (s, .refused .inUse)
        else ({ s with accounts := s.accounts.filter (·.number ≠ v) }, .ok) := by
  simp only [dropAccount, Nat.ne_of_gt hv, h, if_false, Bool.or_eq_true, Bank8.any_toList,
    decide_eq_true_eq]

theorem dropRecipe_absent (hv : 1 ≤ v) (h : s.recipe v = none) :
    dropRecipe v s = (s, .refused .notFound) := by
  simp only [dropRecipe, Nat.ne_of_gt hv, h, if_false]

theorem dropRecipe_entry (hv : 1 ≤ v) (h : (s.recipe v).isSome = true) :
    dropRecipe v s = if s.recipeInUse v = true then (s, .refused .inUse)
      else ({ s with recipes := s.recipes.filter (·.code ≠ v) }, .ok) := by
  obtain ⟨r, hr⟩ := Option.isSome_iff_exists.mp h
  simp only [dropRecipe, Nat.ne_of_gt hv, hr, if_false]

end Drops

/-- A recipe's use is read from the plan, which a valid frame leaves. -/
@[simp] theorem frameTaken_recipeInUse (s : State) (code : Nat) :
    (frameTaken s).recipeInUse code = s.recipeInUse code := by
  simp only [State.recipeInUse, frameTaken_plan]

/-- Settles O11: each DROP by whether the entry stands in its table and whether it is in use. -/
theorem dropsRemoveOneEntry : Obligations.DropsRemoveOneEntry := by
  unfold Obligations.DropsRemoveOneEntry
  refine fun f s v => ⟨fun h hr h1 h2 => ?driver, fun h hr h1 h2 => ?vehicle, fun h hr h1 => ?account,
    fun h hr h1 => ?recipe⟩
  case driver =>
    have hv := cardInRange_iff.mpr ⟨h1, h2⟩
    have hg := frameTaken_driver s v
    refine ⟨fun hn => fixed_done h hr (dropDriver_absent hv (hg.trans hn)),
      fun hs hc => fixed_done h hr ?inUse, fun hs hc => fixed_done h hr ?dropped⟩ <;>
    dsimp only <;>
    rw [dropDriver_entry hv (by rw [hg]; exact hs), frameTaken_currentCard, frameTaken_permit]
    case inUse => rw [if_pos hc]
    case dropped => rw [if_neg hc]
  case vehicle =>
    have hv := vehicleInRange_iff.mpr ⟨h1, h2⟩
    have hg := frameTaken_vehicle s v
    refine ⟨fun hn => fixed_done h hr (dropVehicle_absent hv (hg.trans hn)),
      fun hs hc => fixed_done h hr ?inUse, fun hs hc => fixed_done h hr ?dropped⟩ <;>
    dsimp only <;>
    rw [dropVehicle_entry hv (by rw [hg]; exact hs), frameTaken_vehicleInUse, frameTaken_permit]
    case inUse => rw [if_pos hc]
    case dropped => rw [if_neg (by rw [hc]; exact Bool.false_ne_true)]
  case account =>
    have hg := frameTaken_account s v
    refine ⟨fun hn => fixed_done h hr (dropAccount_absent h1 (hg.trans hn)),
      fun a ha hc => fixed_done h hr ?inUse, fun a ha hu hz => fixed_done h hr ?dropped⟩ <;>
    dsimp only <;>
    rw [dropAccount_entry h1 (hg.trans ha), frameTaken_accountInUse, frameTaken_accounts]
    case inUse => rw [if_pos hc]
    case dropped =>
      rw [if_neg]
      rintro (hi | ⟨c, hc⟩)
      · rw [hu] at hi; exact Bool.false_ne_true hi
      · rw [hz c] at hc; exact Nat.lt_irrefl 0 hc
  case recipe =>
    have hg := frameTaken_recipe s v
    refine ⟨fun hn => fixed_done h hr (dropRecipe_absent h1 (hg.trans hn)),
      fun hs hc => fixed_done h hr ?inUse, fun hs hc => fixed_done h hr ?dropped⟩ <;>
    dsimp only <;>
    rw [dropRecipe_entry h1 (by rw [hg]; exact hs), frameTaken_recipeInUse, frameTaken_recipes]
    case inUse => rw [if_pos hc]
    case dropped => rw [if_neg (by rw [hc]; exact Bool.false_ne_true)]

end Sys2Proof.Machine
end

section
/-! SUPPORT AND PROOF. The allocation check and the charge of a batch end (sections 3.3 and 3.4). -/

namespace Sys2Proof.Machine

/-! ### The allocation bound -/

theorem allocationBound_le (b : PresetBasis) (request n : Nat) :
    allocationBound b request (some n) ≤ request := by
  cases b with
  | standard => exact Nat.min_le_left _ _
  | gross => exact Nat.min_le_left _ _

/-- No larger preset at or below the request fits: for GROSS a preset `p` fits when `51 p ≤ 50 n`. -/
theorem le_allocationBound {b : PresetBasis} {request n p : Nat} (hp : p ≤ request)
    (hfit : reservationOf b p ≤ n) : p ≤ allocationBound b request (some n) := by
  cases b with
  | standard => exact Nat.le_min.mpr ⟨hp, hfit⟩
  | gross =>
    have hc := le_mul_ceilDiv (show 0 < 50 by decide) p
    rw [reservationOf_gross] at hfit
    exact Nat.le_min.mpr ⟨hp, by omega⟩

/-! ### The check, case by case -/

theorem available_litres {a : Account} {c : ClassId} {n : Nat}
    (h : (a.classes.get c).remaining = .litres n) :
    (a.classes.get c).available = some (n - (a.classes.get c).reserved) := by
  rw [Allocation.available, h]

theorem available_unlimited {a : Account} {c : ClassId}
    (h : (a.classes.get c).remaining = .unlimited) : (a.classes.get c).available = none := by
  rw [Allocation.available, h]

theorem allocationCheck_hold {a : Account} (h : a.hold = true) (c : ClassId) (b : PresetBasis)
    (request : Nat) (room : Int) : allocationCheck (some a) c b request room = .error .accountHold :=
  if_pos h

/-- With no hold the answer is the smaller of the allocation bound and the room, or the reason that
leaves it below 100. -/
theorem allocationCheck_free {a : Account} {c : ClassId} {b : PresetBasis} {request most : Nat}
    {room : Int} (h : a.hold = false)
    (hmost : allocationBound b request (a.classes.get c).available = most) :
    allocationCheck (some a) c b request room
      = if min most (min request room.toNat) < 100 then
          if min request room.toNat ≤ most then .error .compartmentFull else .error .noAllocation
        else .ok (min most (min request room.toNat)) := by
  subst hmost
  exact if_neg (by rw [h]; exact Bool.false_ne_true)

theorem allocationCheck_full {a : Account} {c : ClassId} {b : PresetBasis} {request most : Nat}
    {room : Int} (h : a.hold = false)
    (hmost : allocationBound b request (a.classes.get c).available = most)
    (hle : min request room.toNat ≤ most) (hfit : min request room.toNat < 100) :
    allocationCheck (some a) c b request room = .error .compartmentFull := by
  rw [allocationCheck_free h hmost, if_pos (by omega), if_pos hle]

theorem allocationCheck_short {a : Account} {c : ClassId} {b : PresetBasis} {request most : Nat}
    {room : Int} (h : a.hold = false)
    (hmost : allocationBound b request (a.classes.get c).available = most)
    (hlt : most < min request room.toNat) (hfit : most < 100) :
    allocationCheck (some a) c b request room = .error .noAllocation := by
  rw [allocationCheck_free h hmost, if_pos (by omega), if_neg (by omega)]

theorem allocationCheck_granted {a : Account} {c : ClassId} {b : PresetBasis} {request most : Nat}
    {room : Int} (h : a.hold = false)
    (hmost : allocationBound b request (a.classes.get c).available = most) (hm : 100 ≤ most)
    (hfit : 100 ≤ min request room.toNat) :
    allocationCheck (some a) c b request room = .ok (min most (min request room.toNat)) := by
  rw [allocationCheck_free h hmost, if_neg (by omega)]

/-- Settles O19: the bound fits and no larger preset does, a grant is the smaller of bound and room, and
the check goes by the hold, the room and the bound. -/
theorem grantFitsAllocationAndRoom : Obligations.GrantFitsAllocationAndRoom := by
  unfold Obligations.GrantFitsAllocationAndRoom
  refine ⟨fun b request n => ⟨allocationBound_le .., allocationBound_fits .., fun p => le_allocationBound⟩,
    fun a c b request n room p hn hp => ?grant, fun c b request room => ⟨rfl, fun a =>
      ⟨fun h => allocationCheck_hold h .., fun n h hn => ?litres, fun h hu => ?unlimited⟩⟩⟩
  case grant =>
    have hold : a.hold = false := by
      by_contra h
      rw [allocationCheck_hold (Bool.eq_true_of_not_eq_false h)] at hp
      cases hp
    have hfits := allocationCheck_available hn hp
    rw [allocationCheck_free hold rfl, available_litres hn] at hp
    split at hp
    · split at hp <;> cases hp
    · obtain rfl := Except.ok.inj hp
      exact ⟨hold, by omega, by omega, by omega, hfits⟩
  case litres =>
    have hmost := congrArg (allocationBound b request) (available_litres hn)
    exact ⟨allocationCheck_full h hmost, allocationCheck_short h hmost,
      allocationCheck_granted h hmost⟩
  case unlimited =>
    have hmost : allocationBound b request (a.classes.get c).available = request :=
      congrArg (allocationBound b request) (available_unlimited hu)
    refine ⟨fun hf => allocationCheck_full h hmost (Nat.min_le_left _ _) hf, fun hf => ?_⟩
    rw [allocationCheck_granted h hmost (by omega) hf, ← Nat.min_assoc, Nat.min_self]

/-! ### The charge -/

theorem chargeOf_litres {a : Allocation} {n : Nat} (h : a.remaining = .litres n) (r used : Nat) :
    chargeOf a r used = min used r + min (used - r) (n - a.reserved) := by
  rw [chargeOf, h]

theorem charged_litres {a : Allocation} {n : Nat} (h : a.remaining = .litres n) (r used : Nat) :
    a.charged r used
      = { remaining := .litres (n - chargeOf a r used), reserved := a.reserved - r } := by
  rw [Allocation.charged, h]

/-- Settles O20: the charge is what the reservation covers and, beyond it, what no other entry has
reserved. -/
theorem chargeKeepsReservedCovered : Obligations.ChargeKeepsReservedCovered := by
  unfold Obligations.ChargeKeepsReservedCovered
  intro a n r used hn hres hr
  have hc := chargeOf_litres hn r used
  refine ⟨hc, by omega, by omega, charged_litres hn r used, ?_, by omega⟩
  rw [charged_litres hn]
  change a.reserved - r ≤ _
  omega

end Sys2Proof.Machine
end

section
/-! SUPPORT AND PROOF. Identification (chapter 2): what a denial, a referral, a held permit and an opened
load make of the state, the checks of a card and of a vehicle case by case, and the three requests and
two timers that use them. -/

namespace Sys2Proof.Machine

/-! ### What each step of an identification does -/

theorem denyIdentification_busy {s : State} (h : s.load.state ≠ .noLoad) (reason : DenyReason)
    (card : Nat) :
    denyIdentification reason card s =
      { post .identificationDenied 0 reason.code (card % 2 ^ 32) s with
        permit.held := none, load.state := .noLoad, load.identTimer := .stopped
        console.line1 := .presentCard, console.prompt := some .card
        console.line2 := .refusal (.reason reason) } := by
  unfold denyIdentification leaveIdentifying
  rw [enterLoad_of_ne]
  · rfl
  · exact fun he => h ((congrArg LoadController.state (post_load ..)).symm.trans he)

theorem denyIdentification_noLoad {s : State} (h : s.load.state = .noLoad) (reason : DenyReason)
    (card : Nat) :
    denyIdentification reason card s =
      { post .identificationDenied 0 reason.code (card % 2 ^ 32) s with
        permit.held := none, load.identTimer := .stopped
        console.line2 := .refusal (.reason reason) } := by
  unfold denyIdentification leaveIdentifying
  rw [enterLoad_of_eq]
  · rfl
  · exact (congrArg LoadController.state (post_load ..)).trans h

theorem holdPermit_eq {s : State} {ident : Nat} (h : s.load.state ≠ .vehicleWait)
    (hi : s.load.identTimeout = ident) (p : Permit) :
    holdPermit p s = { s with
      permit.held := some p
      load.state := .vehicleWait
      load.identTimer := .start (ident * 1000)
      console.line1 := .enterVehicle, console.prompt := some .vehicle } := by
  subst hi
  unfold holdPermit enterIdentifying
  rw [enterLoad_of_ne]
  · rfl
  · exact h

theorem openReferral_eq {s : State} {ident timeout : Nat} (h : s.load.state ≠ .referred)
    (hi : s.load.identTimeout = ident) (ht : s.permit.referralTimeout = timeout) (card : Nat)
    (reason : ReferralReason) :
    openReferral card reason s
      = post .referralPending 0 (reason.code * 256 + card / 2 ^ 32) (card % 2 ^ 32) { s with
          permit.referral := .pending card reason
          permit.referralTimer := .start (timeout * 1000)
          load.state := .referred
          load.identTimer := .start (ident * 1000)
          console.line1 := .waitForHost, console.prompt := none } := by
  subst hi ht
  unfold openReferral enterIdentifying
  dsimp only
  rw [enterLoad_of_ne]
  · rfl
  · exact h

theorem openLoad_eq {s : State} (h : s.load.state ≠ .opened) (p : Permit) (vehicle : Nat) :
    openLoad p vehicle s = post .loadOpened 0 p.source.code s.store.next { s with
      store.next := min 4294967295 (s.store.next + 1)
      permit.held := none
      permit.drivers := s.permit.drivers.map fun d =>
        if d.card = p.card then { d with loadsToday := countedLoads d } else d
      load.state := .opened
      load.record := some
        { note := s.store.next, source := p.source, card := p.card, vehicle := vehicle,
          account := p.account, classes := p.classes, opened := s.port.clock,
          endCause := none, plan := [], lines := [] }
      load.identTimer := .stopped
      load.idleTimer := .start (s.load.idleTimeout * 60000)
      console.line1 := .load s.store.next, console.line2 := .blank
      console.prompt := some .plan } := by
  unfold openLoad
  dsimp only
  rw [enterLoad_of_ne]
  · rfl
  · exact h

/-! ### The checks, case by case -/

section Naming
variable {s : State} {p : Permit} {number : Nat} {v : Vehicle}

theorem namingRefusal_unknown (h : s.vehicle number = none) (p : Permit) :
    namingRefusal s p number = some .vehicleUnknown := by rw [namingRefusal, h]

theorem namingRefusal_expired (h : s.vehicle number = some v)
    (hv : v.validUntil < s.port.clock.toNat / 86400) (p : Permit) :
    namingRefusal s p number = some .vehicleExpired := by rw [namingRefusal, h]; exact if_pos hv

theorem namingRefusal_valid (h : s.vehicle number = some v)
    (hv : s.port.clock.toNat / 86400 ≤ v.validUntil) :
    namingRefusal s p number
      = if p.bound.any (· ≠ number) then some .vehicleNotBound else none := by
  rw [namingRefusal, h]; exact if_neg (Nat.not_lt.mpr hv)

theorem namingRefusal_bound {b : Nat} (h : s.vehicle number = some v)
    (hv : s.port.clock.toNat / 86400 ≤ v.validUntil) (hb : p.bound = some b) (hn : b ≠ number) :
    namingRefusal s p number = some .vehicleNotBound := by
  rw [namingRefusal_valid h hv, hb]; exact if_pos (decide_eq_true hn)

theorem namingRefusal_none (h : s.vehicle number = some v)
    (hv : s.port.clock.toNat / 86400 ≤ v.validUntil) (hb : p.bound = none ∨ p.bound = some number) :
    namingRefusal s p number = none := by
  rw [namingRefusal_valid h hv]
  obtain hb | hb := hb <;> rw [hb]
  · rfl
  · exact if_neg (by simp)

end Naming

section LocalCheck
variable {s : State} {card : Nat} {d : Driver}

theorem localCheck_unknown (h : s.driver card = none) : localCheck s card = .error .cardUnknown := by
  rw [localCheck, h]

theorem localCheck_suspended (h : s.driver card = some d) (hs : d.suspended = true) :
    localCheck s card = .error .cardSuspended := by rw [localCheck, h]; exact if_pos hs

theorem localCheck_active (h : s.driver card = some d) (hs : d.suspended = false) :
    localCheck s card
      = if d.validUntil ≠ 0 ∧ d.validUntil < s.port.clock.toNat / 86400 then .error .cardExpired
        else if d.dailyLimit ≠ 0 ∧ d.dailyLimit ≤ d.loadsToday then .error .dailyLimit
        else .ok d := by
  rw [localCheck, h]; exact if_neg (by rw [hs]; exact Bool.false_ne_true)

end LocalCheck

section Referral
variable {s : State} {card : Nat}

theorem referralNeed_mode (h : s.permit.mode = .host ∨ (s.permit.mode = .hostFallback ∧ s.port.link = .up)) :
    referralNeed s card = some .mode := if_pos h

theorem referralNeed_filter
    (h : ¬ (s.permit.mode = .host ∨ (s.permit.mode = .hostFallback ∧ s.port.link = .up))) :
    referralNeed s card = if s.hitsFilter card = true then some .filter else none := if_neg h

end Referral

/-! ### Admission -/

theorem storeTakes_iff {s : State} :
    s.storeTakes = true ↔ s.store.notes.length < 16 ∧ s.store.next < 4294967295 := by
  simp only [State.storeTakes, Bool.and_eq_true, decide_eq_true_eq]
  exact Iff.rfl

section Admission
variable {s : State}

theorem admissionRefusal_unconfigured (h : s.configured = false) :
    admissionRefusal s = some (.denied .notConfigured) := by rw [admissionRefusal, h]; rfl

theorem admissionRefusal_busy (h : s.configured = true) (hl : s.load.state ≠ .noLoad) :
    admissionRefusal s = some (.denied .bayBusy) := by
  rw [admissionRefusal, h]; exact if_pos hl

/-- A configured part in NO_LOAD: the latch, the store and a meter run are left to ask. -/
theorem admissionRefusal_free (h : s.configured = true) (hl : s.load.state = .noLoad) :
    admissionRefusal s
      = if s.monitor.rackStop then some (.refused .rackStopped)
        else if !s.storeTakes then some (.denied .noteStoreFull)
        else if s.meterRun then some (.refused .wrongState)
        else none := by
  rw [admissionRefusal, h]; exact if_neg (not_not.mpr hl)

theorem admissionRefusal_stopped (h : s.configured = true) (hl : s.load.state = .noLoad)
    (hk : s.monitor.rackStop = true) : admissionRefusal s = some (.refused .rackStopped) := by
  rw [admissionRefusal_free h hl, if_pos hk]

theorem admissionRefusal_storeFull (h : s.configured = true) (hl : s.load.state = .noLoad)
    (hk : s.monitor.rackStop = false)
    (hs : 16 ≤ s.store.notes.length ∨ 4294967295 ≤ s.store.next) :
    admissionRefusal s = some (.denied .noteStoreFull) := by
  have ht : s.storeTakes = false := by
    by_contra ht
    have := storeTakes_iff.mp (Bool.eq_true_of_not_eq_false ht)
    omega
  rw [admissionRefusal_free h hl, hk, ht]; rfl

theorem admissionRefusal_roomy (h : s.configured = true) (hl : s.load.state = .noLoad)
    (hk : s.monitor.rackStop = false) (hn : s.store.notes.length < 16)
    (hx : s.store.next < 4294967295) :
    admissionRefusal s = if s.meterRun then some (.refused .wrongState) else none := by
  rw [admissionRefusal_free h hl, hk, storeTakes_iff.mpr ⟨hn, hx⟩]; rfl

end Admission

/-! ### The checks depend on their tables and the clock alone -/

theorem namingRefusal_congr {s t : State} (hv : t.permit.vehicles = s.permit.vehicles)
    (hc : t.port.clock = s.port.clock) (p : Permit) (number : Nat) :
    namingRefusal t p number = namingRefusal s p number := by
  unfold namingRefusal State.vehicle State.day
  rw [hv, hc]

theorem localCheck_post (k : EventKind) (a c v : Nat) (s : State) (card : Nat) :
    localCheck (post k a c v s) card = localCheck s card := by
  unfold localCheck State.driver State.day
  rw [post_permit, post_clock]

theorem referralNeed_post (k : EventKind) (a c v : Nat) (s : State) (card : Nat) :
    referralNeed (post k a c v s) card = referralNeed s card := by
  unfold referralNeed State.hitsFilter
  rw [post_permit, post_link]

/-! ### Naming and identifying -/

theorem nameFor_opened {s : State} {p : Permit} {v : Nat} (h : namingRefusal s p v = none) :
    nameFor p v s = (openLoad p v s, none) := by rw [nameFor, h]

theorem nameFor_denied {s : State} {p : Permit} {v : Nat} {r : DenyReason}
    (h : namingRefusal s p v = some r) :
    nameFor p v s = (denyIdentification r p.card s, some r) := by rw [nameFor, h]

section Deciding
variable {s : State} {card : Nat}

theorem presentCard_refused {a : Answer} (hc : cardInRange card = true)
    (ha : admissionRefusal s = some a) : presentCard card s = (s, a) := by
  rw [presentCard, hc, ha]; rfl

theorem presentCard_admitted (hc : cardInRange card = true) (ha : admissionRefusal s = none) :
    presentCard card s = decideCard card (post .cardRead 0 (card / 2 ^ 32) (card % 2 ^ 32) s) := by
  rw [presentCard, hc, ha]; rfl

theorem decideCard_up {reason : ReferralReason} (hn : referralNeed s card = some reason)
    (hl : s.port.link = .up) :
    decideCard card s = loadStateReply (openReferral card reason s) := by
  rw [decideCard, hn]; dsimp only; rw [hl]

theorem decideCard_lost {reason : ReferralReason} (hn : referralNeed s card = some reason)
    (hl : s.port.link = .lost) :
    decideCard card s = (denyIdentification .noHost card s, .denied .noHost) := by
  rw [decideCard, hn]; dsimp only; rw [hl]

theorem decideCard_failed {r : DenyReason} (hn : referralNeed s card = none)
    (hc : localCheck s card = .error r) :
    decideCard card s = (denyIdentification r card s, .denied r) := by
  rw [decideCard, hn]; dsimp only; rw [identifyLocally, hc]

theorem decideCard_unbound {d : Driver} (hn : referralNeed s card = none)
    (hc : localCheck s card = .ok d) (hb : d.bound = none) :
    decideCard card s = loadStateReply (holdPermit (permitOf d) s) := by
  rw [decideCard, hn]; dsimp only; rw [identifyLocally, hc]; dsimp only; rw [hb]

theorem decideCard_opened {d : Driver} {v : Nat} (hn : referralNeed s card = none)
    (hc : localCheck s card = .ok d) (hb : d.bound = some v)
    (hv : namingRefusal (holdPermit (permitOf d) s) (permitOf d) v = none) :
    decideCard card s = loadStateReply (openLoad (permitOf d) v (holdPermit (permitOf d) s)) := by
  rw [decideCard, hn]; dsimp only; rw [identifyLocally, hc]; dsimp only
  rw [hb]; dsimp only; rw [nameFor_opened hv]

theorem decideCard_denied {d : Driver} {v : Nat} {r : DenyReason} (hn : referralNeed s card = none)
    (hc : localCheck s card = .ok d) (hb : d.bound = some v)
    (hv : namingRefusal (holdPermit (permitOf d) s) (permitOf d) v = some r) :
    decideCard card s = (denyIdentification r d.card (holdPermit (permitOf d) s), .denied r) := by
  rw [decideCard, hn]; dsimp only; rw [identifyLocally, hc]; dsimp only
  rw [hb]; dsimp only; rw [nameFor_denied hv]; rfl

end Deciding

/-! ### PRESENT CARD -/

/-- The replies of a card: the load state that its identification enters. -/
theorem loadStateReply_of {s : State} {l : LoadState} (h : s.load.state = l) :
    loadStateReply s = (s, .okWith (field 1 l.code)) := by rw [loadStateReply, h]

/-- A card of the host past the admission checks goes to the referral decision with CARD READ posted. -/
theorem exec_presentCard_admitted {f : Frame} {s t : State} {card : Nat} {a : Answer}
    (h : validFrame s 0x30 f = true) (hr : readFields [5] f.body = some [card]) (h1 : 1 ≤ card)
    (h2 : card < 2 ^ 40) (ha : admissionRefusal s = none)
    (ho : decideCard card (post .cardRead 0 (card / 2 ^ 32) (card % 2 ^ 32) (frameTaken s)) = (t, a)) :
    exec (.presentCard (.host f)) s = answered 0x30 f a t :=
  fixed_done h hr ((presentCard_admitted (cardInRange_iff.mpr ⟨h1, h2⟩)
    ((frameTaken_admissionRefusal s).trans ha)).trans ho)

section Admitted
variable {s : State} {card ident : Nat} (hfree : s.load.state = .noLoad)
  (hi : s.load.identTimeout = ident)
include hfree hi

theorem decideCard_opensReferral {timeout : Nat} {reason : ReferralReason}
    (ht : s.permit.referralTimeout = timeout) (hn : referralNeed s card = some reason)
    (hl : s.port.link = .up) :
    decideCard card s
      = (post .referralPending 0 (reason.code * 256 + card / 2 ^ 32) (card % 2 ^ 32) { s with
          permit.referral := .pending card reason
          permit.referralTimer := .start (timeout * 1000)
          load.state := .referred
          load.identTimer := .start (ident * 1000)
          console.line1 := .waitForHost, console.prompt := none }, .okWith (field 1 1)) := by
  rw [decideCard_up hn hl, openReferral_eq (by rw [hfree]; exact LoadState.noConfusion) hi ht,
    loadStateReply_of (congrArg LoadController.state (post_load ..))]
  rfl

theorem holdPermit_admitted (p : Permit) :
    holdPermit p s = { s with
      permit.held := some p
      load.state := .vehicleWait
      load.identTimer := .start (ident * 1000)
      console.line1 := .enterVehicle, console.prompt := some .vehicle } :=
  holdPermit_eq (by rw [hfree]; exact LoadState.noConfusion) hi p

theorem decideCard_holds {d : Driver} (hn : referralNeed s card = none)
    (hc : localCheck s card = .ok d) (hb : d.bound = none) :
    decideCard card s
      = ({ s with
          permit.held := some { source := .fromTable, card := d.card, account := d.account,
                                classes := d.classes, bound := none }
          load.state := .vehicleWait
          load.identTimer := .start (ident * 1000)
          console.line1 := .enterVehicle, console.prompt := some .vehicle },
         .okWith (field 1 2)) := by
  rw [decideCard_unbound hn hc hb, holdPermit_admitted hfree hi, permitOf, hb]
  rfl

end Admitted

/-- The permit of a card bound to a vehicle is that vehicle's, and naming it sees the same tables. -/
theorem namingRefusal_held {s : State} {p : Permit} (q : Permit) (v : Nat) :
    namingRefusal (holdPermit q s) p v = namingRefusal s p v :=
  namingRefusal_congr (by rw [holdPermit, enterIdentifying, enterLoad_permit])
    (by rw [holdPermit, enterIdentifying, enterLoad_port]) p v

theorem consoleRequest_of_record {s : State} {q : ConsoleRequest} (hr : s.running = true)
    (hd : s.console.dropping = false) (hb : s.console.buffer ≠ [])
    (hl : s.console.replies.length < 4) (hp : parseRecord s.console.buffer = some q) :
    s.consoleRequest = some q := by
  have hready : s.recordReady = true := by simp [State.recordReady, hr, hd, hb]
  have hroom : s.repliesFull = false := decide_eq_false (Nat.not_le.mpr hl)
  rw [State.consoleRequest, hready, hroom, ← hp]; rfl

/-- Settles O13: an admitted card is referred, held, named or denied by the referral decision, the link
and the local checks; the checks themselves case by case. -/
theorem presentCardBeginsIdentification : Obligations.PresentCardBeginsIdentification := by
  unfold Obligations.PresentCardBeginsIdentification
  have read (s : State) (card : Nat) :=
    (post_load .cardRead 0 (card / 2 ^ 32) (card % 2 ^ 32) (frameTaken s)).trans (frameTaken_load s)
  have need (s : State) (card : Nat) :=
    referralNeed_post .cardRead 0 (card / 2 ^ 32) (card % 2 ^ 32) (frameTaken s) card
  have check (s : State) (card : Nat) :=
    (localCheck_post .cardRead 0 (card / 2 ^ 32) (card % 2 ^ 32) (frameTaken s) card).trans
      (frameTaken_localCheck s card)
  refine ⟨fun f s card h hr h1 h2 ha => ⟨fun reason hn => ?referred, fun d hn hc hb => ?held,
      fun reason hn hc => ?failed⟩, fun f s card h hr =>
      ⟨fun h0 => fixed_done h hr (if_pos (by rw [h0]; rfl)), fun h1 h2 => ⟨fun a ha => ?refused,
        fun d v ha hn hc hb => ?bound⟩⟩,
    ⟨fun s => ⟨admissionRefusal_unconfigured, admissionRefusal_busy, admissionRefusal_stopped,
        admissionRefusal_storeFull, fun hc hl hk hn hx hm => ?run, fun hc hl hk hn hx hm => ?free⟩,
      fun s card => ⟨fun hm hf => ?localClear, fun hm hf => ?localHit,
        fun hm => referralNeed_mode (.inl hm),
        fun hm hl => referralNeed_mode (.inr ⟨hm, hl⟩), fun hm hl hf => ?lostClear,
        fun hm hl hf => ?lostHit⟩⟩,
    fun s card => ⟨localCheck_unknown, fun d hd => ⟨localCheck_suspended hd, fun hs =>
      ⟨fun hv hx => ?expired, fun hv => ⟨fun hl hx => ?limit, fun hl => ?passed⟩⟩⟩⟩,
    fun s card reason hrun hdrop hbuf hrep hparse h1 h2 ha hn hl => ?console⟩
  case referred =>
    obtain ⟨hfree, -, -⟩ := admissionRefusal_none ha
    exact exec_presentCard_admitted h hr h1 h2 ha (decideCard_opensReferral (by rw [read]; exact hfree)
      (by rw [read]) (by rw [post_permit, frameTaken_permit]) ((need s card).trans hn)
      (by rw [post_link, frameTaken_link]))
  case held =>
    obtain ⟨hfree, -, -⟩ := admissionRefusal_none ha
    exact exec_presentCard_admitted h hr h1 h2 ha (decideCard_holds (by rw [read]; exact hfree)
      (by rw [read]) ((need s card).trans hn) ((check s card).trans hc) hb)
  case failed =>
    exact exec_presentCard_admitted h hr h1 h2 ha
      (decideCard_failed ((need s card).trans hn) ((check s card).trans hc))
  case refused =>
    exact fixed_done h hr (presentCard_refused (cardInRange_iff.mpr ⟨h1, h2⟩)
      ((frameTaken_admissionRefusal s).trans ha))
  case bound =>
    obtain ⟨hfree, -, -⟩ := admissionRefusal_none ha
    intro p t
    have hp : permitOf d = p := by rw [permitOf, hb]
    have ht : holdPermit (permitOf d)
        (post .cardRead 0 (card / 2 ^ 32) (card % 2 ^ 32) (frameTaken s)) = t := by
      rw [hp]
      exact holdPermit_admitted (by rw [read]; exact hfree) (by rw [read]) p
    have naming : namingRefusal (holdPermit (permitOf d)
        (post .cardRead 0 (card / 2 ^ 32) (card % 2 ^ 32) (frameTaken s))) (permitOf d) v
        = namingRefusal s p v := by
      rw [namingRefusal_held, hp]
      exact (namingRefusal_congr (congrArg PermitUnit.vehicles (post_permit ..)) (post_clock ..) p v).trans
        (frameTaken_namingRefusal ..)
    refine ⟨fun hv => ?opened, fun reason hv => ?denied⟩
    case opened =>
      refine exec_presentCard_admitted h hr h1 h2 ha ((decideCard_opened ((need s card).trans hn)
        ((check s card).trans hc) hb (naming.trans hv)).trans ?_)
      rw [ht, hp, loadStateReply_of (l := .opened)]
      · rfl
      · rw [openLoad_eq LoadState.noConfusion, post_load]
    case denied =>
      refine exec_presentCard_admitted h hr h1 h2 ha ((decideCard_denied ((need s card).trans hn)
        ((check s card).trans hc) hb (naming.trans hv)).trans ?_)
      rw [ht]
  case run => rw [admissionRefusal_roomy hc hl hk hn hx, if_pos hm]
  case free => rw [admissionRefusal_roomy hc hl hk hn hx, hm]; rfl
  case expired => rw [localCheck_active hd hs, if_pos ⟨hv, hx⟩]
  case limit => rw [localCheck_active hd hs, if_neg (by omega), if_pos ⟨hl, hx⟩]
  case passed => rw [localCheck_active hd hs, if_neg (by omega), if_neg (by omega)]
  case console =>
    have hq := consoleRequest_of_record hrun hdrop hbuf hrep hparse
    have hadm : presentCard card (emptyBuffer s) = _ :=
      presentCard_admitted (cardInRange_iff.mpr ⟨h1, h2⟩) ha
    have hden := decideCard_lost ((referralNeed_post .cardRead 0 (card / 2 ^ 32) (card % 2 ^ 32)
      (emptyBuffer s) card).trans hn) (by rw [post_link]; exact hl)
    rw [exec, execPresentCard]
    simp only [hq, runConsole, hadm, hden]
    rfl
  case localClear => rw [referralNeed_filter (by simp [hm]), hf]; rfl
  case localHit => rw [referralNeed_filter (by simp [hm]), if_pos hf]
  case lostClear => rw [referralNeed_filter (by simp [hm, hl]), hf]; rfl
  case lostHit => rw [referralNeed_filter (by simp [hm, hl]), if_pos hf]

/-! ### NAME VEHICLE -/

section NameVehicle
variable {s : State} {number : Nat}

theorem nameVehicle_wrongState (hv : vehicleInRange number = true)
    (h : s.load.state ≠ .vehicleWait) : nameVehicle number s = (s, .refused .wrongState) := by
  rw [nameVehicle, hv]
  cases hl : s.load.state with
  | vehicleWait => exact absurd hl h
  | noLoad => rfl
  | referred => rfl
  | opened => rfl
  | ending => rfl

theorem nameVehicle_waiting {p : Permit} (hv : vehicleInRange number = true)
    (h : s.load.state = .vehicleWait) (hp : s.permit.held = some p) :
    nameVehicle number s
      = if s.monitor.rackStop then (s, .refused .rackStopped)
        else
          match nameFor p number s with
          | (t, some r) => (t, .denied r)
          | (t, none) => (t, .okWith (field 4 s.store.next)) := by
  rw [nameVehicle, hv, h, hp]; rfl

end NameVehicle

section CountedLoads
variable {d : Driver}

theorem countedLoads_limited (h : d.dailyLimit ≠ 0) :
    countedLoads d = if d.loadsToday < d.dailyLimit then d.loadsToday + 1 else d.loadsToday := by
  simp only [countedLoads, if_neg h]

theorem countedLoads_unlimited (h : d.dailyLimit = 0) :
    countedLoads d = if d.loadsToday < 15 then d.loadsToday + 1 else d.loadsToday := by
  simp only [countedLoads, if_pos h]

end CountedLoads

/-- Settles O14: in VEHICLE_WAIT by the latch and the checks of the vehicle, and elsewhere a refusal. -/
theorem nameVehicleOpensTheLoad : Obligations.NameVehicleOpensTheLoad := by
  unfold Obligations.NameVehicleOpensTheLoad
  refine ⟨fun f s number p h hr h1 h2 hl hp => ?waiting, fun f s number h hr =>
      ⟨fun hv => fixed_done h hr (if_pos (by rw [vehicleInRange_none hv]; rfl)),
        fun h1 h2 hl => fixed_done h hr (nameVehicle_wrongState (vehicleInRange_iff.mpr ⟨h1, h2⟩)
          (by rw [frameTaken_load]; exact hl))⟩,
    fun s p number => ⟨fun hv => namingRefusal_unknown hv p, fun v hv =>
      ⟨fun hx => namingRefusal_expired hv hx p, fun hx => ⟨fun b hb hn => namingRefusal_bound hv hx hb hn,
        fun hb => namingRefusal_none hv hx hb⟩⟩⟩,
    fun d => ⟨fun h0 hl => ?limited, fun h0 hl => ?reached, fun h0 hl => ?unlimited,
      fun h0 hl => ?fifteen⟩⟩
  case waiting =>
    have hl' := (congrArg LoadController.state (frameTaken_load s)).trans hl
    have hname := nameVehicle_waiting (vehicleInRange_iff.mpr ⟨h1, h2⟩) hl'
      ((congrArg PermitUnit.held (frameTaken_permit s)).trans hp)
    rw [frameTaken_monitor] at hname
    refine ⟨fun hk => fixed_done h hr (hname.trans (if_pos hk)), fun hk hv => ?opened,
      fun reason hk hv => ?denied⟩ <;>
    rw [hk, if_neg Bool.false_ne_true] at hname
    case opened =>
      rw [nameFor_opened ((frameTaken_namingRefusal ..).trans hv),
        openLoad_eq (by rw [hl']; exact LoadState.noConfusion)] at hname
      refine (fixed_done h hr hname).trans ?_
      simp only [frameTaken_store, frameTaken_load, frameTaken_permit, frameTaken_clock]
    case denied =>
      rw [nameFor_denied ((frameTaken_namingRefusal ..).trans hv)] at hname
      exact fixed_done h hr hname
  case limited => rw [countedLoads_limited h0, if_pos hl]
  case reached => rw [countedLoads_limited h0, if_neg (Nat.not_lt.mpr hl)]
  case unlimited => rw [countedLoads_unlimited h0, if_pos hl]
  case fifteen => rw [countedLoads_unlimited h0, if_neg (Nat.not_lt.mpr hl)]

/-! ### ANSWER REFERRAL -/

section Answering
variable {s : State} {card decision account classes bound : Nat}

/-- The fields of an answer lie in their ranges (R29). -/
def AnswerInRange (card decision account bound : Nat) : Prop :=
  cardInRange card = true
    ∧ (decision = 0 ∨ (decision = 1 ∧ 1 ≤ account ∧ bound ≤ 999999))

theorem answerReferral_badValue
    (h : card = 0 ∨ 1 < decision ∨ (decision = 1 ∧ (account = 0 ∨ 999999 < bound))) :
    answerReferral card decision account classes bound s = (s, .refused .badValue) := by
  refine if_pos ?_
  obtain rfl | h := h
  · rfl
  · simp only [Bool.or_eq_true, Bool.and_eq_true, decide_eq_true_eq]
    omega

theorem answerReferral_inRange (h : AnswerInRange card decision account bound) :
    answerReferral card decision account classes bound s
      = match s.permit.referral with
        | .pending c _ =>
          if c = card then
            (decideReferral (decision = 1)
              { source := .referred, card := card, account := account,
                classes := BitVec.ofNat 8 classes, bound := optionalField bound } s, .ok)
          else (s, .refused .notFound)
        | .expired c => (s, .refused (if c = card then .tooLate else .notFound))
        | .empty => (s, .refused .notFound) := by
  obtain ⟨hc, hd⟩ := h
  refine if_neg ?_
  simp only [hc, Bool.or_eq_true, Bool.and_eq_true, decide_eq_true_eq, Bool.not_true,
    Bool.false_eq_true, false_or]
  omega

theorem answerReferral_empty (h : AnswerInRange card decision account bound)
    (hr : s.permit.referral = .empty) :
    answerReferral card decision account classes bound s = (s, .refused .notFound) := by
  rw [answerReferral_inRange h, hr]

theorem answerReferral_expired {c : Nat} (h : AnswerInRange card decision account bound)
    (hr : s.permit.referral = .expired c) :
    answerReferral card decision account classes bound s
      = (s, .refused (if c = card then .tooLate else .notFound)) := by
  rw [answerReferral_inRange h, hr]

theorem answerReferral_other {c : Nat} {reason : ReferralReason}
    (h : AnswerInRange card decision account bound) (hr : s.permit.referral = .pending c reason)
    (hn : c ≠ card) :
    answerReferral card decision account classes bound s = (s, .refused .notFound) := by
  rw [answerReferral_inRange h, hr]; exact if_neg hn

theorem answerReferral_decides {reason : ReferralReason}
    (h : AnswerInRange card decision account bound) (hr : s.permit.referral = .pending card reason) :
    answerReferral card decision account classes bound s
      = (decideReferral (decision = 1)
          { source := .referred, card := card, account := account,
            classes := BitVec.ofNat 8 classes, bound := optionalField bound } s, .ok) := by
  rw [answerReferral_inRange h, hr]; exact if_pos rfl

end Answering

theorem decideReferral_deny (p : Permit) (s : State) :
    decideReferral false p s = denyIdentification .referralDenied p.card { s with
      permit.referral := .empty, permit.referralTimer := .stopped } := rfl

/-- The state in which an allowed referral holds its permit. -/
theorem holdPermit_allowed {s : State} {ident : Nat} (hl : s.load.state = .referred)
    (hi : s.load.identTimeout = ident) (p : Permit) :
    holdPermit p (endReferral .empty s) = { s with
      permit.referral := .empty, permit.referralTimer := .stopped
      permit.held := some p
      load.state := .vehicleWait
      load.identTimer := .start (ident * 1000)
      console.line1 := .enterVehicle, console.prompt := some .vehicle } :=
  holdPermit_eq (s := endReferral .empty s)
    (fun h => by rw [show (endReferral .empty s).load.state = _ from hl] at h; cases h) hi p

theorem decideReferral_unbound {p : Permit} (hb : p.bound = none) (s : State) :
    decideReferral true p s = holdPermit p (endReferral .empty s) := by
  rw [decideReferral, if_pos rfl, allowReferral, hb]

theorem decideReferral_bound {p : Permit} {v : Nat} (hb : p.bound = some v) (s : State) :
    decideReferral true p s
      = if (holdPermit p (endReferral .empty s)).monitor.rackStop = true then
          holdPermit p (endReferral .empty s)
        else (nameFor p v (holdPermit p (endReferral .empty s))).1 := by
  rw [decideReferral, if_pos rfl, allowReferral, hb]

/-- Settles O15: an answer in range by the referral record, an allowed one by the vehicle it binds, the
latch and the checks of that vehicle. -/
theorem answerReferralDecides : Obligations.AnswerReferralDecides := by
  unfold Obligations.AnswerReferralDecides
  have permit (s : State) : (frameTaken s).permit.referral = s.permit.referral := by
    rw [frameTaken_permit]
  refine ⟨fun f s card decision account classes bound h hr h1 h2 =>
      ⟨fun reason hd hp => ?denied, fun reason hd ha hb hp hl => ?held, fun other hd hp => ?expired,
        fun other reason hd hp hn => ?other,
        fun hd => fixed_done h hr (answerReferral_badValue (.inr (.inl hd)))⟩,
    fun f s card decision account classes bound h hr =>
      ⟨fun hv => fixed_done h hr (answerReferral_badValue (by omega)), fun h1 h2 =>
        ⟨fun hd hp => ?empty, fun hd ha hb => ⟨fun other reason hp hn => ?allowOther,
          fun other hp => ?allowExpired, fun reason hb1 hp hl => ?bound⟩⟩⟩⟩ <;>
  have hc := cardInRange_iff.mpr ⟨h1, h2⟩
  case denied =>
    subst hd
    exact fixed_done h hr (answerReferral_decides ⟨hc, .inl rfl⟩ ((permit s).trans hp))
  case held =>
    subst hd hb
    refine fixed_done h hr ((answerReferral_decides ⟨hc, by omega⟩ ((permit s).trans hp)).trans ?_)
    rw [decide_eq_true rfl, decideReferral_unbound rfl]
    exact congrArg (·, Answer.ok) (holdPermit_allowed (by rw [frameTaken_load]; exact hl)
      (by rw [frameTaken_load]) _)
  case expired =>
    exact fixed_done h hr (answerReferral_expired ⟨hc, .inl hd⟩ ((permit s).trans hp))
  case other =>
    exact fixed_done h hr (answerReferral_other ⟨hc, .inl hd⟩ ((permit s).trans hp) hn)
  case empty => exact fixed_done h hr (answerReferral_empty ⟨hc, hd⟩ ((permit s).trans hp))
  case allowOther =>
    exact fixed_done h hr (answerReferral_other ⟨hc, .inr ⟨hd, ha, hb⟩⟩ ((permit s).trans hp) hn)
  case allowExpired =>
    exact fixed_done h hr (answerReferral_expired ⟨hc, .inr ⟨hd, ha, hb⟩⟩ ((permit s).trans hp))
  case bound =>
    subst hd
    intro p t
    have hopt : optionalField bound = some bound := if_neg (by omega)
    have ht : holdPermit p (endReferral .empty (frameTaken s)) = t :=
      holdPermit_allowed (by rw [frameTaken_load]; exact hl) (by rw [frameTaken_load]) p
    have hdec := answerReferral_decides (classes := classes) ⟨hc, .inr ⟨rfl, ha, hb⟩⟩
      ((permit s).trans hp)
    rw [decide_eq_true rfl, hopt, decideReferral_bound (p := p) rfl, ht] at hdec
    have hk : t.monitor.rackStop = s.monitor.rackStop := congrArg Monitor.rackStop (frameTaken_monitor s)
    have naming : namingRefusal t p bound = namingRefusal s p bound :=
      (namingRefusal_congr rfl rfl p bound).trans (frameTaken_namingRefusal ..)
    rw [hk] at hdec
    refine ⟨fun hs => ?stopped, fun hs hv => ?opened, fun r hs hv => ?refused⟩ <;> rw [hs] at hdec
    case stopped => exact fixed_done h hr hdec
    case opened =>
      rw [if_neg Bool.false_ne_true, nameFor_opened (naming.trans hv)] at hdec
      exact fixed_done h hr hdec
    case refused =>
      rw [if_neg Bool.false_ne_true, nameFor_denied (naming.trans hv)] at hdec
      exact fixed_done h hr hdec

/-! ### The timers of an identification -/

theorem expireReferral_pending {s : State} {c : Nat} {reason : ReferralReason}
    (h : s.permit.referral = .pending c reason) :
    expireReferral s = denyIdentification .referralNoAnswer c
      { s with permit.referral := .expired c, permit.referralTimer := .stopped } := by
  rw [expireReferral, h]; rfl

/-- Settles O16: a denial by the load state, and each expiry by its timer and the state it finds. -/
theorem denialsEndTheIdentification : Obligations.DenialsEndTheIdentification := by
  unfold Obligations.DenialsEndTheIdentification
  refine ⟨fun reason card s => ⟨fun h => denyIdentification_busy h .., fun h =>
      denyIdentification_noLoad h ..⟩,
    fun s => ⟨fun c reason hr ht hp => ?referral, fun c reason hr ht hl hp => ?referred,
      fun p hr ht hl hp => ?waiting, fun ht => ?noReferral, fun ht => ?noIdent⟩⟩
  case referral =>
    rw [exec, execReferralTimerExpiry, hr, ht, expireReferral_pending hp]; rfl
  case referred =>
    rw [exec, execIdentificationTimerExpiry, hr, ht, expireIdentification, hl]
    exact congrArg _ (expireReferral_pending hp)
  case waiting =>
    rw [exec, execIdentificationTimerExpiry, hr, ht, expireIdentification, hl, hp]; rfl
  case noReferral => rw [exec, execReferralTimerExpiry, ht, Bool.and_false]; rfl
  case noIdent => rw [exec, execIdentificationTimerExpiry, ht, Bool.and_false]; rfl

end Sys2Proof.Machine
end

section
/-! SUPPORT AND PROOF. PLAN COMPARTMENT (section 4.4): its nine checks one by one, and the state after an
accepted plan. -/

namespace Sys2Proof.Machine

theorem planInRange_iff {compartment recipe request : Nat} :
    planInRange compartment recipe request = true ↔
      (1 ≤ compartment ∧ compartment ≤ 8 ∧ 1 ≤ recipe ∧ recipe ≤ 65535 ∧ 100 ≤ request
        ∧ request ≤ 20000) := by
  simp only [planInRange, Bool.and_eq_true, decide_eq_true_eq, and_assoc]

/-! ### The checks -/

section Checks
variable {s : State} {r : OpenLoad} {n : ArmId} {compartment recipe : Nat}

theorem planChecks_busy (h : (s.arm n).control.state ≠ .idle) :
    planChecks s r n compartment recipe = .error (.refused .wrongState) := if_pos h

theorem planChecks_noPlace (h : (s.arm n).control.state = .idle)
    (hk : (s.vehicle r.vehicle).bind (·.compartment compartment) = none) :
    planChecks s r n compartment recipe = .error (.refused .badValue) := by
  rw [planChecks, if_neg (not_not.mpr h), hk]

theorem planChecks_noRecipe {k : Compartment} (h : (s.arm n).control.state = .idle)
    (hk : (s.vehicle r.vehicle).bind (·.compartment compartment) = some k)
    (hq : s.recipe recipe = none) :
    planChecks s r n compartment recipe = .error (.denied .recipeUnknown) := by
  rw [planChecks, if_neg (not_not.mpr h), hk]; dsimp only; rw [hq]

theorem planChecks_mismatch {k : Compartment} {q : Recipe} (h : (s.arm n).control.state = .idle)
    (hk : (s.vehicle r.vehicle).bind (·.compartment compartment) = some k)
    (hq : s.recipe recipe = some q)
    (hm : (s.arm n).config.map (·.product) ≠ some q.product ∨ s.plumbed q n = false) :
    planChecks s r n compartment recipe = .error (.denied .recipeArmMismatch) := by
  rw [planChecks, if_neg (not_not.mpr h), hk]; dsimp only; rw [hq]
  refine if_pos ?_
  simpa only [Bool.or_eq_true, Bool.not_eq_true', decide_eq_true_eq] using hm

/-- A recipe that the arm can load: the class is left to ask of the load and of the compartment. -/
theorem planChecks_loadable {k : Compartment} {q : Recipe} {p : Product}
    (h : (s.arm n).control.state = .idle)
    (hk : (s.vehicle r.vehicle).bind (·.compartment compartment) = some k)
    (hq : s.recipe recipe = some q) (hm : (s.arm n).config.map (·.product) = some q.product)
    (hb : s.plumbed q n = true) (hp : s.products.get q.product = some p) :
    planChecks s r n compartment recipe
      = if !inClasses p.productClass r.classes then .error (.denied .classNotAllowed)
        else if !inClasses p.productClass k.classes then .error (.denied .compartmentClass)
        else .ok (k, p) := by
  rw [planChecks, if_neg (not_not.mpr h), hk]; dsimp only; rw [hq]; dsimp only
  rw [if_neg, hp]
  simp only [hm, hb, ne_eq, not_true_eq_false, decide_false, Bool.not_true, Bool.or_self,
    Bool.false_eq_true, not_false_eq_true]

variable {request : Nat}

theorem planGrant_error {a : Answer} (h : planChecks s r n compartment recipe = .error a) :
    planGrant s r n compartment recipe request = .error a := by rw [planGrant, h]

theorem planGrant_denied {k : Compartment} {p : Product} {d : DenyReason}
    (h : planChecks s r n compartment recipe = .ok (k, p))
    (hd : allocationCheck (s.account r.account) p.productClass p.basis request
      (roomOf k compartment r) = .error d) :
    planGrant s r n compartment recipe request = .error (.denied d) := by
  rw [planGrant, h]; dsimp only; rw [hd]

/-- A plan that the allocation check grants: its place in the record is left to ask. -/
theorem planGrant_allocated {k : Compartment} {p : Product} {preset : Nat}
    (h : planChecks s r n compartment recipe = .ok (k, p))
    (hd : allocationCheck (s.account r.account) p.productClass p.basis request
      (roomOf k compartment r) = .ok preset) :
    planGrant s r n compartment recipe request
      = match planPlace r compartment with
        | some a => .error a
        | none => .ok (preset, p) := by
  rw [planGrant, h]; dsimp only; rw [hd] <;> rfl

end Checks

section Place
variable {r : OpenLoad} {compartment : Nat}

theorem planPlace_full (h : 8 ≤ r.plan.length + r.lines.length) :
    planPlace r compartment = some (.refused .full) := if_pos h

theorem planPlace_busy (h : r.plan.length + r.lines.length < 8)
    (hb : ∃ e ∈ r.plan, e.compartment = compartment) :
    planPlace r compartment = some (.denied .compartmentBusy) := by
  have hany : r.plan.any (·.compartment = compartment) = true := by
    simpa only [List.any_eq_true, decide_eq_true_eq] using hb
  exact (if_neg (Nat.not_le.mpr h)).trans (if_pos hany)

theorem planPlace_free (h : r.plan.length + r.lines.length < 8)
    (hb : ∀ e ∈ r.plan, e.compartment ≠ compartment) : planPlace r compartment = none := by
  have hany : ¬ r.plan.any (·.compartment = compartment) = true := by
    simpa only [List.any_eq_true, decide_eq_true_eq, not_exists, not_and] using hb
  exact (if_neg (Nat.not_le.mpr h)).trans (if_neg hany)

end Place

theorem plumbed_iff {s : State} {q : Recipe} {n : ArmId} :
    s.plumbed q n = true ↔ ∀ x ∈ q.components, ∃ c, (s.injector x.injector).config = some c
      ∧ (c.firstArm = n ∨ c.secondArm = some n) := by
  simp only [State.plumbed, List.all_eq_true, Option.any_eq_true, InjectorConfig.reaches,
    Bool.or_eq_true, beq_iff_eq]

/-! ### The owner -/

section Owner
variable {s : State} {compartment recipe arm request : Nat} {n : ArmId}

theorem planCompartment_badValue
    (h : arm = 0 ∨ 4 < arm ∨ planInRange compartment recipe request = false) :
    planCompartment compartment recipe arm request s = (s, .refused .badValue) := by
  unfold planCompartment
  cases ha : armOf arm with
  | none => rfl
  | some n =>
    obtain h0 | h4 | hp := h
    · rw [armOf_none (.inl h0)] at ha; cases ha
    · rw [armOf_none (.inr h4)] at ha; cases ha
    · exact if_pos (by rw [hp]; rfl)

theorem planCompartment_wrongState (hp : planInRange compartment recipe request = true)
    (h : s.load.state ≠ .opened) :
    planCompartment compartment recipe (n.val + 1) request s = (s, .refused .wrongState) := by
  rw [planCompartment, armOf_val]; dsimp only; rw [hp]
  cases hl : s.load.state with
  | opened => exact absurd hl h
  | noLoad => rfl
  | referred => rfl
  | vehicleWait => rfl
  | ending => rfl

theorem planCompartment_opened {r : OpenLoad} (hp : planInRange compartment recipe request = true)
    (h : s.load.state = .opened) (hr : s.load.record = some r) :
    planCompartment compartment recipe (n.val + 1) request s
      = if s.monitor.rackStop then (s, .refused .rackStopped)
        else
          match planGrant s r n compartment recipe request with
          | .error a => (s, a)
          | .ok (preset, p) =>
            (acceptPlan r n compartment recipe preset p s, .okWith (field 2 preset)) := by
  rw [planCompartment, armOf_val]; dsimp only; rw [hp, h, hr]; rfl

end Owner

/-- The state after an accepted plan (R60, R103). -/
theorem acceptPlan_eq {s : State} {r : OpenLoad} (hr : s.load.record = some r) (n : ArmId)
    (compartment recipe preset : Nat) (p : Product) :
    acceptPlan r n compartment recipe preset p s
      = { State.updAllocation s r.account p.productClass fun x =>
            { x with reserved := x.reserved + reservationOf p.basis preset } with
          load.idleTimer := .stopped
          load.record := some
            { r with plan := r.plan ++
                [{ compartment := compartment, recipe := recipe, arm := n, preset := preset,
                   reservation := reservationOf p.basis preset, state := .armed }] }
          arms := s.arms.set n
            { s.arm n with
              control.state := .armed
              control.binding := some
                { compartment := compartment, recipe := recipe, preset := preset,
                  basis := p.basis, reservation := reservationOf p.basis preset } } } := by
  unfold acceptPlan State.updRecord
  dsimp only
  rw [hr]
  rfl

/-- Settles O21: the owner by the ranges, the load state, the latch and the grant; the grant by its nine
checks in order. -/
theorem planArmsAndReserves : Obligations.PlanArmsAndReserves := by
  unfold Obligations.PlanArmsAndReserves
  refine ⟨fun f s compartment recipe request n r h hr hp hl hrec hk => ?opened,
    ⟨fun f s compartment recipe arm request h hr =>
      ⟨fun hv => fixed_done h hr (planCompartment_badValue hv), fun h1 h4 hp => ?closed⟩,
      fun _ _ _ => planInRange_iff⟩,
    fun s r n compartment recipe request preset p hg => ?passed,
    fun s r n compartment recipe request => ?checks, fun s q n => plumbed_iff, fun _ _ _ => rfl⟩
  case opened =>
    have howner := planCompartment_opened (n := n) hp
      ((congrArg LoadController.state (frameTaken_load s)).trans hl)
      ((congrArg LoadController.record (frameTaken_load s)).trans hrec)
    rw [frameTaken_monitor, hk, if_neg Bool.false_ne_true, frameTaken_planGrant] at howner
    refine ⟨fun a hg => ?refused, fun preset p hg => ?accepted⟩ <;> rw [hg] at howner
    case refused => exact fixed_done h hr howner
    case accepted =>
      dsimp only at howner
      rw [acceptPlan_eq ((congrArg LoadController.record (frameTaken_load s)).trans hrec),
        frameTaken_arms, frameTaken_arm] at howner
      exact fixed_done h hr howner
  case closed =>
    obtain ⟨n, rfl⟩ : ∃ n : ArmId, arm = n.val + 1 := ⟨⟨arm - 1, by omega⟩, by simp; omega⟩
    refine ⟨fun hl => fixed_done h hr (planCompartment_wrongState hp
      (by rw [frameTaken_load]; exact hl)), fun r hl hrec hk => fixed_done h hr ?_⟩
    dsimp only
    rw [planCompartment_opened (r := r) hp (by rw [frameTaken_load]; exact hl)
      (by rw [frameTaken_load]; exact hrec), if_pos (by rw [frameTaken_monitor]; exact hk)]
  case passed =>
    obtain ⟨c, hc, hcheck, hplace⟩ := planGrant_ok hg
    obtain ⟨hroom, hfree⟩ := planPlace_none hplace
    obtain ⟨hidle, hk, ⟨q, hq, hprod, hm, hb⟩, hload, hcomp⟩ := planChecks_ok hc
    exact ⟨hidle, ⟨q, c, hq, hprod, hm, hb, hk, hcomp, hcheck⟩, hload, hroom, hfree⟩
  case checks =>
    refine ⟨fun h => planGrant_error (planChecks_busy h), fun h =>
      ⟨fun hk => planGrant_error (planChecks_noPlace h hk), fun k hk =>
        ⟨fun hq => planGrant_error (planChecks_noRecipe h hk hq), fun q hq =>
          ⟨fun hm => planGrant_error (planChecks_mismatch h hk hq hm), fun p hm hb hp => ?classes⟩⟩⟩⟩
    have hcheck := planChecks_loadable h hk hq hm hb hp
    refine ⟨fun hc => planGrant_error ?loadClass, fun hc => ⟨fun hcc => planGrant_error ?place,
      fun hcc => ?allocation⟩⟩ <;>
    rw [show inClasses p.productClass r.classes = _ from hc] at hcheck
    case loadClass => exact hcheck
    case place =>
      rw [show inClasses p.productClass k.classes = _ from hcc] at hcheck
      exact hcheck
    case allocation =>
      rw [show inClasses p.productClass k.classes = _ from hcc] at hcheck
      refine ⟨fun d hd => planGrant_denied hcheck hd, fun preset hd => ⟨fun h8 => ?full,
        fun h8 => ⟨fun hbusy => ?busy, fun hfree => ?free⟩⟩⟩ <;>
      refine (planGrant_allocated hcheck hd).trans ?_
      case full => rw [planPlace_full h8]
      case busy => rw [planPlace_busy h8 hbusy]
      case free => rw [planPlace_free h8 hfree]

end Sys2Proof.Machine
end

section
/-! SUPPORT AND PROOF. The reading requests (R18, R20, R41, R69, R98, R123, R136, R140, R178): each answers
from the record and changes nothing, and the lengths of what they answer. -/

namespace Sys2Proof.Machine

/-! ### The owners -/

section Owners
variable {s : State} {v : Nat}

theorem getDriver_entry {d : Driver} (hv : cardInRange v = true) (h : s.driver v = some d) :
    getDriver v s = (s, .okWith (driverFields d)) := by rw [getDriver, hv, h]; rfl

theorem getDriver_absent (hv : cardInRange v = true) (h : s.driver v = none) :
    getDriver v s = (s, .refused .notFound) := by rw [getDriver, hv, h]; rfl

theorem getVehicle_entry {d : Vehicle} (hv : vehicleInRange v = true) (h : s.vehicle v = some d) :
    getVehicle v s = (s, .okWith (vehicleFields d)) := by rw [getVehicle, hv, h]; rfl

theorem getVehicle_absent (hv : vehicleInRange v = true) (h : s.vehicle v = none) :
    getVehicle v s = (s, .refused .notFound) := by rw [getVehicle, hv, h]; rfl

theorem getAccount_entry {a : Account} (hv : 1 ≤ v) (h : s.account v = some a) :
    getAccount v s = (s, .okWith (accountFields a)) := by
  rw [getAccount, if_neg (Nat.ne_of_gt hv), h]

theorem getAccount_absent (hv : 1 ≤ v) (h : s.account v = none) :
    getAccount v s = (s, .refused .notFound) := by
  rw [getAccount, if_neg (Nat.ne_of_gt hv), h]

theorem readNote_section {t : Note} {rest : List Note} {bytes : List Byte} (hv : v ≤ 8)
    (h : s.store.notes = t :: rest) (ht : t.section v = some bytes) :
    readNote v s = (s, .okWith bytes) := by
  rw [readNote, if_neg (Nat.not_lt.mpr hv), h]; dsimp only; rw [ht]

end Owners

/-- The fields of GET LOAD are read from records that a valid frame leaves. -/
theorem frameTaken_loadFields (s : State) : (frameTaken s).loadFields = s.loadFields := by
  simp only [State.loadFields, frameTaken_load, frameTaken_permit]

theorem frameTaken_timerLeft (s : State) : (frameTaken s).timerLeft = s.timerLeft := by
  simp only [State.timerLeft, frameTaken_load]

theorem frameTaken_lines (s : State) : (frameTaken s).lines = s.lines := by
  simp only [State.lines, frameTaken_load]

/-! ### The lengths -/

theorem length_flatten_map {α β : Type} {f : α → List β} {k : Nat} (h : ∀ a, (f a).length = k)
    (l : List α) : (l.map f).flatten.length = k * l.length := by
  induction l with
  | nil => rfl
  | cons a l ih =>
    rw [List.map_cons, List.flatten_cons, List.length_append, ih, h, List.length_cons]
    ring

theorem noLoadFields_length : noLoadFields.length = 24 := rfl

theorem openLoadFields_length (ending : Bool) (r : OpenLoad) :
    (openLoadFields ending r).length = 24 := by
  simp only [openLoadFields, List.length_append, field_length]

theorem permitFields_length (p : Permit) : (permitFields p).length = 24 := by
  simp only [permitFields, List.length_append, field_length]

/-- A record's fields or, without a record, as many zeros. -/
theorem length_getD_map {α : Type} {f : α → List Byte} {z : List Byte} {k : Nat}
    (h : ∀ a, (f a).length = k) (hz : z.length = k) (o : Option α) :
    ((o.map f).getD z).length = k := by
  cases o with
  | none => exact hz
  | some a => exact h a

theorem loadFields_length (s : State) : s.loadFields.length = 24 := by
  unfold State.loadFields
  cases s.load.state with
  | noLoad => exact noLoadFields_length
  | referred => simp only [List.length_append, field_length]
  | vehicleWait => exact length_getD_map permitFields_length noLoadFields_length _
  | opened => exact length_getD_map (openLoadFields_length false) noLoadFields_length _
  | ending => exact length_getD_map (openLoadFields_length true) noLoadFields_length _

theorem entryBytes_length (e : PlanEntry) : e.bytes.length = 9 := by
  simp only [PlanEntry.bytes, List.length_append, field_length]

theorem armFields_length (a : Arm) : (armFields a).length = 35 := by
  unfold armFields
  dsimp only
  simp only [List.length_append, field_length, flagField_length, beSigned_length]

theorem permissiveFields_length (m : Monitor) (v : Bool) : (permissiveFields m v).length = 20 := by
  have arm (n : ArmId) : (field 1 (m.stow.get n).accepted ++ field 1 (m.coupler.get n).accepted
      ++ field 1 (m.armSettling n)).length = 3 := by simp only [List.length_append, field_length]
  rw [permissiveFields, List.length_append, length_flatten_map arm]
  simp only [List.length_append, field_length, flagField_length]
  rfl

theorem configBytes_length (c : InjectorConfig) : c.bytes.length = 18 := by
  simp only [InjectorConfig.bytes, List.length_append, field_length]

theorem shotFields_length (st : InjectorState) : st.shotFields.length = 6 := by
  unfold InjectorState.shotFields
  split <;> simp only [List.length_append, field_length]

theorem injectorFields_length (j : Injector) : (injectorFields j).length = 31 := by
  unfold injectorFields
  split
  · exact be_length ..
  · simp only [List.length_append, field_length, configBytes_length, shotFields_length]

theorem headerBytes_length (t : Note) : t.headerBytes.length = 28 := by
  simp only [Note.headerBytes, List.length_append, field_length]

theorem additiveBytes_length (e : AdditiveEntry) : e.bytes.length = 14 := by
  simp only [AdditiveEntry.bytes, List.length_append, field_length]

theorem lineBytes_length (l : Line) : l.bytes.length = 33 + 14 * l.entries.length := by
  rw [Line.bytes, List.length_append, length_flatten_map additiveBytes_length]
  simp only [List.length_append, field_length, beSigned_length]

theorem eventBytes_length (e : Event) : e.bytes.length = 12 := by
  simp only [Event.bytes, List.length_append, field_length]

/-- Settles O24: each request reads its record from the state that the frame leaves, and the lengths add
up field by field. -/
theorem readsAlterNoRecord : Obligations.ReadsAlterNoRecord := by
  unfold Obligations.ReadsAlterNoRecord
  refine ⟨fun f s v => ⟨fun h hr h1 h2 d hd => fixed_done h hr (getDriver_entry
        (cardInRange_iff.mpr ⟨h1, h2⟩) ((frameTaken_driver ..).trans hd)),
      fun h hr h1 h2 d hd => fixed_done h hr (getVehicle_entry
        (vehicleInRange_iff.mpr ⟨h1, h2⟩) ((frameTaken_vehicle ..).trans hd)),
      fun h hr h1 a ha => fixed_done h hr (getAccount_entry h1 ((frameTaken_account ..).trans ha)),
      fun h hb => ?load, fun n h hr => ?totals, fun n h hr => ?arm, fun h hb => ?permissives,
      fun i h hr => ?injector, fun h hr h8 t rest bytes hn ht => fixed_done h hr (readNote_section h8
        ((congrArg NoteStore.notes (frameTaken_store s)).trans hn) ht)⟩,
    fun f s v => ⟨fun h hr h1 h2 hd => fixed_done h hr (getDriver_absent
        (cardInRange_iff.mpr ⟨h1, h2⟩) ((frameTaken_driver ..).trans hd)),
      fun h hr h1 h2 hd => fixed_done h hr (getVehicle_absent
        (vehicleInRange_iff.mpr ⟨h1, h2⟩) ((frameTaken_vehicle ..).trans hd)),
      fun h hr h1 ha => fixed_done h hr (getAccount_absent h1 ((frameTaken_account ..).trans ha))⟩,
    loadFields_length, entryBytes_length, armFields_length, permissiveFields_length,
    injectorFields_length, headerBytes_length, lineBytes_length, eventBytes_length⟩
  case load =>
    have hg : exec (.getLoad f) s = answered 0x34 f (getLoad (frameTaken s)).2 (getLoad (frameTaken s)).1 :=
      bodyless_answered h hb
    rw [hg, getLoad, frameTaken_loadFields, frameTaken_timerLeft, frameTaken_lines, frameTaken_plan,
      frameTaken_load]
  case totals =>
    refine fixed_done h hr ?_
    dsimp only
    rw [getTotals, armOf_val]; dsimp only; rw [frameTaken_arm]
  case arm =>
    refine fixed_done h hr ?_
    dsimp only
    rw [getArm, armOf_val]; dsimp only; rw [frameTaken_arm]
  case permissives =>
    have hg : exec (.getPermissives f) s
        = answered 0x50 f (getPermissives (frameTaken s)).2 (getPermissives (frameTaken s)).1 :=
      bodyless_answered h hb
    rw [hg, getPermissives, frameTaken_monitor, frameTaken_bay]
  case injector =>
    refine fixed_done h hr ?_
    dsimp only
    rw [getInjector, injectorOf_val]; dsimp only; rw [frameTaken_injector]

end Sys2Proof.Machine
end

section
/-! SUPPORT AND PROOF. END LOAD and the idle timer (sections 4.5 and 4.6): what the fold over the arms of
the plan makes of arms, accounts and plan, and how the load is sealed. -/

namespace Sys2Proof.Machine

/-! ### The fold over the arms -/

/-- Only arms, accounts and the open load record may have changed. -/
def EndFrame (s t : State) : Prop :=
  t = { s with arms := t.arms, accounts := t.accounts, load.record := t.load.record }

theorem EndFrame.trans {s t u : State} (a : EndFrame s t) (b : EndFrame t u) : EndFrame s u := by
  unfold EndFrame at *
  rw [b, a]

/-- What END LOAD makes of an arm of the plan: an ARMED one is IDLE, a flowing or HELD one in CLOSING with
outcome STOPPED, any other as it was (R65). -/
def Arm.EndedAs (a b : Arm) : Prop :=
  (a.control.state = .armed → b = a.toIdle)
    ∧ ((a.flowing = true ∨ a.control.state = .held) → b =
        { a with
          channel.overspeedCount := 0
          control.state := .closing, control.outcome := some .stopped
          control.holdCause := none, control.closeGross := a.figures.gross
          control.valve := .closed, control.pump := false, control.flowTarget := 0
          control.noFlowTimer := .stopped, control.settle := 0
          control.closingTimer := .start 60000
          components := a.components.map fun x => { x with owed := 0 }
          trailingTimer := .start 30000 })
    ∧ (a.control.state = .closing ∨ a.control.state = .idle → b = a)

theorem Arm.closedFor_stopped {a : Arm} (h : a.inRun = false) (s : State) :
    a.closedFor s .stopped =
      { a with
        channel.overspeedCount := 0
        control.state := .closing, control.outcome := some .stopped
        control.holdCause := none, control.closeGross := a.figures.gross
        control.valve := .closed, control.pump := false, control.flowTarget := 0
        control.noFlowTimer := .stopped, control.settle := 0
        control.closingTimer := .start 60000
        components := a.components.map fun x => { x with owed := 0 }
        trailingTimer := .start 30000 } := by
  rw [Arm.closedFor, h]; rfl

/-- The entries of arms not yet met, and of those met the ones that are not ARMED. -/
def keptBy (met : List ArmId) (e : PlanEntry) : Bool := !(decide (e.arm ∈ met) && e.state = .armed)

/-- The fold over the arms of the plan has met some of them. -/
structure ArmsMet (s : State) (r : OpenLoad) (met : List ArmId) (t : State) : Prop where
  rest : EndFrame s t
  record : t.load.record = some { r with plan := r.plan.filter (keptBy met) }
  others : ∀ n, n ∉ met → t.arm n = s.arm n
  ended : ∀ n, n ∈ met → (s.arm n).EndedAs (t.arm n)
  accounts : Released s t r.account (r.plan.filter fun e => !keptBy met e)

theorem EndFrame.recipeClass {s t : State} (h : EndFrame s t) (code : Nat) :
    t.recipeClass code = s.recipeClass code :=
  recipeClass_congr (by rw [h]) (by rw [h]) code

/-- A class with so much less reserved. -/
def Allocation.freed (k : Nat) (a : Allocation) : Allocation := { a with reserved := a.reserved - k }

/-- One more reservation is released. -/
theorem Released.more {s t u : State} {account : Nat} {l m : List PlanEntry} {c : ClassId} {k : Nat}
    (h : Released s t account l)
    (hu : u.accounts = (release account c k t).accounts)
    (hm : ∀ d, s.reservedBy m d = s.reservedBy l d + if d = c then k else 0) :
    Released s u account m := by
  obtain ⟨hlen, hrel⟩ := h
  have hu' : u.accounts = t.accounts.map fun a =>
      if a.number = account then
        { a with classes := a.classes.set c ((a.classes.get c).freed k) }
      else a := hu
  refine ⟨by rw [hu', List.length_map, hlen], fun i a b ha hb => ?_⟩
  rw [hu', List.getElem?_map, Option.map_eq_some_iff] at hb
  obtain ⟨x, hx, rfl⟩ := hb
  obtain ⟨hnum, hhold, hcls⟩ := hrel i a x ha hx
  by_cases hn : x.number = account
  · have hna : a.number = account := hnum.symm.trans hn
    rw [if_pos hn]
    refine ⟨hnum, hhold, fun d => ?_⟩
    obtain ⟨hrem, hres⟩ := hcls d
    rw [if_pos hna] at hres ⊢
    rw [hm d]
    by_cases hd : d = c
    · subst hd
      rw [Bank8.get_set_same, if_pos rfl]
      exact ⟨hrem, by change (x.classes.get d).reserved - k = _; omega⟩
    · rw [Bank8.get_set_of_ne _ _ hd, if_neg hd]
      exact ⟨hrem, hres⟩
  · rw [if_neg hn]
    have hna : ¬ a.number = account := fun h => hn (hnum.trans h)
    refine ⟨hnum, hhold, fun d => ?_⟩
    obtain ⟨hrem, hres⟩ := hcls d
    rw [if_neg hna] at hres ⊢
    exact ⟨hrem, hres⟩

section Turn
variable {s t : State} {r : OpenLoad} {met : List ArmId} {n : ArmId}

theorem keptBy_of_ne {e : PlanEntry} (h : e.arm ≠ n) : keptBy (n :: met) e = keptBy met e := by
  simp only [keptBy, List.mem_cons, h, false_or]

theorem keptBy_unmet {e : PlanEntry} (h : e.arm ∉ met) : keptBy met e = true := by
  simp only [keptBy, h, decide_false, Bool.false_and, Bool.not_false]

/-- An entry of an arm that is not yet met is found as before. -/
theorem ArmsMet.entryOf (h : ArmsMet s r met t) (hr : s.load.record = some r) (hn : n ∉ met) :
    t.entryOf n = s.entryOf n := by
  simp only [State.entryOf, State.plan, h.record, hr, Option.map_some, Option.getD_some]
  rw [List.find?_filter]
  congr 1
  funext e
  by_cases he : e.arm = n
  · simp [keptBy_unmet (met := met) (e := e) (by rw [he]; exact hn), he]
  · simp [he]

/-- Nothing changes at an arm whose entry, if any, stays. -/
theorem ArmsMet.unmoved (h : ArmsMet s r met t) (hn : n ∉ met)
    (hstay : ∀ e ∈ r.plan, e.arm = n → e.state ≠ .armed) {u : State} (hu : EndFrame t u)
    (hrec : u.load.record = t.load.record) (hacc : u.accounts = t.accounts)
    (ho : ∀ k, k ≠ n → u.arm k = t.arm k) (he : (s.arm n).EndedAs (u.arm n)) :
    ArmsMet s r (n :: met) u := by
  have hkept : ∀ e ∈ r.plan, keptBy (n :: met) e = keptBy met e := fun e hm => by
    by_cases hen : e.arm = n
    · rw [keptBy_unmet (met := met) (by rw [hen]; exact hn), keptBy, decide_eq_false (hstay e hm hen), Bool.and_false,
        Bool.not_false]
    · exact keptBy_of_ne hen
  refine ⟨h.rest.trans hu, ?_, fun k hk => ?_, fun k hk => ?_, ?_⟩
  · rw [hrec, h.record, List.filter_congr hkept]
  · rw [List.mem_cons, not_or] at hk
    rw [ho k hk.1, h.others k hk.2]
  · by_cases hkn : k = n
    · subst hkn; exact he
    · rw [ho k hkn]
      exact h.ended k ((List.mem_cons.mp hk).resolve_left hkn)
  · rw [List.filter_congr fun e hm => congrArg Bool.not (hkept e hm)]
    unfold Released
    rw [hacc]
    exact h.accounts

/-- The turn of an arm whose entry is ARMED cancels it. -/
theorem ArmsMet.cancelled (h : ArmsMet s r met t) (hs : PlanSound s) (hr : s.load.record = some r)
    (hn : n ∉ met) {e : PlanEntry} (he : e ∈ r.plan) (hen : e.arm = n) (hst : e.state = .armed)
    (hte : t.entryOf n = some e) : ArmsMet s r (n :: met) (cancelArmed n t) := by
  have hplan : s.plan = r.plan := by simp only [State.plan, hr, Option.map_some, Option.getD_some]
  obtain ⟨hnodup, -, -, hent, -⟩ := id hs
  rw [hplan] at hnodup
  obtain ⟨c, hc⟩ := hs.entry_class (hplan ▸ he)
  have hrel : releaseEntry e t = release r.account c e.reservation t := by
    rw [releaseEntry, h.record, h.rest.recipeClass, hc]
  have hcancel : cancelArmed n t
      = ((release r.account c e.reservation t).updRecord (OpenLoad.withoutArm n)).updArm n
          Arm.toIdle := by
    rw [cancelArmed, hte, ← hrel]; exact if_pos hst
  have harm : (s.arm n).control.state = .armed := by
    obtain ⟨-, hag, -⟩ := hent e (hplan ▸ he)
    rw [EntryAgrees, hst, hen] at hag
    exact hag
  have hunique : ∀ x ∈ r.plan, x.arm = n → x = e := fun x hx hxn => by
    have hfx := entryOf_mem hs.1 (hplan ▸ hx)
    have hfe := entryOf_mem hs.1 (hplan ▸ he)
    rw [hxn] at hfx; rw [hen] at hfe
    exact Option.some.inj (hfx.symm.trans hfe)
  have hout : ∀ x ∈ r.plan, x.arm = n → keptBy (n :: met) x = false := fun x hx hxn => by
    rw [hunique x hx hxn, keptBy, hen, hst]; simp
  have honly : ∀ x ∈ r.plan, (keptBy (n :: met) x = true ↔ keptBy met x = true ∧ x.arm ≠ n) := by
    intro x hx
    by_cases hxn : x.arm = n
    · rw [hout x hx hxn]; simp [hxn]
    · rw [keptBy_of_ne hxn]; simp [hxn]
  refine ⟨?rest, ?record, fun k hk => ?others, fun k hk => ?ended, ?accounts⟩
  case rest => exact h.rest.trans (cancelArmed_frame n t).1
  case record =>
    rw [hcancel]
    change t.load.record.map (OpenLoad.withoutArm n) = _
    rw [h.record]
    simp only [Option.map_some, OpenLoad.withoutArm, List.filter_filter]
    congr 2
    refine List.filter_congr fun x hx => ?_
    rw [Bool.eq_iff_iff, honly x hx, Bool.and_eq_true, decide_eq_true_eq, and_comm]
  case others =>
    rw [List.mem_cons, not_or] at hk
    rw [(cancelArmed_frame n t).2 k hk.1, h.others k hk.2]
  case ended =>
    by_cases hkn : k = n
    · subst hkn
      rw [hcancel, arm_updArm_same]
      change (s.arm k).EndedAs (t.arm k).toIdle
      rw [h.others k hn]
      refine ⟨fun _ => rfl, fun hf => ?_, fun hf => ?_⟩
      · simp [Arm.flowing, harm, ArmState.flowing] at hf
      · rw [harm] at hf; simp at hf
    · rw [(cancelArmed_frame n t).2 k hkn]
      exact h.ended k ((List.mem_cons.mp hk).resolve_left hkn)
  case accounts =>
    refine h.accounts.more (by rw [hcancel]; rfl) fun d => ?_
    rw [← s.reservedBy_filter (fun x => decide (x.arm ≠ n)) (r.plan.filter fun x => !keptBy (n :: met) x)]
    have hrest : (r.plan.filter fun x => !keptBy (n :: met) x).filter (fun x => decide (x.arm ≠ n))
        = r.plan.filter fun x => !keptBy met x := by
      rw [List.filter_filter]
      refine List.filter_congr fun x hx => ?_
      by_cases hxn : x.arm = n
      · simp [hxn, keptBy_unmet (met := met) (e := x) (hxn ▸ hn)]
      · simp [hxn, keptBy_of_ne (met := met) hxn]
    have hgone : (r.plan.filter fun x => !keptBy (n :: met) x).filter
        (fun x => !decide (x.arm ≠ n)) = [e] := by
      rw [List.filter_filter, ← filter_arm_eq hnodup he]
      refine List.filter_congr fun x hx => ?_
      by_cases hxn : x.arm = n
      · simp [hxn, hen, hout x hx hxn]
      · simp [hxn, hen]
    rw [hrest, hgone, State.reservedBy_cons, State.reservedBy_nil, hc]
    simp only [Option.some.injEq, Nat.add_zero, eq_comm]

/-- The turn of an arm of END LOAD. -/
theorem ArmsMet.turn (h : ArmsMet s r met t) (hs : PlanSound s) (hl : s.load.state ≠ .noLoad)
    (hr : s.load.record = some r) (hn : n ∉ met) : ArmsMet s r (n :: met) (endArm n t) := by
  have hplan : s.plan = r.plan := by simp only [State.plan, hr, Option.map_some, Option.getD_some]
  have hentry := h.entryOf hr hn
  obtain ⟨-, -, hidle, hent, -⟩ := id hs
  have harm := h.others n hn
  unfold endArm
  rw [hentry]
  cases hse : s.entryOf n with
  | none =>
    have hfree : ∀ e ∈ s.plan, e.arm ≠ n := fun e he hen => by
      rw [← hen, entryOf_mem hs.1 he] at hse; cases hse
    have hrun : (s.arm n).inRun = false := by
      by_contra hrun
      have hm := meterRun_iff.mpr ⟨n, Bool.eq_true_of_not_eq_false hrun⟩
      rw [hs.no_run hl] at hm
      cases hm
    have hst := (hidle n).mpr ⟨hrun, hfree⟩
    refine h.unmoved hn (fun e he hen => absurd hen (hfree e (hplan ▸ he))) rfl rfl rfl
      (fun _ _ => rfl) ⟨fun ha => ?_, fun hf => ?_, fun _ => harm⟩
    · rw [hst] at ha; cases ha
    · simp [Arm.flowing, hst, ArmState.flowing] at hf
  | some e =>
    obtain ⟨he, hen⟩ := entryOf_spec hse
    have honly : ∀ x ∈ r.plan, x.arm = n → x = e := fun x hx hxn => by
      have hfx := entryOf_mem hs.1 (hplan ▸ hx)
      rw [hxn, hse] at hfx
      exact (Option.some.inj hfx).symm
    obtain ⟨hrun, hag, -⟩ := hent e he
    rw [hen] at hrun
    cases hst : e.state with
    | armed =>
      dsimp only
      rw [if_pos hst]
      exact h.cancelled hs hr hn (hplan ▸ he) hen hst (hentry.trans hse)
    | active =>
      dsimp only
      rw [if_neg (by rw [hst]; exact EntryState.noConfusion)]
      have hbeyond : (s.arm n).beyondArmed = true := by
        rw [EntryAgrees, hst, hen] at hag; exact hag
      have hstay : ∀ x ∈ r.plan, x.arm = n → x.state ≠ .armed := fun x hx hxn => by
        rw [honly x hx hxn, hst]; exact EntryState.noConfusion
      unfold stopArmNow
      rw [harm]
      split
      · next hflow =>
        rw [(enterClosing_frame .stopped n t).2 BatchOutcome.noConfusion BatchOutcome.noConfusion]
        refine h.unmoved hn hstay rfl rfl rfl (fun k hk => arm_updArm_of_ne _ _ hk) ?_
        rw [arm_updArm_same, harm]
        refine ⟨fun ha => ?_, fun _ => Arm.closedFor_stopped hrun t, fun hc => ?_⟩
        · simp [Arm.beyondArmed, ha, ArmState.beyondArmed] at hbeyond
        · obtain hc | hc := hc <;> simp [Arm.flowing, hc, ArmState.flowing] at hflow
      · next hflow =>
        refine h.unmoved hn hstay rfl rfl rfl (fun _ _ => rfl) ?_
        refine ⟨fun ha => ?_, fun hf => absurd ?_ hflow, fun _ => harm⟩
        · simp [Arm.beyondArmed, ha, ArmState.beyondArmed] at hbeyond
        · simpa only [Bool.or_eq_true, decide_eq_true_eq] using hf

end Turn

theorem Released.refl (s : State) (account : Nat) : Released s s account [] := by
  refine ⟨rfl, fun k a b ha hb => ?_⟩
  obtain rfl := Option.some.inj (ha.symm.trans hb)
  exact ⟨rfl, rfl, fun c => ⟨rfl, by rw [State.reservedBy_nil, ite_self, Nat.sub_zero]⟩⟩

theorem keptBy_nil (e : PlanEntry) : keptBy [] e = true := keptBy_unmet List.not_mem_nil

theorem armsMet_none {s : State} {r : OpenLoad} (hr : s.load.record = some r) : ArmsMet s r [] s where
  rest := rfl
  record := by rw [hr, List.filter_eq_self.mpr fun e _ => keptBy_nil e]
  others _ _ := rfl
  ended n hn := absurd hn List.not_mem_nil
  accounts := by
    have hnone : (r.plan.filter fun e => !keptBy [] e) = [] :=
      List.filter_eq_nil_iff.mpr fun e _ => by rw [keptBy_nil]; exact Bool.false_ne_true
    rw [hnone]
    exact .refl s _

/-- The whole fold over the arms of the plan. -/
theorem forArms_met {s : State} {r : OpenLoad} (hs : PlanSound s) (hl : s.load.state ≠ .noLoad)
    (hr : s.load.record = some r) : ArmsMet s r [3, 2, 1, 0] (forArms endArm s) :=
  ((((armsMet_none hr).turn hs hl hr (by decide)).turn hs hl hr (by decide)).turn hs hl hr
    (by decide)).turn hs hl hr (by decide)

theorem keptBy_all (e : PlanEntry) : keptBy [3, 2, 1, 0] e = decide (e.state ≠ .armed) := by
  have hm : ∀ n : ArmId, n ∈ [(3 : ArmId), 2, 1, 0] := by decide
  rw [keptBy, decide_eq_true (hm e.arm), Bool.true_and, decide_not]

/-! ### The load state and the note -/

/-- The state in which END LOAD leaves an OPEN load whose plan is not emptied. -/
def State.endingWith (s : State) (r : OpenLoad) (arms : Bank4 Arm) (accounts : List Account) : State :=
  { s with
    arms := arms, accounts := accounts
    load.state := .ending, load.idleTimer := .stopped, load.record := some r
    console.line1 := .ending r.note, console.prompt := none }

theorem enterLoad_ending {s : State} (h : s.load.state = .opened) (r : OpenLoad)
    (arms : Bank4 Arm) (accounts : List Account) :
    enterLoad .ending { s with
      arms := arms, accounts := accounts, load.idleTimer := .stopped, load.record := some r }
      = s.endingWith r arms accounts := by
  rw [enterLoad_of_ne]
  · rfl
  · exact fun he => by rw [show _ = LoadState.opened from h] at he; cases he

theorem storeNote_eq {s : State} (h : s.load.state ≠ .noLoad) (r : OpenLoad) (cause : EndCause) :
    storeNote r cause s = { s with
      store.notes := s.store.notes ++ [noteOf r cause s.port.clock]
      load.state := .noLoad, load.record := none, load.idleTimer := .stopped
      console.line1 := .presentCard, console.line2 := .blank
      console.prompt := some .card } := by
  unfold storeNote
  dsimp only
  rw [enterLoad_of_ne]
  · rfl
  · exact h

theorem sealLoad_ending {s : State} {r : OpenLoad} {cause : EndCause} (hc : r.endCause = some cause)
    (arms : Bank4 Arm) (accounts : List Account) :
    sealLoad (s.endingWith r arms accounts)
      = post .loadSealed 0 cause.code r.note { s with
          arms := arms, accounts := accounts
          store.notes := s.store.notes ++ [noteOf r cause s.port.clock]
          load.state := .noLoad, load.record := none, load.idleTimer := .stopped
          console.line1 := .presentCard, console.line2 := .blank
          console.prompt := some .card } := by
  have hr : (s.endingWith r arms accounts).load.record = some r := rfl
  rw [sealLoad, hr]
  dsimp only
  rw [hc]
  dsimp only
  rw [storeNote_eq LoadState.noConfusion]
  rfl

/-- The state that END LOAD in OPEN begins its fold with. -/
def endingStart (cause : EndCause) (s : State) : State :=
  stopIdleTimer (s.updRecord fun r => { r with endCause := some cause })

theorem endingStart_eq {s : State} {r : OpenLoad} (hr : s.load.record = some r) (cause : EndCause) :
    endingStart cause s
      = { s with load.idleTimer := .stopped, load.record := some { r with endCause := some cause } } := by
  unfold endingStart State.updRecord
  rw [hr]
  rfl

/-- END LOAD in OPEN, from what its fold leaves. -/
theorem endOpenLoad_of {s : State} {cause : EndCause} {r : OpenLoad} {arms : Bank4 Arm}
    {accounts : List Account} (hl : s.load.state = .opened)
    (hu : forArms endArm (endingStart cause s) = { s with
      arms := arms, accounts := accounts, load.idleTimer := .stopped, load.record := some r }) :
    endOpenLoad cause s
      = if r.plan.isEmpty then sealLoad (s.endingWith r arms accounts)
        else s.endingWith r arms accounts := by
  rw [endOpenLoad_eq]
  change (let u := enterLoad .ending (forArms endArm (endingStart cause s))
    if u.planEmpty then sealLoad u else u) = _
  rw [hu, enterLoad_ending hl]
  rfl

theorem endArm_planless {s : State} (h : s.plan = []) (n : ArmId) : endArm n s = s := by
  rw [endArm, State.entryOf, h]; rfl

/-- With an empty plan END LOAD seals the load at once. -/
theorem endOpenLoad_planless {s : State} {r : OpenLoad} (hl : s.load.state = .opened)
    (hr : s.load.record = some r) (hp : r.plan = []) (cause : EndCause) :
    endOpenLoad cause s
      = post .loadSealed 0 cause.code r.note { s with
          store.notes := s.store.notes ++
            [{ number := r.note, opened := r.opened, closed := s.port.clock, card := r.card,
               vehicle := r.vehicle, account := r.account, source := r.source,
               endCause := cause, lines := r.lines }]
          load.state := .noLoad, load.record := none, load.idleTimer := .stopped
          console.line1 := .presentCard, console.line2 := .blank
          console.prompt := some .card } := by
  have hplan : (endingStart cause s).plan = [] := by rw [endingStart_eq hr]; exact hp
  have hfold : forArms endArm (endingStart cause s) = endingStart cause s :=
    forArms_invariant (· = endingStart cause s) endArm
      (fun n u hu => by rw [hu]; exact endArm_planless hplan n) rfl
  rw [endOpenLoad_of (r := { r with endCause := some cause }) (arms := s.arms)
    (accounts := s.accounts) hl (by rw [hfold, endingStart_eq hr])]
  change (if r.plan.isEmpty then _ else _) = _
  rw [hp]
  exact sealLoad_ending (r := { r with endCause := some cause }) rfl s.arms s.accounts

/-! ### The idle timer -/

/-- Settles O23: the expiry is END LOAD in OPEN, which an empty plan lets seal at once. -/
theorem idleTimerSealsTheLoad : Obligations.IdleTimerSealsTheLoad := by
  unfold Obligations.IdleTimerSealsTheLoad
  intro s r hr ht hl hrec hp
  refine ⟨?_, endOpenLoad_planless hl hrec hp .idleTimeout⟩
  rw [exec, execIdleTimerExpiry, hr, ht, hl]; rfl

/-! ### END LOAD with a plan -/

section WithPlan
variable {s : State} {r : OpenLoad}

theorem endingStart_planSound (cause : EndCause) (h : PlanSound s) :
    PlanSound (endingStart cause s) := by
  have hkept : BayKept s.scope s (endingStart cause s) :=
    (updRecord_bayKept s (f := fun r => { r with endCause := some cause }) (fun _ => rfl)
      fun _ => rfl).trans (.of_arms rfl rfl rfl rfl rfl rfl rfl fun _ => .refl _)
  exact hkept.planSound h

/-- What the fold over the arms leaves of an OPEN load. -/
theorem endingFold {cause : EndCause} (hs : PlanSound s) (hl : s.load.state = .opened)
    (hr : s.load.record = some r) :
    ∃ u : State, Released s u r.account (r.plan.filter (·.state = .armed))
      ∧ (∀ n, (s.arm n).EndedAs (u.arm n))
      ∧ forArms endArm (endingStart cause s) = { s with
          arms := u.arms, accounts := u.accounts, load.idleTimer := .stopped
          load.record := some
            { r with endCause := some cause, plan := r.plan.filter (·.state ≠ .armed) } } := by
  have hstart := endingStart_eq hr cause
  have hmet := forArms_met (r := { r with endCause := some cause }) (endingStart_planSound cause hs)
    (by rw [hstart]; exact fun he => by rw [show _ = LoadState.opened from hl] at he; cases he)
    (by rw [hstart])
  have hkept : ∀ e ∈ r.plan, (!keptBy [3, 2, 1, 0] e) = decide (e.state = .armed) := fun e _ => by
    rw [keptBy_all, decide_not, Bool.not_not]
  refine ⟨forArms endArm (endingStart cause s), ?_, fun n => ?_, ?_⟩
  · have := hmet.accounts
    rw [List.filter_congr hkept] at this
    rw [hstart] at this ⊢
    exact this
  · have := hmet.ended n (by revert n; decide)
    rw [hstart] at this ⊢
    exact this
  · have hrest := hmet.rest
    unfold EndFrame at hrest
    refine hrest.trans ?_
    rw [hmet.record, List.filter_congr fun e _ => keptBy_all e, hstart]

/-- With an entry left the load is ENDING; with none it is sealed. -/
theorem endOpenLoad_folded {cause : EndCause} {arms : Bank4 Arm} {accounts : List Account}
    (hl : s.load.state = .opened)
    (hu : forArms endArm (endingStart cause s) = { s with
      arms := arms, accounts := accounts, load.idleTimer := .stopped
      load.record := some
        { r with endCause := some cause, plan := r.plan.filter (·.state ≠ .armed) } }) :
    ((∃ e ∈ r.plan, e.state = .active) → endOpenLoad cause s = { s with
        arms := arms, accounts := accounts
        load.state := .ending, load.idleTimer := .stopped
        load.record := some
          { r with endCause := some cause, plan := r.plan.filter (·.state ≠ .armed) }
        console.line1 := .ending r.note, console.prompt := none })
      ∧ ((∀ e ∈ r.plan, e.state = .armed) → endOpenLoad cause s
          = post .loadSealed 0 cause.code r.note { s with
              arms := arms, accounts := accounts
              store.notes := s.store.notes ++
                [{ number := r.note, opened := r.opened, closed := s.port.clock
                   card := r.card, vehicle := r.vehicle, account := r.account
                   source := r.source, endCause := cause, lines := r.lines }]
              load.state := .noLoad, load.record := none, load.idleTimer := .stopped
              console.line1 := .presentCard, console.line2 := .blank
              console.prompt := some .card }) := by
  rw [endOpenLoad_of hl hu]
  change (_ → (if (r.plan.filter (·.state ≠ .armed)).isEmpty then _ else _) = _)
    ∧ (_ → (if (r.plan.filter (·.state ≠ .armed)).isEmpty then _ else _) = _)
  refine ⟨fun ⟨e, he, hst⟩ => ?_, fun hall => ?_⟩
  · rw [if_neg]
    · rfl
    · rw [List.isEmpty_iff, List.filter_eq_nil_iff]
      exact fun h => h e he (by rw [hst]; rfl)
  · rw [if_pos]
    · exact sealLoad_ending (r := { r with
        endCause := some cause, plan := r.plan.filter (·.state ≠ .armed) }) rfl arms accounts
    · rw [List.isEmpty_iff, List.filter_eq_nil_iff]
      exact fun e he => by rw [hall e he]; exact Bool.false_ne_true

/-- The arms of the state after END LOAD are those that its fold leaves. -/
theorem endOpenLoad_arm {cause : EndCause} {arms : Bank4 Arm} {accounts : List Account}
    (hl : s.load.state = .opened) (hu : forArms endArm (endingStart cause s) = { s with
      arms := arms, accounts := accounts, load.idleTimer := .stopped, load.record := some r }) :
    (endOpenLoad cause s).arms = arms := by
  rw [endOpenLoad_of hl hu]
  split
  · rw [sealLoad_rest]; rfl
  · rfl

end WithPlan

/-! ### The owner -/

section Owner
variable {s : State} {cause : Nat} {c : EndCause}

theorem endLoad_badValue (h : endLoadCauseOf cause = none) :
    endLoad cause s = (s, .refused .badValue) := by rw [endLoad, h]

theorem endLoad_wrongState (h : endLoadCauseOf cause = some c)
    (hl : s.load.state = .noLoad ∨ s.load.state = .ending) :
    endLoad cause s = (s, .refused .wrongState) := by
  rw [endLoad, h]; obtain hl | hl := hl <;> dsimp only <;> rw [hl]

theorem endLoad_identifying (h : endLoadCauseOf cause = some c)
    (hl : s.load.state = .referred ∨ s.load.state = .vehicleWait) :
    endLoad cause s = loadStateReply (abandonIdentification s) := by
  rw [endLoad, h]; obtain hl | hl := hl <;> dsimp only <;> rw [hl]

theorem endLoad_opened (h : endLoadCauseOf cause = some c) (hl : s.load.state = .opened) :
    endLoad cause s = loadStateReply (endOpenLoad c s) := by
  rw [endLoad, h]; dsimp only; rw [hl]

theorem abandonIdentification_eq (hl : s.load.state ≠ .noLoad) :
    abandonIdentification s = { s with
      permit.referral := match s.permit.referral with | .pending _ _ => .empty | r => r
      permit.referralTimer := .stopped, permit.held := none
      load.state := .noLoad, load.identTimer := .stopped
      console.line1 := .presentCard, console.prompt := some .card } := by
  unfold abandonIdentification leaveIdentifying
  dsimp only
  rw [enterLoad_of_ne]
  · rfl
  · exact hl

end Owner

/-- Settles O22: the owner by the load state, and END LOAD in OPEN by what the fold over the arms leaves
of arms, accounts and plan. -/
theorem endLoadSealsOrStopsTheArms : Obligations.EndLoadSealsOrStopsTheArms := by
  unfold Obligations.EndLoadSealsOrStopsTheArms
  have taken (s : State) := frameTaken_load s
  refine ⟨fun f s cause h hr => ⟨fun hc => fixed_done h hr (endLoad_badValue hc),
      fun c hc hl => fixed_done h hr (endLoad_wrongState hc (by rw [taken]; exact hl)),
      fun c hc hl => ?abandoned, fun c r hc hl hrec hp => ?planless⟩,
    fun cause s n hload hs hl => ?arms, fun f s cause c r h hr hc hload hs hl hrec hp => ?planned⟩
  case abandoned =>
    refine fixed_done h hr ((endLoad_identifying hc (by rw [taken]; exact hl)).trans ?_)
    dsimp only
    rw [abandonIdentification_eq, loadStateReply_of (l := .noLoad) rfl, frameTaken_permit]
    · rfl
    · rw [taken]; obtain hl | hl := hl <;> rw [hl] <;> exact LoadState.noConfusion
  case planless =>
    refine fixed_done h hr ((endLoad_opened hc (by rw [taken]; exact hl)).trans ?_)
    dsimp only
    rw [endOpenLoad_planless (by rw [taken]; exact hl) (by rw [taken]; exact hrec) hp,
      loadStateReply_of (l := .noLoad) (congrArg LoadController.state (post_load ..)),
      frameTaken_store, frameTaken_clock]
    rfl
  case arms =>
    obtain ⟨r, hrec⟩ : ∃ r, s.load.record = some r :=
      Option.isSome_iff_exists.mp (hload.1.mpr (.inl hl))
    obtain ⟨u, -, harms, hu⟩ := endingFold (cause := cause) hs hl hrec
    have harm : (endOpenLoad cause s).arm n = u.arm n := by
      rw [State.arm, endOpenLoad_arm hl hu]; rfl
    obtain ⟨harmed, hflow, hstay⟩ := harms n
    rw [harm]
    exact ⟨fun ha _ => by rw [harmed ha]; rfl, fun hf _ => by rw [hflow hf]; exact ⟨rfl, rfl⟩,
      fun hq => by rw [hstay hq]; exact ⟨rfl, rfl⟩⟩
  case planned =>
    have hl' := (congrArg LoadController.state (taken s)).trans hl
    obtain ⟨u, hrel, harms, hu⟩ := endingFold (cause := c)
      ((frameTaken_quiet s).bayKept (w := s.scope).planSound hs) hl'
      ((congrArg LoadController.record (taken s)).trans hrec)
    obtain ⟨hleft, hnone⟩ := endOpenLoad_folded hl' hu
    have hexec {t : State} {k : Nat} (ht : endOpenLoad c (frameTaken s) = t)
        (hk : t.load.state.code = k) :
        exec (.endLoad (.host f)) s = answered 0x33 f (.okWith (field 1 k)) t :=
      fixed_done h hr ((endLoad_opened hc hl').trans (by rw [ht, loadStateReply, hk]))
    refine ⟨u, ?_, fun n => ?_, fun ha => hexec (hleft ha) rfl, fun ha => ?_⟩
    · have hclass : ∀ l d, (frameTaken s).reservedBy l d = s.reservedBy l d := fun l d =>
        reservedBy_congr (fun e _ => recipeClass_congr (frameTaken_recipes s) (frameTaken_products s) _) d
      simpa only [Released, frameTaken_accounts, hclass] using hrel
    · have := harms n
      rw [frameTaken_arm] at this
      exact this
    · dsimp only at hnone ⊢
      rw [frameTaken_store] at hnone ⊢
      rw [frameTaken_clock] at hnone
      exact hexec (hnone ha) (congrArg LoadState.code (congrArg LoadController.state (post_load ..)))

end Sys2Proof.Machine
end

section
/-! SUPPORT AND PROOF. The ranges of the metering and injector entries, the requests that write products,
curves and arms, and the stages' arithmetic (R6, R75, R77, R78, R81, R83, R85 to R88, R101, R139). -/

namespace Sys2Proof.Machine

/-! ### Numbers that name a value -/

theorem classOf_of_le {v : Nat} (h : v ≤ 7) : classOf v = some ⟨v, by omega⟩ :=
  dif_pos (by omega)

theorem presetBasisOf_of_le {v : Nat} (h : v ≤ 1) :
    presetBasisOf v = some (if v = 0 then .gross else .standard) := by
  obtain rfl | rfl := Nat.le_one_iff_eq_zero_or_eq_one.mp h <;> rfl

theorem presetBasisOf_of_gt {v : Nat} (h : 1 < v) : presetBasisOf v = none := by
  match v, h with
  | _ + 2, _ => rfl

theorem injectorClassOf_of_le {v : Nat} (h : v ≤ 1) :
    injectorClassOf v = some (if v = 0 then .mandatory else .optional) := by
  obtain rfl | rfl := Nat.le_one_iff_eq_zero_or_eq_one.mp h <;> rfl

theorem injectorClassOf_of_gt {v : Nat} (h : 1 < v) : injectorClassOf v = none := by
  match v, h with
  | _ + 2, _ => rfl

theorem schemeOf_of_le {v : Nat} (h : v ≤ 1) :
    schemeOf v = some (if v = 0 then .roundRobin else .fixed) := by
  obtain rfl | rfl := Nat.le_one_iff_eq_zero_or_eq_one.mp h <;> rfl

theorem schemeOf_of_gt {v : Nat} (h : 1 < v) : schemeOf v = none := by
  match v, h with
  | _ + 2, _ => rfl

theorem armOf_of_le {v : Nat} (h1 : 1 ≤ v) (h4 : v ≤ 4) :
    ∃ n : ArmId, armOf v = some n ∧ n.val + 1 = v :=
  ⟨⟨v - 1, by omega⟩, dif_pos ⟨h1, h4⟩, by dsimp only; omega⟩

theorem productIndexOf_of_le {v : Nat} (h1 : 1 ≤ v) (h8 : v ≤ 8) :
    ∃ i : Fin 8, productIndexOf v = some i ∧ i.val + 1 = v :=
  ⟨⟨v - 1, by omega⟩, dif_pos ⟨h1, h8⟩, by dsimp only; omega⟩

theorem codedRange_none {low high coded default v : Nat} (h : v ≠ coded) (hr : v < low ∨ high < v) :
    codedRange low high coded default v = none := by
  rw [codedRange, if_neg h, if_neg (by omega)]

theorem codedRange_some {low high coded default v : Nat} (h : v = coded ∨ (low ≤ v ∧ v ≤ high)) :
    codedRange low high coded default v = some (if v = coded then default else v) := by
  unfold codedRange
  by_cases hc : v = coded
  · rw [if_pos hc, if_pos hc]
  · rw [if_neg hc, if_neg hc, if_pos (h.resolve_left hc)]

theorem codedRange_isSome {low high coded default v : Nat} :
    (codedRange low high coded default v).isSome = true ↔ v = coded ∨ (low ≤ v ∧ v ≤ high) := by
  refine ⟨fun h => ?_, fun h => by rw [codedRange_some h]; rfl⟩
  by_contra hc
  rw [codedRange_none (by omega) (by omega)] at h
  exact Bool.false_ne_true h

/-- A signed field of two bytes: the upper half of its values is negative (R6). -/
theorem signedOf_two (v : Nat) :
    (v < 32768 → signedOf 2 v = v) ∧ (32768 ≤ v → signedOf 2 v = (v : Int) - 65536) :=
  ⟨fun h => if_pos h, fun h => if_neg (by change ¬ v < 32768; omega)⟩

/-! ### The entries that the fields give -/

section Product
variable {code cls base alpha beta low high subst basis : Nat}

/-- The fields of PUT PRODUCT lie in their ranges (R75). -/
def ProductRanges (code cls base alpha beta low high subst basis : Nat) : Prop :=
  code ≠ 0 ∧ cls ≤ 7 ∧ (base = 1500 ∨ base = 2000) ∧ alpha ≤ 30000 ∧ beta ≤ 5000
    ∧ -4000 ≤ signedOf 2 low ∧ signedOf 2 low ≤ signedOf 2 high ∧ signedOf 2 high ≤ 8000
    ∧ signedOf 2 low ≤ signedOf 2 subst ∧ signedOf 2 subst ≤ signedOf 2 high ∧ basis ≤ 1

theorem productOf_some (h : ProductRanges code cls base alpha beta low high subst basis) :
    ∃ k : ClassId, k.val = cls ∧ productOf code cls base alpha beta low high subst basis
      = some { code := code, productClass := k, baseTemp := base, alpha := alpha, beta := beta
               lowLimit := signedOf 2 low, highLimit := signedOf 2 high
               substitute := signedOf 2 subst
               basis := if basis = 0 then .gross else .standard } := by
  obtain ⟨hcode, hcls, hbase, hrest⟩ := h
  refine ⟨⟨cls, by omega⟩, rfl, ?_⟩
  unfold productOf
  rw [classOf_of_le hcls, presetBasisOf_of_le (by omega)]
  exact if_neg (by omega)

theorem productOf_none (h : ¬ ProductRanges code cls base alpha beta low high subst basis) :
    productOf code cls base alpha beta low high subst basis = none := by
  unfold productOf
  by_cases hcls : cls ≤ 7
  · by_cases hbasis : basis ≤ 1
    · rw [classOf_of_le hcls, presetBasisOf_of_le hbasis]
      unfold ProductRanges at h
      exact if_pos (by omega)
    · rw [presetBasisOf_of_gt (by omega)]; cases classOf cls <;> rfl
  · rw [classOf_none (by omega)]

theorem productOf_isSome :
    (productOf code cls base alpha beta low high subst basis).isSome = true
      ↔ ProductRanges code cls base alpha beta low high subst basis := by
  refine ⟨fun h => ?_, fun h => ?_⟩
  · by_contra hr
    rw [productOf_none hr] at h
    exact Bool.false_ne_true h
  · obtain ⟨k, -, hk⟩ := productOf_some h
    rw [hk]; rfl

end Product

section Arm
variable {product k single low high start slow overspeed noFlow resume overrun late integrity : Nat}

/-- The fields of PUT ARM lie in their ranges (R77, R101). -/
def ArmRanges (product k single low high start slow overspeed noFlow resume overrun late
    integrity : Nat) : Prop :=
  1 ≤ product ∧ product ≤ 8 ∧ 1000 ≤ k ∧ k ≤ 100000000 ∧ single ≤ 1
    ∧ 50 ≤ low ∧ low ≤ 1000 ∧ 200 ≤ high ∧ high ≤ 5000 ∧ low ≤ high
    ∧ 50 ≤ start ∧ start ≤ 2000 ∧ 50 ≤ slow ∧ slow ≤ 2000
    ∧ 200 ≤ overspeed ∧ overspeed ≤ 6000 ∧ high ≤ overspeed
    ∧ (noFlow = 0 ∨ (5 ≤ noFlow ∧ noFlow ≤ 120)) ∧ (resume = 255 ∨ resume ≤ 15)
    ∧ overrun ≤ 50000 ∧ (late = 0xFFFFFFFF ∨ late ≤ 200000)
    ∧ (integrity = 0 ∨ (2 ≤ integrity ∧ integrity ≤ 100))

theorem armConfigOf_some (h : ArmRanges product k single low high start slow overspeed noFlow resume
      overrun late integrity) :
    ∃ i : Fin 8, i.val + 1 = product
      ∧ armConfigOf product k single low high start slow overspeed noFlow resume overrun late integrity
        = some { product := i, kFactor := k, singleChannel := decide (single = 1)
                 overspeedRate := overspeed
                 integrityLimit := if integrity = 0 then 10 else integrity, lowTarget := low
                 highTarget := high, startVolume := start, slowdownVolume := slow
                 noFlowTimeout := if noFlow = 0 then 30 else noFlow
                 resumeLimit := if resume = 255 then 3 else resume
                 lateClose := if late = 0xFFFFFFFF then 10000 else late } := by
  unfold ArmRanges at h
  obtain ⟨i, hi, hv⟩ := productIndexOf_of_le (v := product) (by omega) (by omega)
  refine ⟨i, hv, ?_⟩
  unfold armConfigOf
  rw [hi, flagOf_of_le (by omega), codedRange_some (by omega), codedRange_some (by omega),
    codedRange_some (by omega), codedRange_some (by omega)]
  exact if_neg (by omega)

theorem armConfigOf_ranges (h : (armConfigOf product k single low high start slow overspeed noFlow
      resume overrun late integrity).isSome = true) :
    ArmRanges product k single low high start slow overspeed noFlow resume overrun late integrity := by
  unfold armConfigOf at h
  split at h
  · next hp hs hn hr hl hi =>
    split at h
    · exact absurd h Bool.false_ne_true
    · have product : 1 ≤ product ∧ product ≤ 8 := by
        by_contra hc
        rw [productIndexOf_none (by omega)] at hp
        cases hp
      have single : single ≤ 1 := by
        by_contra hc
        rw [flagOf_of_gt (by omega)] at hs
        cases hs
      have noFlow := codedRange_isSome.mp (Option.isSome_of_eq_some hn)
      have resume := codedRange_isSome.mp (Option.isSome_of_eq_some hr)
      have late := codedRange_isSome.mp (Option.isSome_of_eq_some hl)
      have integrity := codedRange_isSome.mp (Option.isSome_of_eq_some hi)
      unfold ArmRanges
      omega
  · exact absurd h Bool.false_ne_true

theorem armConfigOf_isSome :
    (armConfigOf product k single low high start slow overspeed noFlow resume overrun late
        integrity).isSome = true
      ↔ ArmRanges product k single low high start slow overspeed noFlow resume overrun late
          integrity := by
  refine ⟨armConfigOf_ranges, fun h => ?_⟩
  obtain ⟨i, -, hi⟩ := armConfigOf_some h
  rw [hi]; rfl

end Arm

section Injector
variable {code k shot limit tolerance fault cls first second scheme creep : Nat}

/-- The fields of PUT INJECTOR lie in their ranges (R139). -/
def InjectorRanges (code k shot limit tolerance fault cls first second scheme creep : Nat) : Prop :=
  code ≠ 0 ∧ 100 ≤ k ∧ k ≤ 100000 ∧ 1 ≤ shot ∧ shot ≤ 500 ∧ 200 ≤ limit ∧ limit ≤ 10000
    ∧ 1 ≤ tolerance ∧ tolerance ≤ 50 ∧ fault ≤ 10 ∧ cls ≤ 1 ∧ 1 ≤ first ∧ first ≤ 4
    ∧ second ≤ 4 ∧ second ≠ first ∧ scheme ≤ 1 ∧ (creep ≤ 1000 ∨ creep = 0xFFFF)

/-- The second arm of a plumbing set stands for the number given: 0 for none (R139). -/
def SecondArm (second : Nat) (b : Option ArmId) : Prop :=
  (second = 0 → b = none) ∧ (second ≠ 0 → ∃ n, b = some n ∧ n.val + 1 = second)

theorem secondArmOf_some (h4 : second ≤ 4) (hne : second ≠ first) :
    ∃ b, secondArmOf second first = some b ∧ SecondArm second b := by
  unfold secondArmOf
  by_cases h0 : second = 0
  · exact ⟨none, if_pos h0, fun _ => rfl, fun h => absurd h0 h⟩
  · obtain ⟨n, hn, hv⟩ := armOf_of_le (v := second) (by omega) h4
    refine ⟨some n, ?_, fun h => absurd h h0, fun _ => ⟨n, rfl, hv⟩⟩
    rw [if_neg h0, if_neg hne, hn, Option.map_some]

theorem secondArmOf_ranges {b : Option ArmId} (h1 : 1 ≤ first)
    (h : secondArmOf second first = some b) : second ≤ 4 ∧ second ≠ first := by
  unfold secondArmOf at h
  split at h
  · omega
  · split at h
    · cases h
    · by_contra hc
      rw [armOf_none (by omega), Option.map_none] at h
      cases h

theorem injectorConfigOf_some
    (h : InjectorRanges code k shot limit tolerance fault cls first second scheme creep) :
    ∃ (a : ArmId) (b : Option ArmId), a.val + 1 = first ∧ SecondArm second b
      ∧ injectorConfigOf code k shot limit tolerance fault cls first second scheme creep
        = some { additiveCode := code, meterK := k, shotMl := shot, shotTimeLimit := limit
                 tolerance := tolerance, faultLimit := if fault = 0 then 3 else fault
                 injectorClass := if cls = 0 then .mandatory else .optional
                 firstArm := a, secondArm := b
                 scheme := if scheme = 0 then .roundRobin else .fixed
                 creepLimit := if creep = 0xFFFF then 20 else creep } := by
  unfold InjectorRanges at h
  obtain ⟨a, ha, hfirst⟩ := armOf_of_le (v := first) (by omega) (by omega)
  obtain ⟨b, hb, hsecond⟩ := secondArmOf_some (second := second) (first := first) (by omega) (by omega)
  refine ⟨a, b, hfirst, hsecond, ?_⟩
  unfold injectorConfigOf
  rw [ha, hb, injectorClassOf_of_le (by omega), schemeOf_of_le (by omega)]
  exact if_neg (by omega)

theorem injectorConfigOf_inRange
    (h : (injectorConfigOf code k shot limit tolerance fault cls first second scheme creep).isSome
      = true) :
    InjectorRanges code k shot limit tolerance fault cls first second scheme creep := by
  unfold injectorConfigOf at h
  split at h
  · next hc ha hb hs =>
    split at h
    · exact absurd h Bool.false_ne_true
    · have cls : cls ≤ 1 := by
        by_contra hn
        rw [injectorClassOf_of_gt (by omega)] at hc
        cases hc
      have first : 1 ≤ first ∧ first ≤ 4 := by
        by_contra hn
        rw [armOf_none (by omega)] at ha
        cases ha
      have scheme : scheme ≤ 1 := by
        by_contra hn
        rw [schemeOf_of_gt (by omega)] at hs
        cases hs
      have second := secondArmOf_ranges first.1 hb
      unfold InjectorRanges
      omega
  · exact absurd h Bool.false_ne_true

theorem injectorConfigOf_isSome :
    (injectorConfigOf code k shot limit tolerance fault cls first second scheme creep).isSome = true
      ↔ InjectorRanges code k shot limit tolerance fault cls first second scheme creep := by
  refine ⟨injectorConfigOf_inRange, fun h => ?_⟩
  obtain ⟨a, b, -, -, hi⟩ := injectorConfigOf_some h
  rw [hi]; rfl

end Injector

/-- Settles O33: each entry by whether all of its fields lie in their ranges. -/
theorem fieldRanges : Obligations.FieldRanges := by
  unfold Obligations.FieldRanges
  refine ⟨fun _ _ _ _ _ _ _ _ _ => productOf_isSome,
    fun _ _ _ _ _ _ _ _ _ _ _ _ _ => armConfigOf_isSome,
    fun _ _ _ _ _ _ _ _ _ _ _ => injectorConfigOf_isSome,
    fun code cls base alpha beta low high subst basis p h => ?product, signedOf_two,
    fun code k shot limit tolerance fault cls first second scheme creep c h => ?injector⟩
  case product =>
    obtain ⟨cl, hcl, hp⟩ := productOf_some (productOf_isSome.mp (Option.isSome_of_eq_some h))
    rw [h] at hp
    cases hp
    exact ⟨rfl, hcl⟩
  case injector =>
    obtain ⟨a, b, hfirst, hsecond, hc⟩ :=
      injectorConfigOf_some (injectorConfigOf_isSome.mp (Option.isSome_of_eq_some h))
    rw [h] at hc
    cases hc
    exact ⟨rfl, hfirst, hsecond⟩

/-! ### PUT PRODUCT, PUT METER CURVE and PUT ARM by their cases -/

theorem codeElsewhere_iff {s : State} {i : Fin 8} {code : Nat} :
    s.codeElsewhere i code = true ↔ ∃ k, k ≠ i ∧ (s.products.get k).map (·.code) = some code := by
  simp only [State.codeElsewhere, List.any_eq_true, List.mem_finRange, true_and, Bool.and_eq_true,
    decide_eq_true_eq, beq_iff_eq]

theorem codeElsewhere_false {s : State} {i : Fin 8} {code : Nat}
    (h : ∀ k, k ≠ i → (s.products.get k).map (·.code) ≠ some code) :
    s.codeElsewhere i code = false := by
  rw [Bool.eq_false_iff]
  exact fun hc => let ⟨k, hk, hcode⟩ := codeElsewhere_iff.mp hc; h k hk hcode

section PutProduct
variable {s : State} (i : Fin 8) {p : Product} {o : Option Product}

theorem putProduct_badFields (ho : o = none) (s : State) :
    putProduct (i.val + 1) o s = (s, .refused .badValue) := by
  unfold putProduct; rw [productIndexOf_val, ho]

theorem putProduct_codeElsewhere (ho : o = some p) (h : s.codeElsewhere i p.code = true) :
    putProduct (i.val + 1) o s = (s, .refused .badValue) := by
  unfold putProduct; rw [productIndexOf_val, ho]; exact if_pos h

theorem putProduct_inUse (ho : o = some p) (h : s.codeElsewhere i p.code = false)
    (hu : s.productInUse i = true) :
    putProduct (i.val + 1) o s = (s, .refused .inUse) := by
  unfold putProduct; rw [productIndexOf_val, ho]; dsimp only
  rw [h, hu]; rfl

theorem putProduct_written (ho : o = some p) (h : s.codeElsewhere i p.code = false)
    (hu : s.productInUse i = false) :
    putProduct (i.val + 1) o s = ({ s with products := s.products.set i (some p) }, .ok) := by
  unfold putProduct; rw [productIndexOf_val, ho]; dsimp only
  rw [h, hu]; rfl

end PutProduct

section PutMeterCurve
variable {s : State} (n : ArmId) {points : List CurvePoint}

theorem putMeterCurve_invalid (h : curveValid points = false) (s : State) :
    putMeterCurve (n.val + 1) points s = (s, .refused .badValue) := by
  rw [putMeterCurve, armOf_val]; dsimp only
  rw [h]; rfl

theorem putMeterCurve_inUse (h : curveValid points = true) (hb : (s.arm n).beyondArmed = true) :
    putMeterCurve (n.val + 1) points s = (s, .refused .inUse) := by
  rw [putMeterCurve, armOf_val]; dsimp only
  rw [h, hb]; rfl

theorem putMeterCurve_written (h : curveValid points = true) (hb : (s.arm n).beyondArmed = false) :
    putMeterCurve (n.val + 1) points s
      = (s.updArm n fun a => { a with curve := points, result := none }, .ok) := by
  rw [putMeterCurve, armOf_val]; dsimp only
  rw [h, hb]; rfl

end PutMeterCurve

section PutArm
variable {s : State} (n : ArmId) {c : ArmConfig} {o : Option ArmConfig} (overrun : Nat)

theorem putArm_badFields (ho : o = none) (s : State) :
    putArm (n.val + 1) o overrun s = (s, .refused .badValue) := by
  unfold putArm; rw [armOf_val, ho]

theorem putArm_inUse (ho : o = some c) (h : (s.arm n).control.state ≠ .idle) :
    putArm (n.val + 1) o overrun s = (s, .refused .inUse) := by
  unfold putArm; rw [armOf_val, ho]; exact if_pos h

theorem putArm_noProduct (ho : o = some c) (h : (s.arm n).control.state = .idle)
    (hp : s.products.get c.product = none) :
    putArm (n.val + 1) o overrun s = (s, .refused .notFound) := by
  unfold putArm; rw [armOf_val, ho]; dsimp only
  rw [if_neg (not_not.mpr h), hp]; rfl

theorem putArm_written (ho : o = some c) (h : (s.arm n).control.state = .idle)
    (hp : (s.products.get c.product).isSome = true) :
    putArm (n.val + 1) o overrun s = (s.updArm n (Arm.configure c overrun), .ok) := by
  unfold putArm; rw [armOf_val, ho]; dsimp only
  rw [if_neg (not_not.mpr h), if_neg (by simpa using Option.isSome_iff_ne_none.mp hp)]

end PutArm

theorem curveValid_iff (l : List CurvePoint) : curveValid l = true ↔
    (∀ p ∈ l, p.rate ≤ 6000 ∧ 9000 ≤ p.factor ∧ p.factor ≤ 11000)
      ∧ l.Pairwise fun a b => a.rate < b.rate := by
  rw [curveValid, Bool.and_eq_true, ascending_iff_pairwise, List.all_eq_true]
  simp only [Bool.and_eq_true, decide_eq_true_eq, and_assoc]

/-- Settles O34: the three writers by the owner's checks in their order. -/
theorem meteringConfigurationIsWritten : Obligations.MeteringConfigurationIsWritten := by
  unfold Obligations.MeteringConfigurationIsWritten
  refine ⟨fun f s => ⟨fun i code cls base alpha beta low high subst basis h hr =>
      ⟨fun hp => ?badProduct, fun p hp => ⟨fun he => ?elsewhere, fun he hu => ?productUsed,
        fun he hu => ?product⟩⟩,
      fun n m rest h hlen hm h1 h4 hr => ⟨fun hv => ?badCurve, fun hv hb => ?curveUsed,
        fun hv hb => ?curve⟩⟩,
    fun f s n product k single low high start slow overspeed noFlow resume overrun late integrity h hr =>
      ⟨fun hc => ?badArm, fun c hc => ⟨fun hs => ?armUsed, fun hs hp => ?noProduct,
        fun hs hp => ?arm, ?config⟩⟩,
    curveValid_iff⟩
  case badProduct => exact fixed_done h hr (putProduct_badFields i hp _)
  case elsewhere =>
    refine fixed_done h hr (putProduct_codeElsewhere i hp ?_)
    rw [productOf_code hp, frameTaken_codeElsewhere]
    exact codeElsewhere_iff.mpr he
  case productUsed =>
    refine fixed_done h hr (putProduct_inUse i hp ?_ (by rwa [frameTaken_productInUse]))
    rw [productOf_code hp, frameTaken_codeElsewhere]
    exact codeElsewhere_false he
  case product =>
    refine fixed_done h hr ((putProduct_written i hp ?_ (by rwa [frameTaken_productInUse])).trans ?_)
    · rw [productOf_code hp, frameTaken_codeElsewhere]
      exact codeElsewhere_false he
    · rw [frameTaken_products]
  case badCurve => exact counted_done h hlen hm h1 h4 hr (putMeterCurve_invalid n hv _)
  case curveUsed =>
    exact counted_done h hlen hm h1 h4 hr (putMeterCurve_inUse n hv (by rwa [frameTaken_arm]))
  case curve =>
    refine counted_done h hlen hm h1 h4 hr
      ((putMeterCurve_written n hv (by rwa [frameTaken_arm])).trans ?_)
    simp only [State.updArm, State.setArm, frameTaken_arm, frameTaken_arms]
  case badArm => exact fixed_done h hr (putArm_badFields n _ hc _)
  case armUsed => exact fixed_done h hr (putArm_inUse n _ hc (by rwa [frameTaken_arm]))
  case noProduct =>
    exact fixed_done h hr
      (putArm_noProduct n _ hc (by rwa [frameTaken_arm]) (by rwa [frameTaken_products]))
  case arm =>
    refine fixed_done h hr
      ((putArm_written n _ hc (by rwa [frameTaken_arm]) (by rwa [frameTaken_products])).trans ?_)
    simp only [State.updArm, State.setArm, frameTaken_arm, frameTaken_arms, Arm.configure]
  case config =>
    obtain ⟨i, hi, hcfg⟩ := armConfigOf_some (armConfigOf_isSome.mp (Option.isSome_of_eq_some hc))
    rw [hc] at hcfg
    cases hcfg
    exact ⟨rfl, hi⟩

/-! ### The stages' arithmetic -/

theorem windowWith_short {w : List Nat} (h : w.length < 10) (d : Nat) : windowWith d w = w ++ [d] := by
  have none : (w ++ [d]).length - 10 = 0 := by rw [List.length_append, List.length_singleton]; omega
  rw [windowWith, none, List.drop_zero]

theorem windowWith_full {w : List Nat} (h : w.length = 9) (d o : Nat) :
    windowWith d (o :: w) = w ++ [d] := by
  have one : (o :: w ++ [d]).length - 10 = 1 := by
    rw [List.length_append, List.length_cons, List.length_singleton]; omega
  rw [windowWith, one]; rfl

theorem readingValid_iff {p : Product} {t : Int} : readingValid p t = true
    ↔ (-4000 ≤ t ∧ t ≤ 8000) ∧ p.lowLimit ≤ t ∧ t ≤ p.highLimit := by
  simp only [readingValid, Bool.and_eq_true, decide_eq_true_eq]

theorem validReading_iff {p : Product} {probe : Option Int} {v : Int} :
    validReading p probe = some v ↔ probe = some v ∧ readingValid p v = true := by
  rw [validReading, Option.filter_eq_some_iff]

theorem settleTemperature_valid {p : Product} {probe : Option Int} {t : Int}
    (h : validReading p probe = some t) (c : MeterChannel) :
    settleTemperature p probe c
      = ({ c with lastValid := some t, sinceValid := 0, substituting := false }, t) := by
  unfold settleTemperature; rw [h]

theorem settleTemperature_last {p : Product} {probe : Option Int} {t : Int} {c : MeterChannel}
    (h : validReading p probe = none) (hl : c.lastValid = some t) (ht : c.sinceValid + 100 ≤ 10000) :
    settleTemperature p probe c = ({ c with sinceValid := c.sinceValid + 100 }, t) := by
  unfold settleTemperature; rw [h, hl]; exact if_pos ht

theorem settleTemperature_substitute {p : Product} {probe : Option Int} {c : MeterChannel}
    (h : validReading p probe = none) (ht : c.lastValid = none ∨ 10000 < c.sinceValid + 100) :
    settleTemperature p probe c
      = ({ c with sinceValid := c.sinceValid + 100, substituting := true }, p.substitute) := by
  unfold settleTemperature; rw [h]
  cases hl : c.lastValid with
  | none => rfl
  | some t =>
    rw [hl] at ht
    exact if_neg (by have := ht.resolve_left (Option.some_ne_none t); omega)

/-- A quotient rounded half up lies within half a unit of it. -/
theorem roundHalfUp_bounds (a : Nat) {b : Nat} (hb : 0 < b) :
    2 * b * roundHalfUp a b ≤ 2 * a + b ∧ 2 * a + b < 2 * b * (roundHalfUp a b + 1) :=
  ⟨Nat.mul_div_le _ _, Nat.lt_mul_div_succ _ (by omega)⟩

theorem roundHalfUpInt_bounds (a : Int) {b : Nat} (hb : 0 < b) :
    2 * b * roundHalfUpInt a b ≤ 2 * a + b ∧ 2 * a + b < 2 * b * (roundHalfUpInt a b + 1) := by
  have hpos : (0 : Int) < 2 * b := by omega
  unfold roundHalfUpInt
  rw [Int.fdiv_eq_ediv_of_nonneg _ hpos.le]
  exact ⟨Int.mul_ediv_self_le hpos.ne', Int.lt_mul_ediv_self_add hpos |>.trans_eq (by ring)⟩

theorem roundHalfUp_le {a b k : Nat} (hb : 0 < b) (h : a ≤ k * b) : roundHalfUp a b ≤ k := by
  refine Nat.lt_succ_iff.mp (Nat.div_lt_of_lt_mul ?_)
  calc 2 * a + b < 2 * (k * b) + 2 * b := by omega
    _ = 2 * b * (k + 1) := by ring

theorem roundHalfAway_of_nonneg {v : Int} (h : 0 ≤ v) (b : Nat) :
    roundHalfAway v b = (roundHalfUp v.toNat b : Nat) := if_pos h

theorem roundHalfAway_of_neg {v : Int} (h : v < 0) (b : Nat) :
    roundHalfAway v b = -((roundHalfUp (-v).toNat b : Nat) : Int) := if_neg h.not_ge

theorem roundHalfUp_zero {b : Nat} (hb : 0 < b) : roundHalfUp 0 b = 0 :=
  Nat.le_zero.mp (roundHalfUp_le hb (by omega))

theorem roundHalfAway_neg {b : Nat} (hb : 0 < b) (v : Int) :
    roundHalfAway (-v) b = -roundHalfAway v b := by
  obtain h | rfl | h := lt_trichotomy v 0
  · rw [roundHalfAway_of_neg h, roundHalfAway_of_nonneg (by omega), neg_neg]
  · rw [neg_zero, roundHalfAway_of_nonneg le_rfl, Int.toNat_zero, roundHalfUp_zero hb]; rfl
  · rw [roundHalfAway_of_nonneg h.le, roundHalfAway_of_neg (by omega), neg_neg]

theorem fwaOf_of_pos {g : Nat} (hg : 0 < g) (v t : Int) : fwaOf v g t = roundHalfAway v g :=
  if_neg hg.ne'

theorem fwaOf_neg {g : Nat} (hg : 0 < g) (v t : Int) : fwaOf (-v) g t = -fwaOf v g t := by
  rw [fwaOf_of_pos hg, fwaOf_of_pos hg, roundHalfAway_neg hg]

/-- From 0 up the weighted temperature is rounded half up. -/
theorem fwaOf_bounds_of_nonneg {g : Nat} (hg : 0 < g) {v : Int} (hv : 0 ≤ v) (t : Int) :
    2 * g * fwaOf v g t ≤ 2 * v + g ∧ 2 * v + g < 2 * g * (fwaOf v g t + 1) := by
  rw [fwaOf_of_pos hg, roundHalfAway_of_nonneg hv]
  have bounds := roundHalfUp_bounds v.toNat hg
  zify at bounds
  rwa [Int.toNat_of_nonneg hv] at bounds

/-- The weighted temperature lies within half a unit of the quotient. -/
theorem fwaOf_close {g : Nat} (hg : 0 < g) (v t : Int) :
    2 * (fwaOf v g t * g - v) ≤ g ∧ 2 * (v - fwaOf v g t * g) ≤ g := by
  obtain hv | hv := le_total 0 v
  · have bounds := fwaOf_bounds_of_nonneg hg hv t
    constructor <;> nlinarith
  · have bounds := fwaOf_bounds_of_nonneg hg (v := -v) (by omega) t
    rw [fwaOf_neg hg] at bounds
    constructor <;> nlinarith

/-- A bound of the readings bounds the weighted temperature. -/
theorem fwaOf_le {g : Nat} (hg : 0 < g) {v k : Int} (h : v ≤ k * g) (t : Int) : fwaOf v g t ≤ k := by
  have close := (fwaOf_close hg v t).1
  by_contra hk
  have step : (k + 1) * g ≤ fwaOf v g t * g :=
    mul_le_mul_of_nonneg_right (by omega) (Int.natCast_nonneg g)
  have : (0 : Int) < g := by omega
  nlinarith

theorem le_fwaOf {g : Nat} (hg : 0 < g) {v k : Int} (h : k * g ≤ v) (t : Int) : k ≤ fwaOf v g t := by
  have turned := fwaOf_le hg (v := -v) (k := -k) (by rw [neg_mul]; omega) t
  rw [fwaOf_neg hg] at turned
  omega

/-- The second term of CTL is never negative, so truncating it is rounding it down. -/
theorem rawCtl_eq (p : Product) (fwa : Int) :
    rawCtl p fwa = roundHalfUpInt (1000000000 - p.alpha * (fwa - p.baseTemp)
      - p.beta * (fwa - p.baseTemp) * (fwa - p.baseTemp) / 10000) 10000 := by
  unfold rawCtl
  dsimp only
  rw [Int.tdiv_eq_ediv_of_nonneg]
  rw [mul_assoc]
  exact mul_nonneg (Int.natCast_nonneg _) (mul_self_nonneg _)

theorem limitedCtl_cases (r : Int) :
    90000 ≤ limitedCtl r ∧ limitedCtl r ≤ 110000
      ∧ (ctlLimited r = false → (limitedCtl r : Int) = r)
      ∧ (r < 90000 → ctlLimited r = true ∧ limitedCtl r = 90000)
      ∧ (110000 < r → ctlLimited r = true ∧ limitedCtl r = 110000) := by
  have limited : ctlLimited r = true ↔ r < 90000 ∨ 110000 < r := by
    rw [ctlLimited, Bool.or_eq_true, decide_eq_true_eq, decide_eq_true_eq]
  rw [limited, ← Bool.not_eq_true, limited]
  unfold limitedCtl
  omega

/-- Settles O31: each stage from the arithmetic of the two roundings. -/
theorem stageArithmetic : Obligations.StageArithmetic := by
  unfold Obligations.StageArithmetic
  refine ⟨fun d w h => windowWith_short h d, fun d o w h => windowWith_full h d o, fun p t c h => ?valid,
    fun p probe t c h hl ht => settleTemperature_last h hl ht,
    fun p probe c h ht => settleTemperature_substitute h ht,
    fun v t g hg hlow hhigh => ⟨le_fwaOf hg hlow t, fwaOf_le hg hhigh t, fwaOf_close hg v t⟩,
    fun v t => rfl, fun v t g hg => ⟨fwaOf_neg hg v t, fun hv => fwaOf_bounds_of_nonneg hg hv t⟩,
    fun p fwa => ?ctl, fun a b hb => roundHalfUp_bounds a hb, limitedCtl_cases, fun ml => ?litres⟩
  case valid =>
    obtain ⟨⟨hlow, hhigh⟩, hlimits⟩ := readingValid_iff.mp h
    exact ⟨settleTemperature_valid (validReading_iff.mpr ⟨rfl, h⟩) c, hlow, hhigh, hlimits⟩
  case ctl =>
    dsimp only
    rw [rawCtl_eq]
    exact roundHalfUpInt_bounds _ (b := 10000) (by decide)
  case litres =>
    have bounds := roundHalfUp_bounds ml (b := 1000) (by decide)
    unfold litres
    omega

end Sys2Proof.Machine
end

section
/-! SUPPORT AND PROOF. A sample of an arm: the engine's stages at rest and beyond ARMED, what the
controllers leave of them, and what the sample leaves of the rest of the bay (R79 to R96, R99). -/

namespace Sys2Proof.Machine

/-! ### The engine by the arm's state -/

theorem exec_sample {s : State} (h : s.running = true) (n : ArmId) (probe : Option Int) :
    exec (.sample n probe) s = .next (sampleArm n probe s) := by
  rw [exec, execSample, if_pos h]

theorem sampleArm_configured {n : ArmId} {s : State} {c : ArmConfig} {p : Product}
    (hc : (s.arm n).config = some c) (hp : s.products.get c.product = some p) (probe : Option Int) :
    sampleArm n probe s = controllerSample n c ((s.arm n).engine c p probe).2
      (engineSample n c p probe s).1 := by
  unfold sampleArm; rw [hc]; dsimp only; rw [hp]; rfl

theorem Arm.inProgress_of_beyond {a : Arm} (h : a.beyondArmed = true) :
    (a.inBatch || a.inRun) = true := by
  rw [Arm.inBatch, h, Bool.true_and]; cases a.inRun <;> rfl

theorem Arm.inBatch_of_beyond {a : Arm} (h : a.beyondArmed = true) : a.inBatch = !a.inRun := by
  rw [Arm.inBatch, h, Bool.true_and]

theorem ArmState.beyond_of_checks {st : ArmState} (h : st.checksIntegrity = true) :
    st.beyondArmed = true := by
  cases st <;> simp_all [ArmState.checksIntegrity, ArmState.beyondArmed]

theorem ArmState.checks_of_flowing {st : ArmState} (h : st.flowing = true) :
    st.checksIntegrity = true := by cases st <;> simp_all [ArmState.checksIntegrity, ArmState.flowing]

section Engine
variable {c : ArmConfig} {p : Product} {probe : Option Int} {a : Arm}

/-- The gross increment of a sample (R80). -/
def Arm.increment (c : ArmConfig) (a : Arm) : Nat :=
  grossNum a.channel.pulsesA (meterFactor a.curve a.channel.rate) a.channel.remainder / c.kFactor

/-- The pulse totals are too far apart at a sample of an arm that checks them (R90, R91). -/
def Arm.Apart (c : ArmConfig) (p : Product) (probe : Option Int) (a : Arm) : Prop :=
  c.singleChannel = false ∧ a.channel.integrityArmed = true
    ∧ c.integrityLimit < discrepancy (a.engine c p probe).1.figures

/-- The engine finds a meter fault at a sample (R90). -/
def Arm.findsFault (c : ArmConfig) (p : Product) (probe : Option Int) (a : Arm) : Bool :=
  !c.singleChannel && (a.inBatch || a.inRun) && a.control.state.checksIntegrity
    && a.channel.integrityArmed && c.integrityLimit < discrepancy (a.engine c p probe).1.figures

theorem Arm.findsFault_iff (hs : a.control.state.checksIntegrity = true) :
    a.findsFault c p probe = true ↔ a.Apart c p probe := by
  have hb : (a.inBatch || a.inRun) = true := Arm.inProgress_of_beyond (ArmState.beyond_of_checks hs)
  simp only [Arm.findsFault, Arm.Apart, hs, hb, Bool.and_true, Bool.and_eq_true, Bool.not_eq_true',
    decide_eq_true_eq, and_assoc]

theorem Arm.engine_fault : (a.engine c p probe).2.fault
    = if a.findsFault c p probe then some (discrepancy (a.engine c p probe).1.figures) else none := rfl

theorem Arm.engine_meterFault : (a.engine c p probe).1.figures.meterFault
    = ((if (a.inBatch || a.inRun) = true then a.figures.sample p a.channel.pulsesA a.channel.pulsesB
          (a.increment c) (settleTemperature p probe a.channel).2
          (settleTemperature p probe a.channel).1.substituting
        else a.figures).meterFault || a.findsFault c p probe) := rfl

theorem Arm.engine_integrity : (a.engine c p probe).1.channel.integrityArmed
    = (a.channel.integrityArmed && !a.findsFault c p probe) := rfl

theorem Arm.engine_overspeed : (a.engine c p probe).2.overspeed
    = (a.flowing && decide (30 ≤ overspeedCountWith c (a.engine c p probe).1.channel.rate
        a.channel.overspeedCount)) := rfl

theorem Arm.engine_apart (hs : a.control.state.checksIntegrity = true) (h : a.Apart c p probe) :
    (a.engine c p probe).2.fault = some (discrepancy (a.engine c p probe).1.figures)
      ∧ (a.engine c p probe).1.figures.meterFault = true
      ∧ (a.engine c p probe).1.channel.integrityArmed = false := by
  have found := (Arm.findsFault_iff hs).mpr h
  rw [Arm.engine_fault, Arm.engine_meterFault, Arm.engine_integrity, found]
  exact ⟨rfl, Bool.or_true _, Bool.and_false _⟩

theorem Arm.engine_together (hs : a.control.state.checksIntegrity = true) (h : ¬ a.Apart c p probe) :
    (a.engine c p probe).2.fault = none := by
  rw [Arm.engine_fault, Bool.eq_false_iff.mpr (mt (Arm.findsFault_iff hs).mp h)]; rfl

theorem Arm.engine_figures (h : a.beyondArmed = true) :
    { (a.engine c p probe).1.figures with meterFault := a.figures.meterFault }
      = a.figures.sample p a.channel.pulsesA a.channel.pulsesB (a.increment c)
          (settleTemperature p probe a.channel).2
          (settleTemperature p probe a.channel).1.substituting := by
  dsimp only [Arm.engine, Arm.increment]
  rw [Arm.inProgress_of_beyond h]; rfl

theorem Arm.engine_channel (h : a.beyondArmed = true) :
    (a.engine c p probe).1.channel = { (settleTemperature p probe a.channel).1 with
      pulsesA := 0, pulsesB := 0
      remainder := grossNum a.channel.pulsesA (meterFactor a.curve a.channel.rate)
        a.channel.remainder % c.kFactor
      window := windowWith (a.increment c) a.channel.window
      rate := windowRate (windowWith (a.increment c) a.channel.window)
      integrityArmed := (a.engine c p probe).1.channel.integrityArmed
      overspeedCount := (a.engine c p probe).1.channel.overspeedCount
      unbatched := a.channel.unbatched } := by
  dsimp only [Arm.engine, Arm.increment]
  rw [Arm.inProgress_of_beyond h]; rfl

theorem Arm.engine_totals :
    (a.engine c p probe).1.totals = a.totals.sample a (a.increment c) := rfl

/-- The engine of an arm in IDLE or ARMED: the channel and the totals alone (R80, R96, R99). -/
theorem Arm.engine_rest (hb : a.beyondArmed = false) (hr : a.inRun = false) :
    (a.engine c p probe).2.fault = none ∧ (a.engine c p probe).2.overspeed = false
      ∧ (a.engine c p probe).1 = { a with
          sampleTimer := .start 100
          channel := { (settleTemperature p probe a.channel).1 with
            pulsesA := 0, pulsesB := 0
            remainder := grossNum a.channel.pulsesA (meterFactor a.curve a.channel.rate)
              a.channel.remainder % c.kFactor
            window := windowWith (a.increment c) a.channel.window
            rate := windowRate (windowWith (a.increment c) a.channel.window)
            integrityArmed := a.channel.integrityArmed
            overspeedCount := a.channel.overspeedCount
            unbatched := unbatchedWith (a.increment c) a.channel.unbatched }
          totals := { a.totals with
            gross := fit 64 (a.totals.gross + a.increment c)
            unbatched := fit 64 (a.totals.unbatched + a.increment c) } } := by
  have batch : a.inBatch = false := by rw [Arm.inBatch, hb]; rfl
  have flow : a.flowing = false := by
    rw [Bool.eq_false_iff]
    exact fun hf => Bool.false_ne_true
      (hb.symm.trans (ArmState.beyond_of_checks (ArmState.checks_of_flowing hf)))
  have found : a.findsFault c p probe = false := by
    rw [Arm.findsFault, batch, hr, Bool.or_false, Bool.and_false]; rfl
  refine ⟨by rw [Arm.engine_fault, found]; rfl, by rw [Arm.engine_overspeed, flow]; rfl, ?_⟩
  have faultless : (a.engine c p probe).1 = { (a.engine c p probe).1 with
      channel.integrityArmed := a.channel.integrityArmed && !a.findsFault c p probe
      figures.meterFault := (if (a.inBatch || a.inRun) = true then a.figures.sample p a.channel.pulsesA
          a.channel.pulsesB (a.increment c) (settleTemperature p probe a.channel).2
          (settleTemperature p probe a.channel).1.substituting
        else a.figures).meterFault || a.findsFault c p probe } := rfl
  rw [faultless, found]
  dsimp only [Arm.engine, Arm.increment, Totals.sample]
  rw [batch, hr, flow, Bool.not_false, Bool.and_true, Bool.or_false, Bool.or_false]
  rfl

end Engine

/-! ### What the controllers leave of a sample -/

/-- An arm that has lent shots of its owed ones to injectors, and is otherwise as it was (R146). -/
def Arm.LentFrom (a b : Arm) : Prop :=
  b = { a with components := b.components }
    ∧ b.components.map (fun x => { x with owed := 0 }) = a.components.map (fun x => { x with owed := 0 })
    ∧ ∀ x ∈ b.components, ∃ y ∈ a.components, x.injector = y.injector ∧ x.owed ≤ y.owed

theorem Arm.LentFrom.refl (a : Arm) : a.LentFrom a :=
  ⟨rfl, rfl, fun x hx => ⟨x, hx, rfl, le_rfl⟩⟩

theorem Arm.LentFrom.trans {a b d : Arm} (h : a.LentFrom b) (k : b.LentFrom d) : a.LentFrom d := by
  obtain ⟨hrest, hmap, howed⟩ := h
  obtain ⟨krest, kmap, kowed⟩ := k
  refine ⟨?_, kmap.trans hmap, fun x hx => ?_⟩
  · rw [hrest] at krest; exact krest
  · obtain ⟨y, hy, hxy, hle⟩ := kowed x hx
    obtain ⟨z, hz, hyz, hle'⟩ := howed y hy
    exact ⟨z, hz, hxy.trans hyz, hle.trans hle'⟩

/-- The figures, the channel and the totals of an arm are as the engine left them, but for the overspeed
count, the unbatched-since-idle figure and the standard totalizer (R93, R97, R99). -/
def Arm.MeteredAs (a b : Arm) : Prop :=
  b.figures = a.figures
    ∧ b.channel = { a.channel with
        overspeedCount := b.channel.overspeedCount, unbatched := b.channel.unbatched }
    ∧ b.totals = { a.totals with standard := b.totals.standard }

theorem Arm.MeteredAs.refl (a : Arm) : a.MeteredAs a := ⟨rfl, rfl, rfl⟩

theorem Arm.MeteredAs.trans {a b d : Arm} (h : a.MeteredAs b) (k : b.MeteredAs d) : a.MeteredAs d := by
  obtain ⟨hf, hc, ht⟩ := h
  obtain ⟨kf, kc, kt⟩ := k
  refine ⟨kf.trans hf, ?_, ?_⟩
  · rw [hc] at kc; exact kc
  · rw [ht] at kt; exact kt

/-- What the controllers' shares of a sample of an arm leave: the other arms but for lent shots, the
measurement of the arm, the configuration of the injectors, the capture record, and the events that
wait. -/
structure Shared (n : ArmId) (s t : State) : Prop where
  others : ∀ k, k ≠ n → (s.arm k).LentFrom (t.arm k)
  metered : (s.arm n).MeteredAs (t.arm n)
  config : ∀ i, (t.injector i).config = (s.injector i).config
  capture : t.capture = s.capture
  events : s.port.events <+: t.port.events

section Controllers
variable {n : ArmId} {s t u : State}

theorem Shared.refl (n : ArmId) (s : State) : Shared n s s :=
  ⟨fun _ _ => .refl _, .refl _, fun _ => rfl, rfl, List.prefix_rfl⟩

theorem Shared.trans (h : Shared n s t) (k : Shared n t u) : Shared n s u :=
  ⟨fun m hm => (h.others m hm).trans (k.others m hm), h.metered.trans k.metered,
    fun i => (k.config i).trans (h.config i), k.capture.trans h.capture, h.events.trans k.events⟩

theorem OfferFrame.shared (h : OfferFrame s t) (n : ArmId) : Shared n s t := by
  have rest : t.capture = s.capture ∧ t.port = s.port := by rw [h.rest]; exact ⟨rfl, rfl⟩
  refine ⟨fun m _ => ⟨h.arm m, h.components m, h.owed m⟩, ?_, fun i => (h.injector i).1, rest.1,
    by rw [rest.2]⟩
  rw [h.arm n]; exact .refl _

theorem updArm_shared {f : Arm → Arm} (h : (s.arm n).MeteredAs (f (s.arm n))) :
    Shared n s (s.updArm n f) := by
  refine ⟨fun m hm => ?_, ?_, fun _ => rfl, rfl, List.prefix_rfl⟩
  · rw [arm_updArm_of_ne _ _ hm]; exact .refl _
  · rw [arm_updArm_same]; exact h

theorem post_shared (k : EventKind) (a c v : Nat) : Shared n s (post k a c v s) :=
  ⟨fun m _ => by rw [post_arm]; exact .refl _, by rw [post_arm]; exact .refl _,
    fun i => by rw [post_injector], post_capture .., post_events_prefix ..⟩

theorem enterHeld_shared (k : HoldCause) : Shared n s (enterHeld k n s) := by
  obtain ⟨-, h⟩ | ⟨-, h⟩ := enterHeld_cases k n s
  · rw [h]; exact (updArm_shared ⟨rfl, rfl, rfl⟩).trans (post_shared ..)
  · rw [h]; exact .refl n s

theorem Arm.closedFor_metered (s : State) (o : BatchOutcome) (a : Arm) :
    a.MeteredAs (Arm.closedFor s o a) := by
  unfold Arm.closedFor; split <;> exact ⟨rfl, rfl, rfl⟩

theorem enterClosing_shared (o : BatchOutcome) : Shared n s (enterClosing o n s) :=
  (updArm_shared (Arm.closedFor_metered ..)).trans ((enterClosing_frame o n s).1.shared n)

theorem flowingShare_shared (c : ArmConfig) (r : SampleReport) (cause : Option HoldCause)
    (owed : List Nat) : Shared n s (flowingShare n c r cause owed s) := by
  unfold flowingShare
  split
  · exact enterHeld_shared _
  · split
    · exact enterClosing_shared _
    · exact updArm_shared ⟨rfl, rfl, rfl⟩

theorem State.chosen_shared (s : State) : Shared n s s.chosen :=
  ⟨fun _ _ => .refl _, .refl _, fun _ => rfl, rfl, List.prefix_rfl⟩

theorem flowingBatchSample_shared (c : ArmConfig) (r : SampleReport) (cause : Option HoldCause) :
    Shared n s (flowingBatchSample n c r cause s) := by
  have counted : Shared n s (countCycles r.delta n s.chosen) :=
    s.chosen_shared.trans (updArm_shared ⟨rfl, rfl, rfl⟩)
  have ready : Shared n s (if s.choice 3 = 2 then offerAll (countCycles r.delta n s.chosen)
      else countCycles r.delta n s.chosen) := by
    split
    · exact counted.trans ((offerAll_frame _).shared n)
    · exact counted
  simp only [flowingBatchSample]
  exact (ready.trans (flowingShare_shared ..)).trans ((offerAll_frame _).shared n)

theorem makeLine_shared (o : BatchOutcome) : Shared n s (makeLine o n s) := by
  obtain ⟨rest, others, same⟩ := makeLine_rest o n s
  refine ⟨fun m hm => by rw [others m hm]; exact .refl _, ?_, fun i => ?_, ?_, ?_⟩
  · rw [same]; exact ⟨rfl, rfl, rfl⟩
  · rw [rest]; rfl
  · rw [rest]
  · rw [rest]

theorem Arm.toIdle_metered (a : Arm) : a.MeteredAs a.toIdle := ⟨rfl, rfl, rfl⟩

theorem batchOver_shared (c : ArmConfig) : Shared n s (batchOver n c s) := by
  simp only [batchOver]
  refine Shared.trans ?_ (updArm_shared (Arm.toIdle_metered _))
  refine Shared.trans ?_ (post_shared ..)
  split
  · exact (makeLine_shared _).trans (updArm_shared ⟨rfl, rfl, rfl⟩)
  · exact makeLine_shared _

theorem storeNote_events (r : OpenLoad) (cause : EndCause) (s : State) :
    (storeNote r cause s).port = s.port := by rw [storeNote_rest]

theorem sealLoad_events (s : State) : s.port.events <+: (sealLoad s).port.events := by
  obtain ⟨r, cause, -, -, h⟩ | ⟨-, h⟩ := sealLoad_cases s
  · rw [h, ← storeNote_events r cause s]; exact post_events_prefix ..
  · rw [h]

theorem sealLoad_shared : Shared n s (sealLoad s) := by
  have arm : ∀ k, (sealLoad s).arm k = s.arm k := fun k => by rw [sealLoad_rest]; rfl
  refine ⟨fun m _ => by rw [arm]; exact .refl _, by rw [arm]; exact .refl _, fun i => ?_, ?_,
    sealLoad_events s⟩
  · rw [sealLoad_rest]; rfl
  · rw [sealLoad_rest]

theorem planMayHaveEmptied_shared : Shared n s (planMayHaveEmptied s) := by
  obtain ⟨-, h⟩ | ⟨-, h⟩ := planMayHaveEmptied_cases s <;> rw [h]
  · exact ⟨fun _ _ => .refl _, .refl _, fun _ => rfl, rfl, List.prefix_rfl⟩
  · exact .refl n s

theorem endBatch_shared (c : ArmConfig) : Shared n s (endBatch n c s) := by
  rw [endBatch_eq]
  split
  · exact (batchOver_shared c).trans sealLoad_shared
  · exact (batchOver_shared c).trans planMayHaveEmptied_shared

theorem endRun_shared (r : MeterRun) : Shared n s (endRun n r s) := by
  simp only [endRun]
  exact (post_shared ..).trans (updArm_shared ⟨rfl, rfl, rfl⟩)

theorem closingShare_shared (c : ArmConfig) (pulses : Nat) : Shared n s (closingShare n c pulses s) := by
  have settled : ∀ k : Arm → Nat, Shared n s (s.updArm n fun a => { a with control.settle := k a }) :=
    fun _ => updArm_shared ⟨rfl, rfl, rfl⟩
  simp only [closingShare]
  split
  · split
    · exact (settled fun a => settleWith pulses a.control.settle).trans (endRun_shared _)
    · exact (settled fun a => settleWith pulses a.control.settle).trans (endBatch_shared _)
  · exact settled fun a => settleWith pulses a.control.settle

theorem chosenIf_shared (b : Bool) : Shared n s (if b = true then s.chosen else s) := by
  split
  · exact s.chosen_shared
  · exact .refl n s

theorem controllerSample_shared (c : ArmConfig) (r : SampleReport) :
    Shared n s (controllerSample n c r s) := by
  simp only [controllerSample]
  split
  · split
    · exact ((chosenIf_shared _).trans (updArm_shared ⟨rfl, rfl, rfl⟩)).trans (flowingShare_shared ..)
    · exact (chosenIf_shared _).trans (flowingBatchSample_shared ..)
  · split
    · exact (chosenIf_shared _).trans (closingShare_shared ..)
    · exact chosenIf_shared _

end Controllers

/-! ### The rest of the bay -/

theorem sampleArm_besides (n : ArmId) (probe : Option Int) (s : State) :
    (∀ k, k ≠ n → (s.arm k).LentFrom ((sampleArm n probe s).arm k))
      ∧ ∀ i, ((sampleArm n probe s).injector i).config = (s.injector i).config := by
  unfold sampleArm
  split
  · exact ⟨fun _ _ => .refl _, fun _ => rfl⟩
  · split
    · exact ⟨fun _ _ => .refl _, fun _ => rfl⟩
    · next c _ _ p _ =>
      obtain ⟨rest, others, -, -⟩ := engineSample_rest n c p probe s
      have shared := controllerSample_shared (n := n) (s := (engineSample n c p probe s).1) c
        (engineSample n c p probe s).2
      refine ⟨fun k hk => ?_, fun i => (shared.config i).trans (by rw [rest]; rfl)⟩
      rw [← others k hk]; exact shared.others k hk

/-- Settles O29: the engine changes its own arm, and the controllers of other arms at most the owed counts
that an offer of work takes up. -/
theorem sampleLeavesOtherArms : Obligations.SampleLeavesOtherArms := by
  unfold Obligations.SampleLeavesOtherArms
  intro n probe s u h
  rw [exec, execSample] at h
  cases h
  by_cases hr : s.running = true
  · rw [if_pos hr]
    have rest := sampleArm_rest n probe s
    obtain ⟨others, config⟩ := sampleArm_besides n probe s
    refine ⟨fun k hk => ⟨_, others k hk⟩, config, ?_⟩
    unfold SampleFrame at rest
    rw [rest]
    exact ⟨rfl, rfl, rfl, rfl, rfl, rfl, rfl, rfl⟩
  · rw [if_neg hr]
    exact ⟨fun k _ => ⟨_, Arm.LentFrom.refl _⟩, fun _ => rfl, rfl, rfl, rfl, rfl, rfl, rfl, rfl, rfl⟩

/-! ### A sample at rest -/

theorem Arm.not_beyond {a : Arm} (h : a.control.state = .idle ∨ a.control.state = .armed) :
    a.beyondArmed = false ∧ a.flowing = false ∧ a.control.state ≠ .closing := by
  obtain h | h := h <;> rw [Arm.beyondArmed, Arm.flowing, h] <;> exact ⟨rfl, rfl, ArmState.noConfusion⟩

/-- The controllers have no share in a sample of an arm in IDLE or ARMED (R79). -/
theorem controllerSample_rest {n : ArmId} {c : ArmConfig} {r : SampleReport}
    (h : r.before.control.state = .idle ∨ r.before.control.state = .armed) (hf : r.fault = none)
    (s : State) : controllerSample n c r s = s := by
  obtain ⟨-, flow, closing⟩ := Arm.not_beyond h
  simp only [controllerSample, hf, flow]
  exact if_neg closing

/-- The crossing of 10,000 mL by the unbatched-since-idle figure (R99). -/
theorem postUnbatched_eq (n : ArmId) (before : Nat) (s : State) :
    postUnbatched n before s = if before / 10000 < (s.arm n).channel.unbatched / 10000 then
      post .unbatchedFlow (n.val + 1) 0 (s.arm n).channel.unbatched s else s := by
  simp only [postUnbatched, unbatchedCrosses, decide_eq_true_eq]; rfl

/-- Settling the temperature leaves the integrity check and the overspeed count (R83). -/
theorem settleTemperature_rest (p : Product) (probe : Option Int) (c : MeterChannel) :
    (settleTemperature p probe c).1.integrityArmed = c.integrityArmed
      ∧ (settleTemperature p probe c).1.overspeedCount = c.overspeedCount := by
  cases h : validReading p probe with
  | some t => rw [settleTemperature_valid h]; exact ⟨rfl, rfl⟩
  | none =>
    by_cases hs : c.lastValid = none ∨ 10000 < c.sinceValid + 100
    · rw [settleTemperature_substitute h hs]; exact ⟨rfl, rfl⟩
    · obtain ⟨hl, ht⟩ := not_or.mp hs
      obtain ⟨t, hl⟩ := Option.ne_none_iff_exists'.mp hl
      rw [settleTemperature_last h hl (Nat.not_lt.mp ht)]; exact ⟨rfl, rfl⟩

/-- Without a valid reading the last valid temperature stays and its age grows (R83). -/
theorem settleTemperature_none {p : Product} {probe : Option Int} (h : validReading p probe = none)
    (c : MeterChannel) :
    (settleTemperature p probe c).1.lastValid = c.lastValid
      ∧ (settleTemperature p probe c).1.sinceValid = c.sinceValid + 100 := by
  by_cases hs : c.lastValid = none ∨ 10000 < c.sinceValid + 100
  · rw [settleTemperature_substitute h hs]; exact ⟨rfl, rfl⟩
  · obtain ⟨hl, ht⟩ := not_or.mp hs
    obtain ⟨t, hl⟩ := Option.ne_none_iff_exists'.mp hl
    rw [settleTemperature_last h hl (Nat.not_lt.mp ht)]; exact ⟨rfl, rfl⟩

/-- Settles O27: the controllers have no share, and the engine posts at most the crossing. -/
theorem sampleAtRestMetersUnbatched : Obligations.SampleAtRestMetersUnbatched := by
  unfold Obligations.SampleAtRestMetersUnbatched
  intro n probe s c p ch t hr hc hp hs hrun hch
  dsimp only
  intro hnum hgross hun
  obtain ⟨hb, -, -⟩ := Arm.not_beyond hs
  obtain ⟨noFault, -, measured⟩ := Arm.engine_rest (c := c) (p := p) (probe := probe) hb hrun
  have increment : (s.arm n).increment c = ((s.arm n).channel.pulsesA
      * meterFactor (s.arm n).curve (s.arm n).channel.rate * 100 + (s.arm n).channel.remainder)
        / c.kFactor := by rw [Arm.increment, grossNum, fit_of_lt hnum]
  have settled := settleTemperature_rest p probe (s.arm n).channel
  rw [← settled.1, ← settled.2, hch] at measured
  rw [exec_sample hr, sampleArm_configured hc hp, controllerSample_rest hs noFault]
  simp only [engineSample]
  rw [noFault, measured, postFault, postUnbatched_eq, arm_setArm_same, grossNum, fit_of_lt hnum,
    increment, fit_of_lt hgross, fit_of_lt hun]
  rfl

/-! ### A sample beyond ARMED -/

theorem standardOf_of_lt {gross : Nat} (h : gross < 2 ^ 31) (r : Int) :
    standardOf gross (limitedCtl r) = roundHalfUp (gross * limitedCtl r) 100000 := by
  refine fit_of_lt (lt_of_le_of_lt (roundHalfUp_le (k := 2362232013) (by decide) ?_) (by decide))
  calc gross * limitedCtl r ≤ 2 ^ 31 * 110000 := Nat.mul_le_mul h.le (limitedCtl_cases r).2.1
    _ ≤ 2362232013 * 100000 := by decide

/-- The figures after a sample that leaves each within its width (R83 to R87). -/
theorem Figures.sample_exact {p : Product} {pulses pulsesB d : Nat} {t : Int} {x : Bool} {f : Figures}
    (hg : f.gross + d < 2 ^ 31) (ha : f.aTotal + pulses < 2 ^ 32) (hb : f.bTotal + pulsesB < 2 ^ 32)
    (hlow : -(2 ^ 63) ≤ f.sumTV + t * d) (hhigh : f.sumTV + t * d < 2 ^ 63) :
    let fwa := fwaOf (f.sumTV + t * d) (f.gross + d) t
    f.sample p pulses pulsesB d t x =
      { gross := f.gross + d, sumTV := f.sumTV + t * d
        aTotal := f.aTotal + pulses, bTotal := f.bTotal + pulsesB
        fwa := fwa, ctl := limitedCtl (rawCtl p fwa)
        standard := roundHalfUp ((f.gross + d) * limitedCtl (rawCtl p fwa)) 100000
        tempSubstituted := f.tempSubstituted || x
        correctionLimited :=
          f.correctionLimited || decide (rawCtl p fwa < 90000 ∨ 110000 < rawCtl p fwa)
        meterFault := f.meterFault } := by
  dsimp only
  unfold Figures.sample
  rw [fit_of_lt (hg.trans (by decide)), fitSigned_of_mem hlow hhigh, fit_of_lt ha, fit_of_lt hb]
  dsimp only
  rw [standardOf_of_lt hg, ctlLimited, Bool.decide_or]

section Beyond
variable {n : ArmId} {s : State} {c : ArmConfig} {p : Product} {probe : Option Int}

/-- The figures, the channel and the totals after a sample are those of the engine. -/
theorem sampleArm_metered (hc : (s.arm n).config = some c) (hp : s.products.get c.product = some p) :
    ((s.arm n).engine c p probe).1.MeteredAs ((sampleArm n probe s).arm n) := by
  rw [sampleArm_configured hc hp, ← (engineSample_rest n c p probe s).2.2.1]
  exact (controllerSample_shared ..).metered

end Beyond

/-- Settles O28: the controllers leave the engine's figures, and the engine's figures are the stages'. -/
theorem sampleAdvancesTheFigures : Obligations.SampleAdvancesTheFigures := by
  unfold Obligations.SampleAdvancesTheFigures
  intro n probe s c p hr hc hp hb
  dsimp only
  intro hnum hgross ha hbt hlow hhigh hgt hbatch hprove
  obtain ⟨figures, channel, totals⟩ := sampleArm_metered (probe := probe) hc hp
  have increment : (s.arm n).increment c = ((s.arm n).channel.pulsesA
      * meterFactor (s.arm n).curve (s.arm n).channel.rate * 100 + (s.arm n).channel.remainder)
        / c.kFactor := by rw [Arm.increment, grossNum, fit_of_lt hnum]
  have stages := Arm.engine_figures (c := c) (p := p) (probe := probe) hb
  rw [increment, Figures.sample_exact hgross ha hbt hlow hhigh, ← figures] at stages
  rw [Arm.engine_channel hb, increment, grossNum, fit_of_lt hnum] at channel
  rw [Arm.engine_totals, Totals.sample, increment, Arm.inBatch_of_beyond hb] at totals
  have gross := congrArg Figures.gross stages
  have fwa := congrArg Figures.fwa stages
  have ctl := congrArg Figures.ctl stages
  have sumTV := congrArg Figures.sumTV stages
  have standard := congrArg Figures.standard stages
  have limited := congrArg Figures.correctionLimited stages
  have substituted := congrArg Figures.tempSubstituted stages
  dsimp only at gross fwa ctl sumTV standard limited substituted
  rw [← sumTV, ← gross] at fwa
  rw [← sumTV, ← gross, ← fwa] at ctl limited standard
  rw [← ctl] at standard
  have lastValid := congrArg MeterChannel.lastValid channel
  have sinceValid := congrArg MeterChannel.sinceValid channel
  have substituting := congrArg MeterChannel.substituting channel
  dsimp only at lastValid sinceValid substituting
  refine ⟨_, exec_sample hr n probe, gross, sumTV, congrArg Figures.aTotal stages,
    congrArg Figures.bTotal stages, fwa, ctl, standard, limited, fun v hv => ?valid,
    fun hv => ⟨?last, ?since, fun v hl ht => ?held, fun hl => ?substitute⟩,
    fun v => validReading_iff, congrArg MeterChannel.pulsesA channel,
    congrArg MeterChannel.pulsesB channel, congrArg MeterChannel.remainder channel,
    congrArg MeterChannel.window channel, congrArg MeterChannel.rate channel, ?total, ?unbatched,
    fun hrun => ?run, fun hrun => ?batch⟩
  case valid =>
    rw [settleTemperature_valid hv] at lastValid sinceValid substituting substituted
    exact ⟨lastValid, sinceValid, substituting, by rw [settleTemperature_valid hv],
      substituted.trans (Bool.or_false _)⟩
  case last => exact lastValid.trans (settleTemperature_none hv _).1
  case since => exact sinceValid.trans (settleTemperature_none hv _).2
  case held =>
    rw [settleTemperature_last hv hl ht] at substituting substituted
    exact ⟨by rw [settleTemperature_last hv hl ht], substituting, substituted⟩
  case substitute =>
    rw [settleTemperature_substitute hv hl] at substituting substituted
    exact ⟨by rw [settleTemperature_substitute hv hl], substituting,
      substituted.trans (Bool.or_true _)⟩
  case total => exact (congrArg Totals.gross totals).trans (fit_of_lt hgt)
  case unbatched =>
    refine (congrArg Totals.unbatched totals).trans (if_pos ?_)
    cases (s.arm n).inRun <;> rfl
  case run =>
    rw [hrun] at totals
    exact ⟨(congrArg Totals.proving totals).trans (fit_of_lt hprove),
      (congrArg Totals.batched totals).trans rfl⟩
  case batch =>
    rw [hrun] at totals
    exact ⟨(congrArg Totals.batched totals).trans (fit_of_lt hbatch),
      (congrArg Totals.proving totals).trans rfl⟩

end Sys2Proof.Machine
end

section
/-! SUPPORT AND PROOF. Meter faults and overspeed: the capture record, and the sample that holds an arm
(R90, R91, R93 to R95, R115). -/

namespace Sys2Proof.Machine

/-! ### The capture record -/

theorem offerFault_empty {n : ArmId} {s : State} (h : s.capture = none) :
    offerFault n s = { s with
      capture := some
        { arm := n, aCount := (s.arm n).figures.aTotal, bCount := (s.arm n).figures.bTotal
          gross := (s.arm n).figures.gross, clock := s.port.clock, faultsSince := 0 } } := by
  unfold offerFault; rw [h]

theorem offerFault_full {n : ArmId} {s : State} {k : Capture} (h : s.capture = some k) :
    offerFault n s
      = { s with capture := some { k with faultsSince := min 255 (k.faultsSince + 1) } } := by
  unfold offerFault; rw [h]

theorem offerFault_isSome (n : ArmId) (s : State) : (offerFault n s).capture.isSome = true := rfl

theorem offerFault_post (n : ArmId) (k : EventKind) (a c v : Nat) (s : State) :
    (offerFault n (post k a c v s)).capture = (offerFault n s).capture := by
  simp only [offerFault, post_capture, post_arm, post_clock]

theorem readMeterFault_empty {s : State} (h : s.capture = none) :
    readMeterFault s = (s, .refused .notFound) := by unfold readMeterFault; rw [h]

theorem readMeterFault_full {s : State} {k : Capture} (h : s.capture = some k) :
    readMeterFault s = ({ s with capture := none }, .okWith (captureFields k)) := by
  unfold readMeterFault; rw [h]

/-! ### The engine's share of a sample beyond ARMED -/

section Sample
variable {n : ArmId} {s t u : State} {c : ArmConfig} {p : Product} {probe : Option Int}

/-- A sample in progress crosses no unbatched figure: the engine posts and offers its fault alone. -/
theorem engineSample_beyond (h : (s.arm n).beyondArmed = true) :
    (engineSample n c p probe s).1
      = postFault n ((s.arm n).engine c p probe).2.fault
          (s.setArm n ((s.arm n).engine c p probe).1) := by
  simp only [engineSample]
  rw [postUnbatched_eq, arm_setArm_same, Arm.engine_channel h, if_neg (Nat.lt_irrefl _)]

theorem post_port (k : EventKind) (a c v : Nat) (h : t.port = s.port) :
    (post k a c v t).port = (post k a c v s).port := by
  simp only [post, h]; split <;> rfl

/-- The two states agree in the line's records, the capture record and, of one arm, in its control, figures
and channel. -/
structure Agree (n : ArmId) (s t : State) : Prop where
  port : t.port = s.port
  capture : t.capture = s.capture
  control : (t.arm n).control = (s.arm n).control
  figures : (t.arm n).figures = (s.arm n).figures
  channel : (t.arm n).channel = (s.arm n).channel

theorem Agree.trans (h : Agree n s t) (k : Agree n t u) : Agree n s u :=
  ⟨k.port.trans h.port, k.capture.trans h.capture, k.control.trans h.control,
    k.figures.trans h.figures, k.channel.trans h.channel⟩

theorem OfferFrame.agree (h : OfferFrame s t) (n : ArmId) : Agree n s t := by
  have rest : t.port = s.port ∧ t.capture = s.capture := by rw [h.rest]; exact ⟨rfl, rfl⟩
  exact ⟨rest.1, rest.2, by rw [h.arm n], by rw [h.arm n], by rw [h.arm n]⟩

theorem Agree.flowing (h : Agree n s t) : (t.arm n).flowing = (s.arm n).flowing := by
  rw [Arm.flowing, Arm.flowing, h.control]

/-- A hold of a flowing arm, in what two states agree in (R115). -/
theorem Agree.enterHeld (h : Agree n s t) (k : HoldCause) : Agree n (enterHeld k n s) (enterHeld k n t) := by
  have flowing := h.flowing
  obtain ⟨hs, e⟩ | ⟨hs, e⟩ := enterHeld_cases k n s <;>
    obtain ⟨ht, e'⟩ | ⟨ht, e'⟩ := enterHeld_cases k n t
  · rw [e, e', h.figures]
    refine ⟨post_port _ _ _ _ h.port, ?_, ?_, ?_, ?_⟩
    · rw [post_capture, post_capture]; exact h.capture
    · simp only [post_arm, arm_updArm_same, Arm.holdFor, h.control]
    · simp only [post_arm, arm_updArm_same, Arm.holdFor, h.figures]
    · simp only [post_arm, arm_updArm_same, Arm.holdFor, h.channel]
  · rw [flowing, hs] at ht; cases ht
  · rw [flowing, hs] at ht; cases ht
  · rw [e, e']; exact h

theorem Agree.refl (n : ArmId) (s : State) : Agree n s s := ⟨rfl, rfl, rfl, rfl, rfl⟩

theorem chosenIf_agree (b : Bool) : Agree n s (if b = true then s.chosen else s) := by
  split
  · exact ⟨rfl, rfl, rfl, rfl, rfl⟩
  · exact .refl n s

theorem flowingBatchSample_held (c : ArmConfig) (r : SampleReport) (k : HoldCause) :
    Agree n (enterHeld k n s) (flowingBatchSample n c r (some k) s) := by
  have counted : Agree n s (countCycles r.delta n s.chosen) := by
    obtain ⟨rest, -, arm⟩ := countCycles_rest r.delta n s.chosen
    exact ⟨by rw [rest]; rfl, by rw [rest]; rfl, by rw [arm]; rfl, by rw [arm]; rfl, by rw [arm]; rfl⟩
  have ready : Agree n s (if s.choice 3 = 2 then offerAll (countCycles r.delta n s.chosen)
      else countCycles r.delta n s.chosen) := by
    split
    · exact counted.trans ((offerAll_frame _).agree n)
    · exact counted
  simp only [flowingBatchSample, flowingShare]
  exact (ready.enterHeld k).trans ((offerAll_frame _).agree n)

/-- A sample of a flowing arm for which the engine hands a cause holds the arm, and what the other shares do
shows neither at the line nor in the arm's control, figures and channel (R91, R93, R115). -/
theorem controllerSample_held {r : SampleReport} {k : HoldCause} (hf : r.before.flowing = true)
    (hk : handedCause r (s.choice 2 = 0) = some k) (c : ArmConfig) :
    Agree n (enterHeld k n s) (controllerSample n c r s) := by
  simp only [controllerSample, hk]
  rw [if_pos hf]
  split
  · refine Agree.enterHeld ?_ k
    exact (chosenIf_agree _).trans
      ⟨rfl, rfl, by rw [arm_updArm_same], by rw [arm_updArm_same], by rw [arm_updArm_same]⟩
  · exact ((chosenIf_agree _).enterHeld k).trans (flowingBatchSample_held c r k)

theorem enterHeld_of_flowing (h : (s.arm n).flowing = true) (k : HoldCause) :
    enterHeld k n s = post .batchHeld (n.val + 1) k.code (s.arm n).figures.gross
      (s.updArm n (Arm.holdFor k)) := if_pos h

/-- The sample that holds a flowing arm, from the state that the engine leaves. -/
theorem sampleArm_held {v : State} {k : HoldCause} (hc : (s.arm n).config = some c)
    (hp : s.products.get c.product = some p) (hf : (s.arm n).flowing = true)
    (hv : (engineSample n c p probe s).1 = v)
    (hk : handedCause ((s.arm n).engine c p probe).2 (v.choice 2 = 0) = some k) :
    let a := ((s.arm n).engine c p probe).1
    let u := sampleArm n probe s
    (u.arm n).control = (a.holdFor k).control ∧ (u.arm n).figures = a.figures
      ∧ (u.arm n).channel = { a.channel with overspeedCount := 0 } ∧ u.capture = v.capture
      ∧ u.port = (post .batchHeld (n.val + 1) k.code a.figures.gross v).port := by
  dsimp only
  have arm : v.arm n = ((s.arm n).engine c p probe).1 := by
    rw [← hv]; exact (engineSample_rest n c p probe s).2.2.1
  rw [sampleArm_configured hc hp, hv]
  have flows : (v.arm n).flowing = true := by rw [arm]; exact hf
  have held := controllerSample_held (s := v) (n := n) (r := ((s.arm n).engine c p probe).2) hf hk c
  rw [enterHeld_of_flowing flows] at held
  refine ⟨held.control.trans ?_, held.figures.trans ?_, held.channel.trans ?_,
    held.capture.trans (post_capture ..), held.port.trans ?_⟩
  · rw [post_arm, arm_updArm_same, arm]
  · rw [post_arm, arm_updArm_same, arm]; rfl
  · rw [post_arm, arm_updArm_same, arm]; rfl
  · rw [arm]; exact post_port _ _ _ _ rfl

/-- The state that the engine leaves after a meter fault (R91, R94). -/
theorem engineSample_apart (hs : (s.arm n).control.state.checksIntegrity = true)
    (h : (s.arm n).Apart c p probe) :
    let a := ((s.arm n).engine c p probe).1
    (engineSample n c p probe s).1.capture = (offerFault n (s.setArm n a)).capture
      ∧ (engineSample n c p probe s).1.port
        = (post .meterFault (n.val + 1) 1 (discrepancy a.figures) s).port := by
  dsimp only
  rw [engineSample_beyond (ArmState.beyond_of_checks hs), (Arm.engine_apart hs h).1, postFault]
  exact ⟨offerFault_post .., post_port _ _ _ _ rfl⟩

/-- The state that the engine leaves without a meter fault. -/
theorem engineSample_together (hs : (s.arm n).control.state.checksIntegrity = true)
    (h : ¬ (s.arm n).Apart c p probe) :
    (engineSample n c p probe s).1 = s.setArm n ((s.arm n).engine c p probe).1 := by
  rw [engineSample_beyond (ArmState.beyond_of_checks hs), Arm.engine_together hs h, postFault]

theorem handedCause_fault {r : SampleReport} {d : Nat} (hf : r.fault = some d)
    (ho : r.overspeed = false) (b : Bool) : handedCause r b = some .meterFault := by
  rw [handedCause, hf, ho]; rfl

theorem handedCause_overspeed {r : SampleReport} (hf : r.fault = none) (ho : r.overspeed = true)
    (b : Bool) : handedCause r b = some .overspeed := by
  rw [handedCause, hf, ho]; rfl

theorem handedCause_both {r : SampleReport} {d : Nat} (hf : r.fault = some d)
    (ho : r.overspeed = true) (b : Bool) :
    handedCause r b = some (if b = true then .meterFault else .overspeed) := by
  rw [handedCause, hf, ho]; cases b <;> rfl

/-! ### CLOSING -/

theorem batchOver_state (n : ArmId) (c : ArmConfig) (s : State) :
    ((batchOver n c s).arm n).control.state = .idle := by
  simp only [batchOver, arm_updArm_same, Arm.toIdle]

theorem endBatch_state (n : ArmId) (c : ArmConfig) (s : State) :
    ((endBatch n c s).arm n).control.state = .idle := by
  have idle := batchOver_state n c s
  rw [endBatch_eq]
  split
  · rw [sealLoad_rest]; exact idle
  · obtain ⟨-, h⟩ | ⟨-, h⟩ := planMayHaveEmptied_cases (batchOver n c s) <;> rw [h] <;> exact idle

theorem endRun_state (n : ArmId) (r : MeterRun) (s : State) :
    ((endRun n r s).arm n).control.state = .idle := by
  simp only [endRun, arm_updArm_same, Arm.toIdle]

/-- A sample in CLOSING leaves the arm in CLOSING or ends it (R121). -/
theorem closingShare_state (h : (s.arm n).control.state = .closing) (c : ArmConfig) (pulses : Nat) :
    ((closingShare n c pulses s).arm n).control.state ≠ .held := by
  simp only [closingShare]
  split
  · split
    · rw [endRun_state]; exact ArmState.noConfusion
    · rw [endBatch_state]; exact ArmState.noConfusion
  · rw [arm_updArm_same]; dsimp only; rw [h]; exact ArmState.noConfusion

theorem controllerSample_closing {r : SampleReport} (hb : r.before.control.state = .closing)
    (hs : (s.arm n).control.state = .closing) (c : ArmConfig) :
    ((controllerSample n c r s).arm n).control.state ≠ .held := by
  have still : r.before.flowing = false := by rw [Arm.flowing, hb]; rfl
  simp only [controllerSample, still]
  refine if_pos hb ▸ closingShare_state ?_ c _
  split <;> exact hs

end Sample

/-- Settles O32: the engine's fault and overspeed, and the hold that they bring. -/
theorem meterFaultHoldsAndIsCaptured : Obligations.MeterFaultHoldsAndIsCaptured := by
  unfold Obligations.MeterFaultHoldsAndIsCaptured
  refine ⟨fun n s => offerFault_empty, fun n s k => offerFault_full, fun f s h hb =>
    ⟨fun hc => ?empty, fun k hc => ?record⟩, fun n probe s c p hr hc hp hf => ?flowing,
    fun n probe s c p hr hc hp hcl hpair harmed hd => ?closing, fun f => ?discrepancy⟩
  case empty =>
    exact (bodyless_answered h hb).trans (by rw [readMeterFault_empty (by rwa [frameTaken_capture])])
  case record =>
    exact (bodyless_answered h hb).trans
      (by rw [readMeterFault_full (by rwa [frameTaken_capture])]; rfl)
  case flowing =>
    have checks : (s.arm n).control.state.checksIntegrity = true := ArmState.checks_of_flowing hf
    have overspeed := Arm.engine_overspeed (c := c) (p := p) (probe := probe) (a := s.arm n)
    rw [hf, Bool.true_and] at overspeed
    refine ⟨fun hapart hslow => ?fault, fun hfast htogether => ?overspeed,
      fun hfast hapart => ?both⟩
    case fault =>
      obtain ⟨fault, flagged, disarmed⟩ := Arm.engine_apart checks hapart
      obtain ⟨capture, port⟩ := engineSample_apart checks hapart
      obtain ⟨control, figures, channel, kept, posted⟩ := sampleArm_held hc hp hf rfl
        (handedCause_fault fault (overspeed.trans (decide_eq_false hslow)) _)
      refine ⟨_, exec_sample hr n probe, by rw [control]; rfl, by rw [control]; rfl,
        by rw [Arm.atRest, control]; exact ⟨rfl, rfl, rfl⟩, by rw [figures, flagged],
        by rw [channel]; exact disarmed, by rw [kept, capture]; rfl, by rw [kept, capture],
        posted.trans (post_port _ _ _ _ port)⟩
    case overspeed =>
      have together := engineSample_together checks htogether
      obtain ⟨control, figures, channel, kept, posted⟩ := sampleArm_held hc hp hf together
        (handedCause_overspeed (Arm.engine_together checks htogether)
          (overspeed.trans (decide_eq_true hfast)) _)
      exact ⟨_, exec_sample hr n probe, by rw [control]; rfl, by rw [control]; rfl,
        by rw [Arm.atRest, control]; exact ⟨rfl, rfl, rfl⟩, by rw [channel], kept,
        posted.trans (post_port _ _ _ _ rfl)⟩
    case both =>
      obtain ⟨fault, flagged, disarmed⟩ := Arm.engine_apart checks hapart
      obtain ⟨capture, port⟩ := engineSample_apart checks hapart
      obtain ⟨control, figures, channel, kept, posted⟩ := sampleArm_held hc hp hf rfl
        (handedCause_both fault (overspeed.trans (decide_eq_true hfast)) _)
      refine ⟨_, _, exec_sample hr n probe, ?_, by rw [control]; rfl, by rw [control]; rfl,
        by rw [Arm.atRest, control]; exact ⟨rfl, rfl, rfl⟩, by rw [figures, flagged],
        by rw [channel]; exact disarmed, by rw [kept, capture],
        posted.trans (post_port _ _ _ _ port)⟩
      split
      · exact .inl rfl
      · exact .inr rfl
  case closing =>
    have checks : (s.arm n).control.state.checksIntegrity = true := by rw [hcl]; rfl
    have hapart : (s.arm n).Apart c p probe := ⟨hpair, harmed, hd⟩
    obtain ⟨fault, flagged, disarmed⟩ := Arm.engine_apart checks hapart
    obtain ⟨capture, port⟩ := engineSample_apart checks hapart
    obtain ⟨figures, channel, -⟩ := sampleArm_metered (probe := probe) hc hp
    refine ⟨_, exec_sample hr n probe, ?_, by rw [figures, flagged], by rw [channel]; exact disarmed,
      ?_, fun hroom => ?_⟩
    all_goals rw [sampleArm_configured hc hp]
    · refine controllerSample_closing hcl ?_ c
      rw [(engineSample_rest n c p probe s).2.2.1]; exact hcl
    · exact (controllerSample_shared ..).capture.trans capture
    · have kept := (controllerSample_shared (n := n) (s := (engineSample n c p probe s).1) c
        ((s.arm n).engine c p probe).2).events
      rw [port, post_room hroom] at kept
      obtain ⟨later, hlater⟩ := kept
      rw [← hlater, List.append_assoc, List.getElem?_append_right le_rfl, Nat.sub_self]; rfl
  case discrepancy => unfold discrepancy; omega

end Sys2Proof.Machine
end

section
/-! SUPPORT AND PROOF. START ARM, STOP ARM and RESUME ARM from the host, and their checks (sections 6.3,
6.5 and 6.6). -/

namespace Sys2Proof.Machine

/-! ### The checks of START ARM, in their order -/

theorem deployed_iff {m : Monitor} {n : ArmId} :
    m.deployed n = true ↔ (m.stow.get n).accepted = 1 := beq_iff_eq

theorem deployed_false {m : Monitor} {n : ArmId} (h : (m.stow.get n).accepted ≠ 1) :
    m.deployed n = false := beq_false_of_ne h

theorem mem_armIds (k : ArmId) : k ∈ armIds := by revert k; decide

section Start
variable {s : State} {n : ArmId} {b : Binding}

theorem compartmentFree_iff {compartment : Nat} : s.compartmentFree n compartment = true
    ↔ ∀ k, k ≠ n → (s.arm k).control.state ≠ .idle →
      (s.arm k).control.binding.map (·.compartment) ≠ some compartment := by
  simp only [State.compartmentFree, List.all_eq_true, List.mem_filter, decide_eq_true_eq,
    Bool.not_eq_true', Bool.and_eq_false_iff, bne_eq_false_iff_eq, beq_eq_false_iff_ne]
  refine ⟨fun h k hk hs => (h k ⟨?_, hk⟩).resolve_left hs, fun h k hk => or_iff_not_imp_left.mpr (h k hk.2)⟩
  exact mem_armIds k

theorem startRefusal_stopped (h : s.monitor.rackStop = true) :
    startRefusal s n b = some (.refused .rackStopped) := if_pos h

section Released
variable (hr : s.monitor.rackStop = false)
include hr

theorem startRefusal_stowed (h : (s.monitor.stow.get n).accepted ≠ 1) :
    startRefusal s n b = some (.denied .armStowed) := by
  rw [startRefusal, hr, deployed_false h]; rfl

section Deployed
variable (hd : (s.monitor.stow.get n).accepted = 1)
include hd

theorem startRefusal_elsewhere (h : (s.monitor.coupler.get n).accepted ≠ b.compartment) :
    startRefusal s n b = some (.denied .wrongCompartment) := by
  rw [startRefusal, hr, deployed_iff.mpr hd]; exact if_pos h

section Coupled
variable (hc : (s.monitor.coupler.get n).accepted = b.compartment)
include hc

theorem startRefusal_coupled : startRefusal s n b
    = if !s.compartmentFree n b.compartment then some (.denied .compartmentBusy)
      else if !s.monitor.permissiveOk then some (.denied .permissive)
      else if !s.injectorsReady b.recipe then some (.denied .injectorUnavailable)
      else none := by
  rw [startRefusal, hr, deployed_iff.mpr hd]; exact if_neg (not_not.mpr hc)

theorem startRefusal_busy (h : s.compartmentFree n b.compartment = false) :
    startRefusal s n b = some (.denied .compartmentBusy) := by
  rw [startRefusal_coupled hr hd hc, h]; rfl

theorem startRefusal_permissive (h : s.compartmentFree n b.compartment = true)
    (hp : s.monitor.permissiveOk = false) : startRefusal s n b = some (.denied .permissive) := by
  rw [startRefusal_coupled hr hd hc, h, hp]; rfl

theorem startRefusal_injectors (h : s.compartmentFree n b.compartment = true)
    (hp : s.monitor.permissiveOk = true) :
    startRefusal s n b
      = if !s.injectorsReady b.recipe then some (.denied .injectorUnavailable) else none := by
  rw [startRefusal_coupled hr hd hc, h, hp]; rfl

end Coupled
end Deployed
end Released

end Start

/-! ### The MANDATORY injectors of a recipe, and the clearing of a hold -/

section Injectors
variable {s : State} {r : Recipe} {code : Nat}

theorem mem_mandatoryInjectors (h : s.recipe code = some r) {i : InjId} :
    i ∈ s.mandatoryInjectors code ↔ ∃ x ∈ r.components, x.injector = i
      ∧ ∃ c, (s.injector i).config = some c ∧ c.injectorClass = .mandatory := by
  rw [State.mandatoryInjectors, h, Option.map_some, Option.getD_some, List.mem_filter, List.mem_map,
    beq_iff_eq, Option.map_eq_some_iff]
  exact ⟨fun ⟨⟨x, hx, hi⟩, hc⟩ => ⟨x, hx, hi, hc⟩, fun ⟨x, hx, hi, hc⟩ => ⟨⟨x, hx, hi⟩, hc⟩⟩

/-- A property of the MANDATORY injectors of a recipe, by its components. -/
theorem mandatoryInjectors_all (h : s.recipe code = some r) (P : InjId → Prop) :
    (∀ i ∈ s.mandatoryInjectors code, P i) ↔ ∀ x ∈ r.components, ∀ c,
      (s.injector x.injector).config = some c → c.injectorClass = .mandatory → P x.injector := by
  refine ⟨fun k x hx c hc hm => k _ ((mem_mandatoryInjectors h).mpr ⟨x, hx, rfl, c, hc, hm⟩),
    fun k i hi => ?_⟩
  obtain ⟨x, hx, rfl, c, hc, hm⟩ := (mem_mandatoryInjectors h).mp hi
  exact k x hx c hc hm

theorem isFaulted_iff {j : InjectorState} : j.isFaulted = true ↔ j = .faulted := by
  cases j <;> simp [InjectorState.isFaulted]

theorem isProving_iff {j : InjectorState} : j.isProving = true ↔ ∃ p, j = .proving p := by
  cases j <;> simp [InjectorState.isProving]

theorem injectorsReady_iff (h : s.recipe code = some r) : s.injectorsReady code = true ↔
    ∀ x ∈ r.components, ∀ c, (s.injector x.injector).config = some c → c.injectorClass = .mandatory →
      (s.injector x.injector).state ≠ .faulted ∧ ∀ p, (s.injector x.injector).state ≠ .proving p := by
  rw [State.injectorsReady, List.all_eq_true]
  refine Iff.trans ?_ (mandatoryInjectors_all h fun i =>
    (s.injector i).state ≠ .faulted ∧ ∀ p, (s.injector i).state ≠ .proving p)
  simp only [State.earnsNone, Bool.not_eq_true', Bool.eq_false_iff, ne_eq, Bool.or_eq_true, not_or,
    isFaulted_iff, isProving_iff, not_exists]

end Injectors

section Clearing
variable {s : State} {n : ArmId}

theorem holdCleared_permissive (h : (s.arm n).control.holdCause = some .permissive) :
    holdCleared s n = s.monitor.permissiveOk := by rw [holdCleared, h]

theorem holdCleared_coupler (h : (s.arm n).control.holdCause = some .coupler) :
    holdCleared s n = true ↔ (s.monitor.coupler.get n).accepted = (s.arm n).wantedCode
      ∧ (s.monitor.stow.get n).accepted = 1 := by
  rw [holdCleared, h]; dsimp only; rw [Bool.and_eq_true, beq_iff_eq, deployed_iff]; exact Iff.rfl

theorem holdCleared_once (h : (s.arm n).control.holdCause = some .meterFault
      ∨ (s.arm n).control.holdCause = some .overspeed
      ∨ (s.arm n).control.holdCause = some .noFlow) : holdCleared s n = true := by
  obtain h | h | h := h <;> rw [holdCleared, h]

theorem holdCleared_absent (h : (s.arm n).control.holdCause = none) : holdCleared s n = false := by
  rw [holdCleared, h]

theorem holdCleared_additive {b : Binding} {r : Recipe}
    (h : (s.arm n).control.holdCause = some .additiveFault) (hb : (s.arm n).control.binding = some b)
    (hr : s.recipe b.recipe = some r) : holdCleared s n = true ↔
      ∀ x ∈ r.components, ∀ c, (s.injector x.injector).config = some c →
        c.injectorClass = .mandatory → (s.injector x.injector).state ≠ .faulted := by
  rw [holdCleared, h]
  dsimp only
  rw [hb, Option.map_some, Option.getD_some, List.all_eq_true]
  refine Iff.trans ?_ (mandatoryInjectors_all hr fun i => (s.injector i).state ≠ .faulted)
  simp only [Bool.not_eq_true', Bool.eq_false_iff, isFaulted_iff, ne_eq]

/-! ### The checks of RESUME ARM, in their order -/

theorem resumeRefusal_permissive (h : s.monitor.permissiveOk = false) :
    resumeRefusal s n = some (.denied .permissive) := by
  rw [resumeRefusal, h]; rfl

section Permitted
variable (hp : s.monitor.permissiveOk = true)
include hp

theorem resumeRefusal_stowed (h : (s.monitor.stow.get n).accepted ≠ 1) :
    resumeRefusal s n = some (.denied .armStowed) := by
  rw [resumeRefusal, hp, deployed_false h]; rfl

variable (hd : (s.monitor.stow.get n).accepted = 1)
include hd

theorem resumeRefusal_elsewhere
    (h : (s.monitor.coupler.get n).accepted ≠ (s.arm n).wantedCode) :
    resumeRefusal s n = some (.denied .wrongCompartment) := by
  rw [resumeRefusal, hp, deployed_iff.mpr hd]; exact if_pos h

theorem resumeRefusal_coupled (h : (s.monitor.coupler.get n).accepted = (s.arm n).wantedCode) :
    resumeRefusal s n = if !(s.arm n).inRun
        && !s.injectorsReady (((s.arm n).control.binding.map (·.recipe)).getD 0) then
      some (.denied .injectorUnavailable) else none := by
  rw [resumeRefusal, hp, deployed_iff.mpr hd]; exact if_neg (not_not.mpr h)

end Permitted

end Clearing

/-! ### START ARM by its cases -/

section StartArm
variable {s : State} {n : ArmId}

theorem startArm_wrongState (h : (s.arm n).control.state ≠ .armed) :
    startArm (n.val + 1) s = (s, .refused .wrongState) := by
  rw [startArm, armOf_val]; dsimp only
  split
  · next hs _ _ => exact absurd hs h
  · rfl

section Armed
variable {b : Binding} {c : ArmConfig} (hs : (s.arm n).control.state = .armed)
  (hb : (s.arm n).control.binding = some b) (hc : (s.arm n).config = some c)
include hs hb hc

theorem startArm_refused {a : Answer} (h : startRefusal s n b = some a) :
    startArm (n.val + 1) s = (s, a) := by
  rw [startArm, armOf_val]; dsimp only
  rw [hs, hb, hc]; dsimp only; rw [h]

theorem startArm_started (h : startRefusal s n b = none) :
    startArm (n.val + 1) s = (startBatch n c b s, .ok) := by
  rw [startArm, armOf_val]; dsimp only
  rw [hs, hb, hc]; dsimp only; rw [h]

end Armed
end StartArm

/-- Settles O35: the owner's checks in their order, and the accepted start written out. -/
theorem startArmStartsTheBatch : Obligations.StartArmStartsTheBatch := by
  unfold Obligations.StartArmStartsTheBatch
  refine ⟨fun f s n h hr => ⟨fun hs => ?wrong, fun b c hs hb hc => ⟨fun a ha => ?refused,
      fun hn => ?started⟩⟩,
    fun s n b => ⟨startRefusal_stopped, fun hr => ⟨startRefusal_stowed hr, fun hd =>
      ⟨startRefusal_elsewhere hr hd, fun hc => ⟨fun hbusy => ?busy, fun hfree => ?free⟩⟩⟩⟩,
    fun s r code => injectorsReady_iff,
    fun s n => ⟨holdCleared_permissive, holdCleared_coupler, holdCleared_once⟩,
    fun s n => ⟨resumeRefusal_permissive, resumeRefusal_stowed, resumeRefusal_elsewhere,
      fun hp hd hc hrun => ?run, fun b hp hd hc hrun hb => ?batch⟩,
    fun s n => ⟨holdCleared_absent, fun b r => holdCleared_additive⟩⟩
  case wrong => exact fixed_done h hr (startArm_wrongState (by rwa [frameTaken_arm]))
  case refused =>
    exact fixed_done h hr (startArm_refused (by rwa [frameTaken_arm]) (by rwa [frameTaken_arm])
      (by rwa [frameTaken_arm]) (by rwa [frameTaken_startRefusal]))
  case started =>
    refine fixed_done h hr ((startArm_started (by rwa [frameTaken_arm]) (by rwa [frameTaken_arm])
      (by rwa [frameTaken_arm]) (by rwa [frameTaken_startRefusal])).trans ?_)
    simp only [startBatch, State.updArm, State.setArm, stopIdleTimer, State.updRecord,
      Arm.starting, Arm.clearFigures, frameTaken_newComponents, frameTaken_load,
      frameTaken_arms]
    rfl
  case busy =>
    refine startRefusal_busy hr hd hc (Bool.eq_false_iff.mpr fun hfree => ?_)
    obtain ⟨k, hk, hs, hb⟩ := hbusy
    exact compartmentFree_iff.mp hfree k hk hs hb
  case free =>
    have free := compartmentFree_iff.mpr hfree
    refine ⟨startRefusal_permissive hr hd hc free, fun hp hi => ?_, fun hp hi => ?_⟩ <;>
      rw [startRefusal_injectors hr hd hc free hp, hi] <;> rfl
  case run => rw [resumeRefusal_coupled hp hd hc, hrun]; rfl
  case batch =>
    rw [resumeRefusal_coupled hp hd hc, hrun, hb, Option.map_some, Option.getD_some]
    exact ⟨fun hi => by rw [hi]; rfl, fun hi => by rw [hi]; rfl⟩

/-! ### STOP ARM by its cases -/

theorem armStateReply_of {s : State} {n : ArmId} {st : ArmState} (h : (s.arm n).control.state = st) :
    armStateReply n s = (s, .okWith (field 1 st.code)) := by rw [armStateReply, h]

section StopArm
variable {s : State} {n : ArmId}

theorem stopArm_wrongState (h : (s.arm n).control.state = .closing ∨ (s.arm n).control.state = .idle) :
    stopArm (n.val + 1) s = (s, .refused .wrongState) := by
  rw [stopArm, armOf_val]; dsimp only
  obtain h | h := h <;> rw [h]

theorem stopArm_armed (h : (s.arm n).control.state = .armed) :
    stopArm (n.val + 1) s = armStateReply n (planMayHaveEmptied (cancelArmed n s)) := by
  rw [stopArm, armOf_val]; dsimp only; rw [h]

theorem enterClosing_stopped (n : ArmId) (s : State) :
    enterClosing .stopped n s = s.updArm n (Arm.closedFor s .stopped) :=
  (enterClosing_frame .stopped n s).2 BatchOutcome.noConfusion BatchOutcome.noConfusion

theorem stopArm_closed (h : (s.arm n).flowing = true ∨ (s.arm n).control.state = .held) :
    stopArm (n.val + 1) s
      = armStateReply n (s.updArm n (Arm.closedFor s .stopped)) := by
  have now : stopArmNow n s = s.updArm n (Arm.closedFor s .stopped) := by
    rw [stopArmNow, if_pos (by rwa [Bool.or_eq_true, decide_eq_true_eq]), enterClosing_stopped]
  rw [stopArm, armOf_val]; dsimp only
  rw [now]
  cases hs : (s.arm n).control.state <;> simp_all [Arm.flowing, ArmState.flowing]

/-- The entry to CLOSING with outcome STOPPED of a batch and of a meter run (R116, R120, R155). -/
theorem Arm.closedFor_stopping (a : Arm) (s : State) :
    a.closedFor s .stopped =
      { a with
        channel.overspeedCount := 0
        control.state := .closing, control.outcome := some .stopped
        control.holdCause := none, control.closeGross := a.figures.gross
        control.valve := .closed, control.pump := false, control.flowTarget := 0
        control.noFlowTimer := .stopped, control.settle := 0
        control.closingTimer := .start 60000
        components := if a.inRun then a.components else a.components.map fun x => { x with owed := 0 }
        trailingTimer := if a.inRun then a.trailingTimer else .start 30000 } := by
  cases h : a.inRun <;> rw [Arm.closedFor, h] <;> rfl

/-- The cancellation of an ARMED entry, written out (R45, R55, R103). -/
theorem cancelArmed_eq {r : OpenLoad} {e : PlanEntry} {p : Product} (hr : s.load.record = some r)
    (he : r.plan.find? (fun x => x.arm == n) = some e) (ha : e.state = .armed)
    (hp : s.recipeProduct e.recipe = some p) :
    cancelArmed n s =
      { s.updAllocation r.account p.productClass fun x =>
          { x with reserved := x.reserved - e.reservation } with
        load.record := some { r with plan := r.plan.filter (·.arm ≠ n) }
        arms := s.arms.set n (s.arm n).toIdle } := by
  have entry : s.entryOf n = some e := by
    rw [State.entryOf, State.plan, hr]; exact he
  have released : releaseEntry e s = release r.account p.productClass e.reservation s := by
    rw [releaseEntry, hr, State.recipeClass, hp, Option.map_some]
  rw [cancelArmed, entry]
  dsimp only
  rw [if_pos ha, released]
  simp only [State.updRecord, State.updArm, State.setArm, release, State.updAllocation, hr]
  rfl

theorem cancelArmed_arm {r : OpenLoad} {e : PlanEntry} {p : Product} (hr : s.load.record = some r)
    (he : r.plan.find? (fun x => x.arm == n) = some e) (ha : e.state = .armed)
    (hp : s.recipeProduct e.recipe = some p) : (cancelArmed n s).arm n = (s.arm n).toIdle := by
  rw [cancelArmed_eq hr he ha hp]; exact arm_setArm_same s n _

theorem planMayHaveEmptied_arm (s : State) (n : ArmId) :
    (planMayHaveEmptied s).arm n = s.arm n := by
  obtain ⟨-, h⟩ | ⟨-, h⟩ := planMayHaveEmptied_cases s <;> rw [h]; rfl

theorem planMayHaveEmptied_of {r : OpenLoad} (hr : s.load.record = some r) :
    planMayHaveEmptied s = if s.load.state = .opened ∧ r.plan = [] then
      { s with load.idleTimer := .start (s.load.idleTimeout * 60000) } else s := by
  have plan : s.plan = r.plan := by rw [State.plan, hr]; rfl
  obtain ⟨hs, h⟩ | ⟨hs, h⟩ := planMayHaveEmptied_cases s
  · rw [h, if_pos (by rwa [plan] at hs)]; rfl
  · rw [h, if_neg (by rwa [plan] at hs)]

end StopArm

/-- Settles O36: the owner's case by the arm's state, and the plan that may have emptied. -/
theorem stopArmClosesOrCancels : Obligations.StopArmClosesOrCancels := by
  unfold Obligations.StopArmClosesOrCancels
  refine fun f s n h hr => ⟨fun hs => ?closed, fun r e p hs hrec he ha hp => ?cancelled,
    fun hs => fixed_done h hr (stopArm_wrongState (by rwa [frameTaken_arm]))⟩
  case closed =>
    refine fixed_done h hr ((stopArm_closed (by rwa [frameTaken_arm])).trans ?_)
    rw [armStateReply, State.updArm, arm_setArm_same, frameTaken_arm, Arm.closedFor_stopping,
      State.setArm, frameTaken_arms]
    rfl
  case cancelled =>
    dsimp only
    have product : (frameTaken s).recipeProduct e.recipe = some p := by rwa [frameTaken_recipeProduct]
    have record : (frameTaken s).load.record = some r := by rwa [frameTaken_load]
    refine fixed_done h hr ((stopArm_armed (by rwa [frameTaken_arm])).trans ?_)
    rw [armStateReply, planMayHaveEmptied_arm, cancelArmed_arm record he ha product,
      cancelArmed_eq record he ha product, planMayHaveEmptied_of rfl]
    rw [frameTaken_arm, frameTaken_arms, ← frameTaken_load s]
    rfl

/-! ### RESUME ARM by its cases -/

section ResumeArm
variable {s : State} {n : ArmId} {c : ArmConfig}

theorem resumeArm_notHeld (h : (s.arm n).control.state ≠ .held) :
    resumeArm (n.val + 1) s = (s, .refused .wrongState) := by
  rw [resumeArm, armOf_val]; dsimp only
  split
  · next hs _ => exact absurd hs h
  · rfl

section Held
variable (hs : (s.arm n).control.state = .held) (hc : (s.arm n).config = some c)
include hs hc

theorem resumeArm_notCleared (h : holdCleared s n = false) :
    resumeArm (n.val + 1) s = (s, .refused .wrongState) := by
  rw [resumeArm, armOf_val]; dsimp only
  rw [hs, hc]; dsimp only
  rw [h]; rfl

variable (hcl : holdCleared s n = true)
include hcl

theorem resumeArm_atLimit (h : (s.arm n).control.resumeCount = c.resumeLimit) :
    resumeArm (n.val + 1) s
      = armStateReply n (enterClosing .aborted n (s.updArm n (Arm.align c))) := by
  rw [resumeArm, armOf_val]; dsimp only
  rw [hs, hc]; dsimp only
  rw [hcl]; exact if_pos h

variable (hl : (s.arm n).control.resumeCount ≠ c.resumeLimit)
include hl

theorem resumeArm_refused {a : Answer} (h : resumeRefusal s n = some a) :
    resumeArm (n.val + 1) s = (s, a) := by
  rw [resumeArm, armOf_val]; dsimp only
  rw [hs, hc]; dsimp only
  rw [hcl, h]; exact if_neg hl

theorem resumeArm_resumed (h : resumeRefusal s n = none) :
    resumeArm (n.val + 1) s = armStateReply n (resumeBatch n c s) := by
  rw [resumeArm, armOf_val]; dsimp only
  rw [hs, hc]; dsimp only
  rw [hcl, h]; exact if_neg hl

end Held

/-- The batch that closes ABORTED at the resume limit: its own arm, and no event (R118, R120). -/
theorem abortedArm (s : State) (n : ArmId) (c : ArmConfig) :
    let u := enterClosing .aborted n (s.updArm n (Arm.align c))
    u.arm n = Arm.closedFor (s.updArm n (Arm.align c)) .aborted ((s.arm n).align c)
      ∧ u.port = s.port := by
  dsimp only
  rw [(enterClosing_frame .aborted n _).2 BatchOutcome.noConfusion BatchOutcome.noConfusion,
    arm_updArm_same, arm_updArm_same]
  exact ⟨rfl, rfl⟩

theorem Arm.closedFor_aborted (s : State) (a : Arm) :
    (a.closedFor s .aborted).control = (a.closeFor .aborted).control
      ∧ (a.closedFor s .aborted).figures = a.figures
      ∧ (a.closedFor s .aborted).channel = (a.closeFor .aborted).channel := by
  unfold Arm.closedFor; split <;> exact ⟨rfl, rfl, rfl⟩

/-- A resume, but for what the offer of work takes up (R118, R145). -/
theorem resumeBatch_agree (s : State) (n : ArmId) (c : ArmConfig) :
    let u := resumeBatch n c s
    (u.arm n).control = (((s.arm n).align c).resumed c).control
      ∧ (u.arm n).figures = ((s.arm n).align c).figures
      ∧ (u.arm n).channel = (((s.arm n).align c).resumed c).channel
      ∧ u.load.idleTimer = .stopped
      ∧ u.port = (post .batchResumed (n.val + 1) ((s.arm n).control.resumeCount + 1)
          (s.arm n).figures.gross s).port := by
  dsimp only
  simp only [resumeBatch]
  have restarted : ∀ t : State, t = stopIdleTimer (s.updArm n fun a => (a.align c).resumed c) →
      t.arm n = ((s.arm n).align c).resumed c := fun t ht => by
    rw [ht]; exact arm_updArm_same s n fun a => (a.align c).resumed c
  rw [restarted _ rfl]
  generalize hp : post .batchResumed (armNumber n) (((s.arm n).align c).resumed c).control.resumeCount
    (((s.arm n).align c).resumed c).figures.gross
    (stopIdleTimer (s.updArm n fun a => (a.align c).resumed c)) = t
  have arm : t.arm n = ((s.arm n).align c).resumed c := by
    rw [← hp, post_arm]; exact restarted _ rfl
  have offered := offerAll_frame t
  obtain ⟨port, -, control, figures, channel⟩ := offered.agree n
  refine ⟨by rw [control, arm], by rw [figures, arm]; rfl, by rw [channel, arm], ?_, ?_⟩
  · rw [offered.rest, ← hp, post_load]; rfl
  · rw [port, ← hp]; exact post_port _ _ _ _ rfl

end ResumeArm

/-- Settles O37: the owner's checks in their order, the batch that closes, and the batch that resumes. -/
theorem resumeArmRestartsOrAborts : Obligations.ResumeArmRestartsOrAborts := by
  unfold Obligations.ResumeArmRestartsOrAborts
  refine fun f s n h hr => ⟨fun hs => ?notHeld, fun c hs hc => ⟨fun hcl => ?notCleared,
    fun hcl hl => ?aborted, fun hcl hl => ⟨fun a ha => ?refused, fun hn => ?resumed⟩⟩⟩
  all_goals rw [← frameTaken_arm] at hs
  case notHeld => exact fixed_done h hr (resumeArm_notHeld hs)
  all_goals rw [← frameTaken_arm] at hc; rw [← frameTaken_holdCleared] at hcl
  case notCleared => exact fixed_done h hr (resumeArm_notCleared hs hc hcl)
  all_goals rw [← frameTaken_arm] at hl
  case aborted =>
    obtain ⟨arm, port⟩ := abortedArm (frameTaken s) n c
    obtain ⟨control, figures, channel⟩ := Arm.closedFor_aborted
      ((frameTaken s).updArm n (Arm.align c)) (((frameTaken s).arm n).align c)
    rw [← arm] at control figures channel
    have closing := armStateReply_of (congrArg ArmControl.state control)
    refine ⟨_, fixed_done h hr ((resumeArm_atLimit hs hc hcl hl).trans closing), ?_⟩
    rw [← frameTaken_arm s n, control, figures, channel, port]
    exact ⟨rfl, rfl, rfl, rfl, rfl, rfl⟩
  case refused =>
    exact fixed_done h hr (resumeArm_refused hs hc hcl hl (by rwa [frameTaken_resumeRefusal]))
  case resumed =>
    obtain ⟨control, figures, channel, idle, port⟩ := resumeBatch_agree (frameTaken s) n c
    have starting := armStateReply_of (congrArg ArmControl.state control)
    refine ⟨_, fixed_done h hr ((resumeArm_resumed hs hc hcl hl
      (by rwa [frameTaken_resumeRefusal])).trans starting), ?_⟩
    rw [← frameTaken_arm s n, control, figures, channel, idle, port]
    exact ⟨rfl, rfl, rfl, rfl, rfl⟩

end Sys2Proof.Machine
end

section
/-! SUPPORT AND PROOF. The course of a flowing arm: close test, stage, target and valve, and the sample that
meets no fault and no overspeed (R106 to R112). -/

namespace Sys2Proof.Machine

/-! ### The close test by its cases -/

section CloseTest
variable {a : Arm}

theorem Arm.closeTest_complete (h : a.remaining ≤ a.closeLead) : a.closeTest = some .complete := if_pos h

section Beyond
variable (hr : ¬ a.remaining ≤ a.closeLead)
include hr

theorem Arm.closeTest_margin {m : Int} (hm : a.allocationMargin = some m) :
    a.closeTest = if m ≤ a.standardLead then some .allocation else none := by
  rw [Arm.closeTest, if_neg hr, hm]

theorem Arm.closeTest_noMargin (hm : a.allocationMargin = none) : a.closeTest = none := by
  rw [Arm.closeTest, if_neg hr, hm]

end Beyond

/-- The figures of the close test in a batch (R106). -/
theorem Arm.batch_course {b : Binding} (hr : a.run = none) (hb : a.control.binding = some b) :
    a.remaining = (b.preset : Int) * 1000
        - (match b.basis with | .standard => a.figures.standard | .gross => a.figures.gross)
      ∧ a.closeLead = (match b.basis with
          | .standard => a.control.overrun * a.figures.ctl / 100000
          | .gross => a.control.overrun)
      ∧ a.allocationMargin = some ((b.reservation : Int) * 1000 - a.figures.standard) := by
  have basis : a.basis = b.basis := by unfold Arm.basis; rw [hr, hb]
  have preset : a.preset = b.preset := by unfold Arm.preset; rw [hr, hb]
  refine ⟨?_, ?_, ?_⟩
  · rw [Arm.remaining, preset, Arm.figure, basis]; cases b.basis <;> rfl
  · rw [Arm.closeLead, basis]; cases b.basis <;> rfl
  · unfold Arm.allocationMargin; rw [hr, hb]

/-- The figures of the close test in a meter run (R106, R162). -/
theorem Arm.run_course {r : MeterRun} (hr : a.run = some r) :
    a.remaining = (r.volume : Int) * 1000 - a.figures.gross
      ∧ a.closeLead = a.control.overrun ∧ a.allocationMargin = none := by
  have basis : a.basis = .gross := by unfold Arm.basis; rw [hr]
  have preset : a.preset = r.volume := by unfold Arm.preset; rw [hr]
  refine ⟨?_, ?_, ?_⟩
  · rw [Arm.remaining, preset, Arm.figure, basis]
  · rw [Arm.closeLead, basis]
  · unfold Arm.allocationMargin; rw [hr]

/-- A preset in standard litres is reserved as it is, so it is complete before its reservation is
used. -/
theorem Arm.closeTest_standard {b : Binding} (hr : a.run = none) (hb : a.control.binding = some b)
    (hs : b.basis = .standard) (hp : b.reservation = b.preset) : a.closeTest ≠ some .allocation := by
  obtain ⟨remaining, lead, margin⟩ := Arm.batch_course hr hb
  rw [hs] at remaining lead
  have alike : a.remaining = (b.reservation : Int) * 1000 - a.figures.standard := by rw [remaining, hp]
  by_cases h : a.remaining ≤ a.closeLead
  · rw [Arm.closeTest_complete h]; exact fun k => BatchOutcome.noConfusion (Option.some.inj k)
  · have leads : (a.closeLead : Int) = a.standardLead := by rw [lead, Arm.standardLead]
    rw [Arm.closeTest_margin h margin, if_neg (by rwa [← alike, ← leads])]
    exact (Option.some_ne_none _).symm

end CloseTest

/-! ### Stage, target and valve by their cases -/

section Stage
variable {c : ArmConfig} {a : Arm}

theorem nextStage_trim (h : a.control.state = .trim) : nextStage c a = .trim := by
  rw [nextStage, h]

theorem nextStage_fullFlow (h : a.control.state = .fullFlow) : nextStage c a
    = if a.remaining ≤ slowdownThreshold c a.control.pacing then .trim else .fullFlow := by
  rw [nextStage, h]

theorem nextStage_starting (h : a.control.state = .starting) : nextStage c a
    = if (a.control.stageBase : Int) + c.startVolume * 1000 ≤ a.figures.gross then
        if a.remaining ≤ slowdownThreshold c a.control.pacing then .trim else .fullFlow
      else .starting := by
  rw [nextStage, h]

theorem flowTarget_ceiling (c : ArmConfig) (debt : Bool) {ceiling : Nat} (h : 0 < ceiling) (n : Nat) :
    flowTarget c .fullFlow debt ceiling n
      = min (if debt then c.lowTarget else c.highTarget) (ceiling / n) :=
  if_neg h.ne'

theorem flowTarget_within (c : ArmConfig) (debt : Bool) {ceiling : Nat} (h : 0 < ceiling) (n : Nat) :
    flowTarget c .fullFlow debt ceiling n * n ≤ ceiling := by
  rw [flowTarget_ceiling c debt h]
  exact (Nat.mul_le_mul_right n (Nat.min_le_right ..)).trans (Nat.div_mul_le_self ..)

theorem valveCommand_cases (target rate : Nat) :
    (valveCommand target rate = .openStep ↔ (rate : Int) < target - max 10 (target * 5 / 100))
      ∧ (valveCommand target rate = .closeStep ↔ (target : Int) + max 10 (target * 5 / 100) < rate)
      ∧ valveCommand target rate ≠ .closed := by
  unfold valveCommand
  dsimp only
  split
  · next h =>
    exact ⟨iff_of_true rfl (by omega), iff_of_false Valve.noConfusion (by omega), Valve.noConfusion⟩
  · next h =>
    split
    · next k =>
      exact ⟨iff_of_false Valve.noConfusion (by omega), iff_of_true rfl (by omega), Valve.noConfusion⟩
    · next k =>
      exact ⟨iff_of_false Valve.noConfusion (by omega), iff_of_false Valve.noConfusion (by omega),
        Valve.noConfusion⟩

theorem debtFlag_set {owed : List Nat} (h : ∃ x ∈ owed, 2 < x) (before : Bool) :
    debtFlag owed before = true := if_pos (by simpa using h)

theorem debtFlag_cleared {owed : List Nat} (h : ∀ x ∈ owed, x ≤ 1) (before : Bool) :
    debtFlag owed before = false := by
  have low : ¬ (owed.any (2 < ·)) = true := by
    simp only [List.any_eq_true, decide_eq_true_eq, not_exists, not_and, Nat.not_lt]
    exact fun x hx => (h x hx).trans (by decide)
  rw [debtFlag, if_neg low, if_pos (by simpa using h)]

theorem debtFlag_kept {owed : List Nat} (h : ∀ x ∈ owed, x ≤ 2) (h1 : ∃ x ∈ owed, 1 < x) (before : Bool) :
    debtFlag owed before = before := by
  have low : ¬ (owed.any (2 < ·)) = true := by simpa using h
  rw [debtFlag, if_neg low, if_neg (by simpa using h1)]

end Stage

/-! ### The course of an arm depends on its control, figures and run volume alone -/

/-- Two records of an arm with the same course (R106 to R110). -/
structure Arm.SameCourse (a b : Arm) : Prop where
  control : b.control = a.control
  figures : b.figures = a.figures
  channel : b.channel = a.channel
  volume : b.run.map (·.volume) = a.run.map (·.volume)

section Course
variable {a b d : Arm}

theorem Arm.SameCourse.trans (h : a.SameCourse b) (k : b.SameCourse d) : a.SameCourse d :=
  ⟨k.control.trans h.control, k.figures.trans h.figures, k.channel.trans h.channel,
    k.volume.trans h.volume⟩

theorem Arm.SameCourse.inRun (h : a.SameCourse b) : b.inRun = a.inRun := by
  have volume := congrArg Option.isSome h.volume
  rwa [Option.isSome_map, Option.isSome_map] at volume

theorem Arm.SameCourse.course (h : a.SameCourse b) :
    b.remaining = a.remaining ∧ b.closeLead = a.closeLead ∧ b.standardLead = a.standardLead
      ∧ b.allocationMargin = a.allocationMargin := by
  obtain ⟨control, figures, -, volume⟩ := h
  cases hb : b.run with
  | none =>
    rw [hb] at volume
    have ha : a.run = none := Option.map_eq_none_iff.mp volume.symm
    simp only [Arm.remaining, Arm.preset, Arm.figure, Arm.basis, Arm.closeLead, Arm.standardLead,
      Arm.allocationMargin, control, figures, ha, hb, and_self]
  | some r =>
    rw [hb] at volume
    obtain ⟨q, ha, hv⟩ := Option.map_eq_some_iff.mp volume.symm
    simp only [Arm.remaining, Arm.preset, Arm.figure, Arm.basis, Arm.closeLead, Arm.standardLead,
      Arm.allocationMargin, control, figures, ha, hb, hv, and_self]

theorem Arm.SameCourse.closeTest (h : a.SameCourse b) : b.closeTest = a.closeTest := by
  obtain ⟨remaining, lead, standard, margin⟩ := h.course
  rw [Arm.closeTest, Arm.closeTest, remaining, lead, standard, margin]

theorem Arm.SameCourse.nextStage (h : a.SameCourse b) (c : ArmConfig) :
    nextStage c b = nextStage c a := by
  unfold Machine.nextStage
  rw [h.course.1, h.control, h.figures]

theorem MeterRun.sample_volume (st : ArmState) (factor : Nat) (r : MeterRun) :
    (r.sample st factor).volume = r.volume := by unfold MeterRun.sample; split <;> rfl

end Course

/-! ### The controller's share -/

section Share
variable {n : ArmId} {s t : State} {c : ArmConfig} {r : SampleReport} {owed : List Nat}

theorem flowingShare_closes {o : BatchOutcome} (h : (s.arm n).closeTest = some o) :
    flowingShare n c r none owed s = enterClosing o n s := by
  unfold flowingShare; dsimp only; rw [h]

theorem flowingShare_regulates (h : (s.arm n).closeTest = none) :
    flowingShare n c r none owed s
      = s.updArm n (Arm.regulate c owed s.bay.ceiling (s.othersInFullFlow n) r.pulses) := by
  unfold flowingShare; dsimp only; rw [h]

theorem Arm.closedFor_control (s : State) (o : BatchOutcome) (a : Arm) :
    (a.closedFor s o).control = (a.closeFor o).control := by
  unfold Arm.closedFor; split <;> rfl

theorem enterClosing_control (o : BatchOutcome) (n : ArmId) (s : State) :
    ((enterClosing o n s).arm n).control = ((s.arm n).closeFor o).control := by
  rw [(enterClosing_frame o n s).1.arm n, arm_updArm_same]
  exact Arm.closedFor_control ..

theorem othersInFullFlow_congr (h : ∀ k, k ≠ n → (t.arm k).control = (s.arm k).control) :
    t.othersInFullFlow n = s.othersInFullFlow n := by
  unfold State.othersInFullFlow
  congr 1
  refine List.filter_congr fun k hk => ?_
  have other : k ≠ n := by simpa using (List.mem_filter.mp hk).2
  rw [h k other]

/-- The controllers meet the arm of a sample with its engine's course, in a bay with the same ceiling and
the same other arms in FULL_FLOW. -/
structure Met (n : ArmId) (a : Arm) (s t : State) : Prop where
  course : a.SameCourse (t.arm n)
  ceiling : t.bay.ceiling = s.bay.ceiling
  others : t.othersInFullFlow n = s.othersInFullFlow n

theorem Met.offered {a : Arm} (h : Met n a s t) {u : State} (k : OfferFrame t u) : Met n a s u := by
  have rest : u.bay = t.bay := by rw [k.rest]
  refine ⟨h.course.trans ?_, by rw [rest]; exact h.ceiling,
    (othersInFullFlow_congr fun m _ => by rw [k.arm m]).trans h.others⟩
  rw [k.arm n]; exact ⟨rfl, rfl, rfl, rfl⟩

theorem Met.updArm {a : Arm} (h : Met n a s t) {f : Arm → Arm}
    (hf : (t.arm n).SameCourse (f (t.arm n))) : Met n a s (t.updArm n f) :=
  ⟨h.course.trans (by rw [arm_updArm_same]; exact hf), h.ceiling,
    (othersInFullFlow_congr fun m hm => by rw [arm_updArm_of_ne _ _ hm]).trans h.others⟩

/-- What a flowing arm that meets no fault and no overspeed does at its sample, in the records of its
control and its rate. -/
def Advances (n : ArmId) (c : ArmConfig) (a : Arm) (owed : List Nat) (pulses : Nat) (s u : State) : Prop :=
  (∀ o, a.closeTest = some o → (u.arm n).control = (a.closeFor o).control)
    ∧ (a.closeTest = none →
        (u.arm n).control = (a.regulate c owed s.bay.ceiling (s.othersInFullFlow n) pulses).control
          ∧ (u.arm n).channel = a.channel)

theorem Arm.SameCourse.regulate {a b : Arm} (h : a.SameCourse b) (c : ArmConfig) (owed : List Nat)
    (ceiling others pulses : Nat) : (b.regulate c owed ceiling others pulses).control
      = (a.regulate c owed ceiling others pulses).control := by
  simp only [Arm.regulate, h.nextStage, h.inRun, h.control, h.channel]

theorem Met.advances {a : Arm} (h : Met n a s t) :
    Advances n c a owed r.pulses s (flowingShare n c r none owed t) := by
  refine ⟨fun o ho => ?_, fun hn => ?_⟩
  · rw [flowingShare_closes (h.course.closeTest.trans ho), enterClosing_control]
    simp only [Arm.closeFor, h.course.control, h.course.figures]
  · rw [flowingShare_regulates (h.course.closeTest.trans hn), arm_updArm_same, h.ceiling, h.others]
    exact ⟨h.course.regulate .., h.course.channel⟩

theorem Advances.offered {a : Arm} {pulses : Nat} {u v : State} (h : Advances n c a owed pulses s u)
    (k : OfferFrame u v) : Advances n c a owed pulses s v := by
  unfold Advances
  rw [k.arm n]; exact h

/-- The cycle counting and the offers before the controller's turn leave the arm's course. -/
theorem flowingBatchSample_advances (a : Arm) (h : Met n a s t) :
    ∃ owed, (owed = (t.arm n).owedCounts ∨ owed = ((countCycles r.delta n t.chosen).arm n).owedCounts
        ∨ owed = ((offerAll (countCycles r.delta n t.chosen)).arm n).owedCounts)
      ∧ Advances n c a owed r.pulses s (flowingBatchSample n c r none t) := by
  have counted : Met n a s (countCycles r.delta n t.chosen) :=
    Met.updArm (t := t.chosen) ⟨h.course, h.ceiling, h.others⟩ ⟨rfl, rfl, rfl, rfl⟩
  simp only [flowingBatchSample]
  refine ⟨_, ?_, Advances.offered (Met.advances ?_) (offerAll_frame _)⟩
  · by_cases h0 : t.choice 3 = 0
    · rw [if_pos h0]; exact .inl rfl
    · rw [if_neg h0]
      split
      · exact .inr (.inr rfl)
      · exact .inr (.inl rfl)
  · split
    · exact counted.offered (offerAll_frame _)
    · exact counted

theorem controllerSample_unheld (hb : r.before.flowing = true) (hf : r.fault = none)
    (ho : r.overspeed = false) (c : ArmConfig) (s : State) :
    controllerSample n c r s = if r.before.inRun = true then
      flowingShare n c r none [] (s.updArm n fun a =>
        { a with run := a.run.map (MeterRun.sample r.before.control.state r.factor) })
      else flowingBatchSample n c r none s := by
  simp only [controllerSample, handedCause, hf, ho, hb]; rfl

end Share

section Sample
variable {n : ArmId} {s : State} {c : ArmConfig} {p : Product} {probe : Option Int}

theorem engineSample_met (n : ArmId) (c : ArmConfig) (p : Product) (probe : Option Int) (s : State) :
    Met n ((s.arm n).engine c p probe).1 s (engineSample n c p probe s).1 := by
  obtain ⟨rest, others, arm, -⟩ := engineSample_rest n c p probe s
  refine ⟨by rw [arm]; exact ⟨rfl, rfl, rfl, rfl⟩, by rw [rest],
    othersInFullFlow_congr fun m hm => by rw [others m hm]⟩

/-- A sample of a flowing arm that meets no fault and no overspeed. -/
theorem sampleArm_advances (hc : (s.arm n).config = some c) (hp : s.products.get c.product = some p)
    (hf : (s.arm n).flowing = true) (hfault : ((s.arm n).engine c p probe).2.fault = none)
    (hfast : ((s.arm n).engine c p probe).2.overspeed = false) :
    ∃ owed, Advances n c ((s.arm n).engine c p probe).1 owed (s.arm n).channel.pulsesA s
        (sampleArm n probe s)
      ∧ ((s.arm n).inRun = false →
          let counted := countCycles ((s.arm n).engine c p probe).2.delta n
            (engineSample n c p probe s).1.chosen
          owed = (s.arm n).owedCounts ∨ owed = (counted.arm n).owedCounts
            ∨ owed = ((offerAll counted).arm n).owedCounts) := by
  have met := engineSample_met n c p probe s
  have arm := (engineSample_rest n c p probe s).2.2.1
  rw [sampleArm_configured hc hp, controllerSample_unheld hf hfault hfast]
  by_cases hrun : (s.arm n).inRun = true
  · refine ⟨[], ?_, fun h => absurd (h.symm.trans hrun) Bool.false_ne_true⟩
    rw [if_pos (show ((s.arm n).engine c p probe).2.before.inRun = true from hrun)]
    refine Met.advances (met.updArm ⟨rfl, rfl, rfl, ?_⟩)
    rw [Option.map_map]
    exact Option.map_congr fun q _ => MeterRun.sample_volume _ _ q
  · obtain ⟨owed, counts, advances⟩ :=
      flowingBatchSample_advances (c := c) (r := ((s.arm n).engine c p probe).2) _ met
    rw [if_neg (show ¬ ((s.arm n).engine c p probe).2.before.inRun = true from hrun)]
    rw [arm] at counts
    exact ⟨owed, advances, fun _ => counts⟩

end Sample

/-- Settles O38: the cases of the close test, the stage, the target and the valve, and the controller's
turn in a sample, which meets the engine's course whatever the additives do before it. -/
theorem flowingSampleClosesOrRegulates : Obligations.FlowingSampleClosesOrRegulates := by
  unfold Obligations.FlowingSampleClosesOrRegulates
  refine ⟨⟨fun a => Arm.closeTest_complete, fun a m hr hm hl => ?allocation, fun a m hr hm hl => ?within,
      fun a => Arm.closeTest_noMargin, fun a b => Arm.batch_course, fun a => rfl,
      fun a r => Arm.run_course, fun a b => Arm.closeTest_standard,
      fun c a => ⟨nextStage_trim, fun h => ?fullFlow, fun h => ?starting⟩,
      fun c debt ceiling n => ⟨rfl, rfl, rfl, rfl, fun h _ => ⟨flowTarget_ceiling c false h n,
        flowTarget_ceiling c true h n, flowTarget_within c debt h n⟩⟩, valveCommand_cases⟩,
    fun n probe s c p hr hc hp hf => ?sample,
    fun owed before => ⟨fun h => debtFlag_set h before, fun h => debtFlag_cleared h before,
      fun h h1 => debtFlag_kept h h1 before⟩⟩
  case allocation => rw [Arm.closeTest_margin hr hm, if_pos hl]
  case within => rw [Arm.closeTest_margin hr hm, if_neg hl]
  case fullFlow =>
    rw [nextStage_fullFlow h]
    exact ⟨fun k => if_pos k, fun k => if_neg k⟩
  case starting =>
    rw [nextStage_starting h]
    refine ⟨fun k => if_neg (by omega), fun k l => ?_, fun k l => ?_⟩ <;> rw [if_pos (by omega)]
    · exact if_pos l
    · exact if_neg l
  case sample =>
    dsimp only
    intro hfault hfast
    obtain ⟨owed, ⟨closes, regulates⟩, counts⟩ := sampleArm_advances hc hp hf hfault hfast
    refine ⟨_, exec_sample hr n probe, fun o ho => ?_, fun hn => ?_⟩
    · have control := closes o ho
      rw [Arm.atRest, control]
      exact ⟨rfl, rfl, rfl, ⟨rfl, rfl, rfl⟩, rfl, rfl, rfl⟩
    · obtain ⟨control, channel⟩ := regulates hn
      rw [control, channel]
      refine ⟨rfl, rfl, rfl, rfl, rfl, rfl, fun hrun => if_pos hrun, fun hrun =>
        ⟨owed, counts hrun, if_neg fun k => Bool.false_ne_true (hrun.symm.trans k)⟩⟩

end Sys2Proof.Machine
end

section
/-! SUPPORT AND PROOF. A sample in CLOSING and the end of a batch (R61, R68, R121), the timers of an arm,
overrun learning and the end of a meter run (R112, R115, R122, R157, R163). -/

namespace Sys2Proof.Machine

/-! ### The timers of an arm -/

section Timers
variable {n : ArmId} {s : State}

theorem State.updArm_self {f : Arm → Arm} (h : f (s.arm n) = s.arm n) : s.updArm n f = s := by
  rw [State.updArm, h, State.setArm, State.arm, Bank4.set_get]

theorem noFlow_expires (hr : s.running = true) (hf : (s.arm n).flowing = true)
    (ht : (s.arm n).control.noFlowTimer.running = true) :
    exec (.noFlowTimerExpiry n) s = .next (post .batchHeld (n.val + 1) 5 (s.arm n).figures.gross
      (s.updArm n (Arm.holdFor .noFlow))) := by
  rw [exec, execNoFlowTimerExpiry, hr, ht, Bool.and_true, if_pos rfl, enterHeld_of_flowing hf]; rfl

theorem noFlow_stands (ht : (s.arm n).control.noFlowTimer.running = false) :
    exec (.noFlowTimerExpiry n) s = .next s := by
  rw [exec, execNoFlowTimerExpiry, ht, Bool.and_false, if_neg Bool.false_ne_true]

theorem closing_expires (hr : s.running = true)
    (ht : (s.arm n).control.closingTimer.running = true) :
    exec (.closingTimerExpiry n) s = .next { s with
      arms := s.arms.set n { s.arm n with
        control.closingTimer := { (s.arm n).control.closingTimer with
          elapsed := (s.arm n).control.closingTimer.limit } } } := by
  rw [exec, execClosingTimerExpiry, if_pos hr, State.updArm, Timer.runOut, if_pos ht]; rfl

theorem closing_stands (hr : s.running = true)
    (ht : (s.arm n).control.closingTimer.running = false) :
    exec (.closingTimerExpiry n) s = .next s := by
  rw [exec, execClosingTimerExpiry, if_pos hr, State.updArm_self]
  rw [Timer.runOut, if_neg (by rw [ht]; exact Bool.false_ne_true)]

/-- A component at the end of the trailing timer (R157). -/
theorem Component.expired_eq (x : Component) :
    (if 0 < x.owed then
      { x with owed := 0, status := if x.status = .ok then .short else x.status } else x)
    = if x.owed = 0 then x else if x.status = .ok then { x with owed := 0, status := .short }
      else { x with owed := 0 } := by
  by_cases h : x.owed = 0
  · rw [if_neg (by omega), if_pos h]
  · rw [if_pos (by omega), if_neg h]
    by_cases hs : x.status = .ok
    · rw [if_pos hs, if_pos hs]
    · rw [if_neg hs, if_neg hs]

theorem trailing_expires (hr : s.running = true) (ht : (s.arm n).trailingTimer.running = true) :
    exec (.trailingTimerExpiry n) s = .next { s with
      arms := s.arms.set n { s.arm n with
        trailingTimer := { (s.arm n).trailingTimer with elapsed := (s.arm n).trailingTimer.limit }
        components := (s.arm n).components.map fun x =>
          if x.owed = 0 then x
          else if x.status = .ok then { x with owed := 0, status := .short }
          else { x with owed := 0 } } } := by
  rw [exec, execTrailingTimerExpiry, hr, ht, Bool.and_true, if_pos rfl, State.updArm, Timer.runOut,
    if_pos ht]
  simp only [Component.expired_eq]
  rfl

theorem trailing_stands (ht : (s.arm n).trailingTimer.running = false) :
    exec (.trailingTimerExpiry n) s = .next s := by
  rw [exec, execTrailingTimerExpiry, ht, Bool.and_false, if_neg Bool.false_ne_true]

end Timers

/-! ### Overrun learning and the end of a meter run -/

section Learning
variable (c : ArmConfig) (a : Arm)

theorem Arm.learn_eq : a.learn c = { a with
    control.overrun := (a.learn c).control.overrun, control.pacing := (a.learn c).control.pacing } := rfl

theorem Arm.learn_overrun :
    (a.learn c).control.overrun ≤ 50000
      ∧ (0 ≤ (a.control.overrun : Int)
            + ((a.figures.gross : Int) - a.control.closeGross - a.control.overrun).tdiv 4 →
          (a.control.overrun : Int)
            + ((a.figures.gross : Int) - a.control.closeGross - a.control.overrun).tdiv 4 ≤ 50000 →
          ((a.learn c).control.overrun : Int) = a.control.overrun
            + ((a.figures.gross : Int) - a.control.closeGross - a.control.overrun).tdiv 4) := by
  dsimp only [Arm.learn]
  omega

theorem Arm.learn_pacing : (a.learn c).control.pacing
    = if (c.lateClose : Int) < a.figure - (a.preset : Int) * 1000 then 7 else a.control.pacing - 1 := rfl

end Learning

theorem endOutcome_complete {a : Arm} : a.endOutcome = .complete ↔ a.control.outcome = some .complete := by
  rw [Arm.endOutcome]
  cases a.control.outcome with
  | none => exact iff_of_false BatchOutcome.noConfusion (Option.some_ne_none _).symm
  | some o => rw [Option.getD_some, Option.some_inj]

/-- A post reads and changes the line's records alone. -/
theorem post_besides (k : EventKind) (a c v : Nat) (s : State) (accounts : List Account)
    (load : LoadController) (arms : Bank4 Arm) :
    post k a c v { s with accounts := accounts, load := load, arms := arms }
      = { post k a c v s with accounts := accounts, load := load, arms := arms } := by
  by_cases h : s.port.events.length < 32
  · rw [post_room h, post_room (by exact h)]
  · rw [post_full (s := s) (Nat.not_lt.mp h)]
    exact post_full (s := { s with accounts := accounts, load := load, arms := arms })
      (Nat.not_lt.mp h) k a c v

theorem post_updArm (k : EventKind) (a c v : Nat) (s : State) (n : ArmId) (f : Arm → Arm) :
    post k a c v (s.updArm n f) = (post k a c v s).updArm n f := by
  by_cases h : s.port.events.length < 32
  · rw [post_room (s := s) h]; exact post_room (s := s.updArm n f) h k a c v
  · rw [post_full (s := s) (Nat.not_lt.mp h)]
    exact post_full (s := s.updArm n f) (Nat.not_lt.mp h) k a c v

section Run
variable {n : ArmId} {r : MeterRun} {s : State}

theorem endRun_eq (n : ArmId) (r : MeterRun) (s : State) :
    endRun n r s = (post .meterRunDone (n.val + 1)
        (if (s.arm n).control.outcome = some .complete then
          fit 16 (averageRate (s.arm n).figures.gross r.flowingMs) else 0)
        (s.arm n).figures.gross s).updArm n fun a =>
      { a.toIdle with
        result := if (s.arm n).control.outcome = some .complete then
            some { gross := a.figures.gross, mfUsed := r.mfUsed }
          else a.result } := by
  simp only [endRun, endOutcome_complete]
  rfl

theorem State.updArm_updArm (s : State) (n : ArmId) (f g : Arm → Arm) :
    (s.updArm n f).updArm n g = s.updArm n fun a => g (f a) := by
  rw [State.updArm, arm_updArm_same, State.setArm, State.updArm, State.setArm, State.updArm, State.setArm]
  simp only [Bank4.set_set]

end Run

/-! ### The share in CLOSING -/

section Closing
variable {n : ArmId} {s t : State} {c : ArmConfig} {p : Product} {probe : Option Int}

theorem settleWith_eq (pulses settle : Nat) :
    settleWith pulses settle = if pulses = 0 then min 20 (settle + 1) else 0 := rfl

/-- The settle count of an arm after a sample in CLOSING (R121). -/
def Arm.settledBy (a : Arm) : Nat := settleWith a.channel.pulsesA a.control.settle

theorem controllerSample_closingShare {r : SampleReport} (hb : r.before.control.state = .closing)
    (ho : r.overspeed = false) (c : ArmConfig) (s : State) :
    controllerSample n c r s = closingShare n c r.pulses s := by
  have still : r.before.flowing = false := by rw [Arm.flowing, hb]; rfl
  simp only [controllerSample, still, ho, Bool.and_false]
  exact if_pos hb

/-- The arm as it meets the end test (R121). -/
def Arm.settled (c : ArmConfig) (p : Product) (probe : Option Int) (a : Arm) : Arm :=
  { (a.engine c p probe).1 with control.settle := a.settledBy }

/-- The state in which the end test is made (R121). -/
def State.settled (n : ArmId) (c : ArmConfig) (p : Product) (probe : Option Int) (s : State) : State :=
  (engineSample n c p probe s).1.setArm n ((s.arm n).settled c p probe)

/-- The arm and the state after the engine's share and the settle count (R121). -/
theorem sampleArm_closing (hc : (s.arm n).config = some c) (hp : s.products.get c.product = some p)
    (hcl : (s.arm n).control.state = .closing) :
    sampleArm n probe s
      = if mayEnd (s.settled n c p probe) n then
          match (s.arm n).run with
          | some r => endRun n r (s.settled n c p probe)
          | none => endBatch n c (s.settled n c p probe)
        else s.settled n c p probe := by
  have still : (s.arm n).flowing = false := by rw [Arm.flowing, hcl]; rfl
  have slow : ((s.arm n).engine c p probe).2.overspeed = false := by
    rw [Arm.engine_overspeed, still]; rfl
  have arm := (engineSample_rest n c p probe s).2.2.1
  rw [sampleArm_configured hc hp, controllerSample_closingShare hcl slow]
  simp only [closingShare, State.updArm, arm_setArm_same]
  rw [arm]
  rfl

theorem additivesPending_congr (hr : (t.arm n).inRun = (s.arm n).inRun) (hi : t.injectors = s.injectors)
    (hc : (t.arm n).components = (s.arm n).components) :
    additivesPending t n = additivesPending s n := by
  simp only [additivesPending, State.injector, hr, hi, hc]

theorem State.settled_arm : (s.settled n c p probe).arm n = (s.arm n).settled c p probe :=
  arm_setArm_same ..

theorem mayEnd_settled : mayEnd (s.settled n c p probe) n = true ↔
    ((s.arm n).settledBy = 20 ∨ (s.arm n).control.closingTimer.done = true)
      ∧ additivesPending s n = false := by
  have rest := (engineSample_rest n c p probe s).1
  have pending : additivesPending (s.settled n c p probe) n = additivesPending s n :=
    additivesPending_congr (by rw [State.settled_arm]; rfl)
      (by rw [State.settled, setArm_injectors, rest]) (by rw [State.settled_arm]; rfl)
  rw [mayEnd, pending, State.settled_arm, Bool.and_eq_true, Bool.or_eq_true, beq_iff_eq,
    Bool.not_eq_true']
  exact Iff.rfl

theorem additivesPending_run (h : (s.arm n).inRun = true) : additivesPending s n = false := by
  rw [additivesPending, h]; rfl

/-- The end of a meter run at its sample (R163). -/
theorem endRun_settled {r : MeterRun} : endRun n r (s.settled n c p probe) =
    let a := (s.arm n).settled c p probe
    let v := post .meterRunDone (n.val + 1)
      (if (s.arm n).control.outcome = some .complete then
        fit 16 (averageRate a.figures.gross r.flowingMs) else 0)
      a.figures.gross (engineSample n c p probe s).1
    { v with arms := v.arms.set n { a.toIdle with
        result := if (s.arm n).control.outcome = some .complete then
            some { gross := a.figures.gross, mfUsed := r.mfUsed }
          else (s.arm n).result } } := by
  have step : s.settled n c p probe
      = (engineSample n c p probe s).1.updArm n fun _ => (s.arm n).settled c p probe := rfl
  rw [endRun_eq, State.settled_arm, step, post_updArm, State.updArm_updArm]
  rfl

end Closing

/-- Settles O40: the three timers, the learning, and the end of a run. -/
theorem armTimersAndOverrun : Obligations.ArmTimersAndOverrun := by
  unfold Obligations.ArmTimersAndOverrun
  refine ⟨fun n s hr => ⟨noFlow_expires hr, noFlow_stands, closing_expires hr, closing_stands hr,
      trailing_expires hr, trailing_stands⟩,
    ⟨fun c a => ⟨(Arm.learn_overrun c a).1, (Arm.learn_overrun c a).2, fun h => if_pos h,
      fun h => if_neg h, _, _, Arm.learn_eq c a⟩, fun n r s => ?ended⟩,
    fun n probe s c p r hr hc hp hcl hrun => ?sample⟩
  case ended =>
    rw [endRun_eq, arm_updArm_same, post_arm]
    exact ⟨rfl, rfl, rfl, rfl, by rw [updArm_load, post_load], by rw [updArm_accounts, post_accounts],
      by rw [updArm_store, post_store]⟩
  case sample =>
    have running : (s.arm n).inRun = true := by rw [Arm.inRun, hrun]; rfl
    have pending := additivesPending_run running
    dsimp only
    rw [exec_sample hr, sampleArm_closing hc hp hcl, hrun]
    refine ⟨fun hends => ?_, fun hends ho hms hrate => ?_, fun hends ho => ?_⟩
    · rw [if_neg (mt mayEnd_settled.mp fun h => hends h.1)]; rfl
    · rw [if_pos (mayEnd_settled.mpr ⟨hends, pending⟩)]
      dsimp only
      rw [endRun_settled]
      dsimp only
      rw [if_pos ho, if_pos ho, averageRate, fit_of_lt hrate]
      rfl
    · rw [if_pos (mayEnd_settled.mpr ⟨hends, pending⟩)]
      dsimp only
      rw [endRun_settled]
      dsimp only
      rw [if_neg ho, if_neg ho]
      rfl

end Sys2Proof.Machine
end

section
/-! SUPPORT AND PROOF. The end of a batch at its sample in CLOSING: the line, the charge, the plan and the
load (R46, R61, R62, R68, R97, R121, R122, R174, R176, R177). -/

namespace Sys2Proof.Machine

/-! ### The line and the batch that is over -/

/-- The open load record after the line of an arm (R55, R61). -/
def OpenLoad.lined (n : ArmId) (line : Line) (r : OpenLoad) : OpenLoad :=
  { r with lines := r.lines ++ [line], plan := r.plan.filter (·.arm ≠ n) }

/-- The arm after its line: the standard totalizer takes the line's standard mL (R97). -/
def Arm.totalized (a : Arm) : Arm :=
  { a with totals.standard := fit 64 (a.totals.standard + a.figures.standard) }

/-- The arm whose batch is over, before it is IDLE: a COMPLETE batch has taught it (R97, R122). -/
def Arm.taught (c : ArmConfig) (a : Arm) : Arm :=
  if a.endOutcome = .complete then a.totalized.learn c else a.totalized

theorem Arm.taught_figures (c : ArmConfig) (a : Arm) : (a.taught c).figures = a.figures := by
  unfold Arm.taught; split <;> rfl

theorem Arm.taught_toIdle (c : ArmConfig) (a : Arm) :
    (a.taught c).toIdle.control.state = .idle ∧ (a.taught c).toIdle.control.binding = none
      ∧ (a.taught c).toIdle.control.outcome = none ∧ (a.taught c).toIdle.atRest :=
  ⟨rfl, rfl, rfl, rfl, rfl, rfl⟩

section Line
variable {n : ArmId} {s : State} {r : OpenLoad} {e : PlanEntry} {q : Product} {c : ArmConfig}

/-- The line that a batch makes (R61, R174). -/
def State.batchLine (s : State) (n : ArmId) (r : OpenLoad) (e : PlanEntry) (q : Product) : Line :=
  lineOf e q (s.arm n).endOutcome
    (overAllocationOf (s.account r.account) q.productClass e.reservation
      (litres (s.arm n).figures.standard)) (s.arm n)

/-- The accounts after the charge of a batch (R46). -/
def State.chargedAccounts (s : State) (n : ArmId) (r : OpenLoad) (e : PlanEntry) (q : Product) :
    List Account :=
  (s.updAllocation r.account q.productClass
    (·.charged e.reservation (litres (s.arm n).figures.standard))).accounts

variable (hr : s.load.record = some r) (he : r.plan.find? (fun x => x.arm == n) = some e)
  (hq : s.recipeProduct e.recipe = some q)
include hr he hq

theorem makeLine_made (o : BatchOutcome) : makeLine o n s = { s with
    accounts := s.chargedAccounts n r e q
    load := { s.load with record := some (r.lined n
      (lineOf e q o (overAllocationOf (s.account r.account) q.productClass e.reservation
        (litres (s.arm n).figures.standard)) (s.arm n))) }
    arms := s.arms.set n (s.arm n).totalized } := by
  have entry : s.entryOf n = some e := by rw [State.entryOf, State.plan, hr]; exact he
  unfold makeLine
  rw [hr, entry]
  dsimp only
  rw [hq]
  simp only [State.updArm, State.setArm, State.updRecord, charge, State.updAllocation, hr,
    Option.map_some]
  rfl

theorem makeLine_eq : makeLine (s.arm n).endOutcome n s = { s with
    accounts := s.chargedAccounts n r e q
    load := { s.load with record := some (r.lined n (s.batchLine n r e q)) }
    arms := s.arms.set n (s.arm n).totalized } := makeLine_made hr he hq _

/-- The batch that is over: its line, the charge, BATCH ENDED and the arm in IDLE (R61, R121). -/
theorem batchOver_eq (c : ArmConfig) : batchOver n c s =
    { post .batchEnded (n.val + 1) (s.arm n).endOutcome.code (s.arm n).figures.gross s with
      accounts := s.chargedAccounts n r e q
      load := { s.load with record := some (r.lined n (s.batchLine n r e q)) }
      arms := s.arms.set n ((s.arm n).taught c).toIdle } := by
  have taught : (if (s.arm n).endOutcome = .complete then
        (makeLine (s.arm n).endOutcome n s).updArm n (Arm.learn c)
      else makeLine (s.arm n).endOutcome n s) = { s with
        accounts := s.chargedAccounts n r e q
        load := { s.load with record := some (r.lined n (s.batchLine n r e q)) }
        arms := s.arms.set n ((s.arm n).taught c) } := by
    rw [makeLine_eq hr he hq, Arm.taught]
    split
    · simp only [State.updArm, State.setArm, State.arm, Bank4.get_set_same, Bank4.set_set]
    · rfl
  simp only [batchOver]
  rw [taught, post_besides]
  simp only [State.updArm, State.setArm, State.arm, Bank4.get_set_same, Bank4.set_set]
  rw [Arm.taught_figures]
  rfl

theorem batchOver_planEmpty (c : ArmConfig) : (batchOver n c s).planEmpty = true
    ↔ r.plan.filter (·.arm ≠ n) = [] := by
  rw [batchOver_eq hr he hq c]; exact List.isEmpty_iff

/-- The arm and the accounts at the end of a batch, whatever becomes of the load. -/
theorem endBatch_arm (c : ArmConfig) : (endBatch n c s).arm n = ((s.arm n).taught c).toIdle
    ∧ (endBatch n c s).accounts = s.chargedAccounts n r e q := by
  have arm : (batchOver n c s).arm n = ((s.arm n).taught c).toIdle := by
    rw [batchOver_eq hr he hq c]; exact Bank4.get_set_same ..
  have accounts : (batchOver n c s).accounts = s.chargedAccounts n r e q := by
    rw [batchOver_eq hr he hq c]
  rw [endBatch_eq]
  split
  · rw [sealLoad_rest]; exact ⟨arm, accounts⟩
  · obtain ⟨-, h⟩ | ⟨-, h⟩ := planMayHaveEmptied_cases (batchOver n c s) <;> rw [h] <;>
      exact ⟨arm, accounts⟩

theorem batchOver_rest (c : ArmConfig) :
    (batchOver n c s).load = { s.load with record := some (r.lined n (s.batchLine n r e q)) }
      ∧ (batchOver n c s).store = s.store
      ∧ (batchOver n c s).port = (post .batchEnded (n.val + 1) (s.arm n).endOutcome.code
          (s.arm n).figures.gross s).port := by
  rw [batchOver_eq hr he hq c]
  exact ⟨rfl, post_store .., rfl⟩

/-- The batch ends in an OPEN load: at most the idle timer starts (R62). -/
theorem endBatch_open (c : ArmConfig) (hl : s.load.state = .opened) :
    (endBatch n c s).load = { s.load with
        record := some (r.lined n (s.batchLine n r e q))
        idleTimer := if (r.lined n (s.batchLine n r e q)).plan = [] then
          .start (s.load.idleTimeout * 60000) else s.load.idleTimer }
      ∧ (endBatch n c s).store = s.store
      ∧ (endBatch n c s).port = (post .batchEnded (n.val + 1) (s.arm n).endOutcome.code
          (s.arm n).figures.gross s).port := by
  obtain ⟨load, store, port⟩ := batchOver_rest hr he hq c
  have record : (batchOver n c s).load.record = some (r.lined n (s.batchLine n r e q)) := by rw [load]
  have opened : (batchOver n c s).load.state = .opened := by rw [load]; exact hl
  rw [endBatch_eq, if_neg (by rw [opened]; exact Bool.false_ne_true), planMayHaveEmptied_of record]
  by_cases hleft : (r.lined n (s.batchLine n r e q)).plan = []
  · rw [if_pos ⟨opened, hleft⟩, if_pos hleft]
    dsimp only
    rw [load]
    exact ⟨rfl, store, port⟩
  · rw [if_neg fun h => hleft h.2, if_neg hleft]
    exact ⟨load, store, port⟩

section Ending
variable (c : ArmConfig) (hl : s.load.state = .ending)
include hl

theorem batchOver_sealing :
    ((batchOver n c s).load.state = .ending && (batchOver n c s).planEmpty) = true
      ↔ (r.lined n (s.batchLine n r e q)).plan = [] := by
  have ending : (batchOver n c s).load.state = .ending := by
    rw [(batchOver_rest hr he hq c).1]; exact hl
  rw [Bool.and_eq_true, batchOver_planEmpty hr he hq c, decide_eq_true_eq]
  exact and_iff_right ending

/-- The batch ends in an ENDING load that has other entries (R68). -/
theorem endBatch_ending (hleft : (r.lined n (s.batchLine n r e q)).plan ≠ []) :
    (endBatch n c s).load = { s.load with record := some (r.lined n (s.batchLine n r e q)) }
      ∧ (endBatch n c s).store = s.store
      ∧ (endBatch n c s).port = (post .batchEnded (n.val + 1) (s.arm n).endOutcome.code
          (s.arm n).figures.gross s).port := by
  obtain ⟨load, store, port⟩ := batchOver_rest hr he hq c
  have ending : (batchOver n c s).load.state ≠ .opened := by
    rw [load]; exact fun h => LoadState.noConfusion (hl.symm.trans h)
  have record : (batchOver n c s).load.record = some (r.lined n (s.batchLine n r e q)) := by rw [load]
  rw [endBatch_eq, if_neg (mt (batchOver_sealing hr he hq c hl).mp hleft), planMayHaveEmptied_of record,
    if_neg fun h => ending h.1]
  exact ⟨load, store, port⟩

/-- The last batch of an ENDING load ends and seals it (R68, R172). -/
theorem endBatch_sealed {cause : EndCause} (hnone : (r.lined n (s.batchLine n r e q)).plan = [])
    (hc : r.endCause = some cause) :
    (endBatch n c s).load.state = .noLoad ∧ (endBatch n c s).load.record = none
      ∧ (endBatch n c s).port = (post .loadSealed 0 cause.code r.note
          (post .batchEnded (n.val + 1) (s.arm n).endOutcome.code (s.arm n).figures.gross s)).port
      ∧ (endBatch n c s).store.notes = s.store.notes
          ++ [noteOf (r.lined n (s.batchLine n r e q)) cause s.port.clock] := by
  obtain ⟨load, store, port⟩ := batchOver_rest hr he hq c
  have record : (batchOver n c s).load.record = some (r.lined n (s.batchLine n r e q)) := by rw [load]
  have cause' : (r.lined n (s.batchLine n r e q)).endCause = some cause := hc
  have clock : (batchOver n c s).port.clock = s.port.clock := by rw [port, post_clock]
  rw [endBatch_eq, if_pos ((batchOver_sealing hr he hq c hl).mpr hnone), sealLoad, record]
  dsimp only
  rw [cause']
  dsimp only
  rw [post_load, post_store, storeNote_rest, ← store, ← clock]
  exact ⟨rfl, rfl, post_port _ _ _ _ port, rfl⟩

end Ending

end Line

/-! ### The fields of a line -/

theorem lineOf_eq (e : PlanEntry) (q : Product) (o : BatchOutcome) (beyond : Nat) (a : Arm) :
    lineOf e q o beyond a =
      { compartment := e.compartment, arm := e.arm, recipe := e.recipe, productCode := q.code
        preset := e.preset, grossMl := a.figures.gross, grossL := litres a.figures.gross
        standardMl := a.figures.standard, standardL := litres a.figures.standard
        fwa := a.figures.fwa, ctl := a.figures.ctl, outcome := o
        resumes := a.control.resumeCount
        flags :=
          { tempSubstituted := a.figures.tempSubstituted
            correctionLimited := a.figures.correctionLimited
            additiveShort := a.components.any fun x =>
              x.injected * 100 < a.figures.gross * x.dose / 1000000 * (100 - x.tolerance)
                || x.status ≠ .ok
            overAllocation := decide (0 < beyond), meterFault := a.figures.meterFault
            couplerLost := a.control.couplerLost
            permissiveHold := a.control.permissiveHold, paced := a.control.paced }
        overAllocation := beyond
        entries := a.components.map fun x =>
          { code := x.additiveCode, injector := x.injector
            target := a.figures.gross * x.dose / 1000000, injected := x.injected
            shots := x.shots, status := x.status } } := rfl

/-! ### The batch of a sample -/

section Sample
variable {n : ArmId} {s : State} {c : ArmConfig} {p : Product} {probe : Option Int} {r : OpenLoad}
  {e : PlanEntry} {q : Product}

/-- What the end test's state has of the state before the sample. -/
theorem State.settled_rest (n : ArmId) (c : ArmConfig) (p : Product) (probe : Option Int) (s : State) :
    (s.settled n c p probe).load = s.load ∧ (s.settled n c p probe).accounts = s.accounts
      ∧ (s.settled n c p probe).store = s.store ∧ (s.settled n c p probe).products = s.products
      ∧ (s.settled n c p probe).recipes = s.recipes
      ∧ (s.settled n c p probe).port.clock = s.port.clock
      ∧ (s.settled n c p probe).port = (engineSample n c p probe s).1.port := by
  have rest := (engineSample_rest n c p probe s).1
  unfold State.settled
  refine ⟨?_, ?_, ?_, ?_, ?_, ?_, rfl⟩ <;> (dsimp only [State.setArm]; rw [rest])

theorem State.settled_line (r : OpenLoad) (e : PlanEntry) (q : Product) :
    (s.settled n c p probe).batchLine n r e q =
      let a := (s.arm n).settled c p probe
      lineOf e q ((s.arm n).control.outcome.getD .stopped)
        (overAllocationOf (s.account r.account) q.productClass e.reservation
          (litres a.figures.standard)) a := by
  obtain ⟨-, accounts, -⟩ := State.settled_rest n c p probe s
  rw [State.batchLine, State.settled_arm, State.account, accounts]; rfl

theorem State.settled_charged (r : OpenLoad) (e : PlanEntry) (q : Product) :
    (s.settled n c p probe).chargedAccounts n r e q =
      (s.updAllocation r.account q.productClass
        (·.charged e.reservation (litres ((s.arm n).settled c p probe).figures.standard))).accounts := by
  obtain ⟨-, accounts, -⟩ := State.settled_rest n c p probe s
  rw [State.chargedAccounts, State.settled_arm, State.updAllocation, accounts]; rfl

end Sample

/-- Settles O39: the batch waits in CLOSING, or its line is made and the load goes on or is sealed. -/
theorem closingSampleEndsTheBatch : Obligations.ClosingSampleEndsTheBatch := by
  unfold Obligations.ClosingSampleEndsTheBatch
  refine ⟨fun n probe s c p hr hc hp hcl hrun => ?sample, lineOf_eq, fun _ _ _ _ => rfl⟩
  obtain ⟨load, accounts, store, products, recipes, clock, port⟩ := State.settled_rest n c p probe s
  have norun : (s.arm n).run = none := by
    rwa [Arm.inRun, Option.isSome_eq_false_iff, Option.isNone_iff_eq_none] at hrun
  dsimp only
  rw [exec_sample hr, sampleArm_closing hc hp hcl, norun]
  dsimp only
  refine ⟨fun hends => ?waits, fun r e q hends hrec he hq hfit => ?ended⟩
  case waits =>
    rw [if_neg (mt mayEnd_settled.mp hends)]
    exact ⟨_, rfl, by rw [State.settled_arm]; rfl, load, accounts, store⟩
  case ended =>
    have record : (s.settled n c p probe).load.record = some r := by rw [load, hrec]
    have product : (s.settled n c p probe).recipeProduct e.recipe = some q := by
      rw [recipeProduct_congr recipes products]; exact hq
    have line := State.settled_line (n := n) (s := s) (c := c) (p := p) (probe := probe) r e q
    obtain ⟨arm, charged⟩ := endBatch_arm record he product c
    rw [State.settled_arm] at arm
    rw [State.settled_charged] at charged
    rw [if_pos (mayEnd_settled.mpr hends)]
    refine ⟨_, rfl, rfl, rfl, ?arm, by rw [arm]; rfl, by rw [arm]; rfl, by rw [arm]; rfl,
      by rw [arm]; exact ⟨rfl, rfl, rfl⟩, charged, fun hopen => ?opened, fun hend hleft => ?ending,
      fun cause hend hnone hcause => ?sealed⟩
    case arm =>
      have fits : fit 64 (((s.arm n).settled c p probe).totals.standard
          + ((s.arm n).settled c p probe).figures.standard) = _ := fit_of_lt hfit
      rw [arm, Arm.taught, Arm.totalized, fits]
      rfl
    case opened =>
      obtain ⟨load', store', port'⟩ := endBatch_open record he product c (by rw [load]; exact hopen)
      rw [line, load] at load'
      rw [State.settled_arm] at port'
      exact ⟨by rw [load']; exact hopen, by rw [load']; rfl, store'.trans store, by rw [load']; rfl,
        port'.trans (post_port _ _ _ _ port)⟩
    case ending =>
      obtain ⟨load', store', port'⟩ :=
        endBatch_ending record he product c (by rw [load]; exact hend) hleft
      rw [line, load] at load'
      rw [State.settled_arm] at port'
      exact ⟨by rw [load']; exact hend, by rw [load']; rfl, store'.trans store,
        port'.trans (post_port _ _ _ _ port)⟩
    case sealed =>
      obtain ⟨state, record', port', notes⟩ :=
        endBatch_sealed record he product c (by rw [load]; exact hend) hnone hcause
      rw [line, store, clock] at notes
      rw [State.settled_arm] at port'
      exact ⟨state, record', port'.trans (post_port _ _ _ _ (post_port _ _ _ _ port)), notes⟩

end Sys2Proof.Machine
end

section
/-! SUPPORT AND PROOF. Debounce, the bay permissive with its hand-over, couplers and stow switches (R113,
R114, R124 to R134). -/

namespace Sys2Proof.Machine

/-! ### Debounce -/

section Levels
variable {i : Input} {levels : BitVec 4} {d : Debounce}

theorem setLevels_same (h : rawValue i levels = rawValue i d.levels) (running : Bool) :
    d.setLevels i levels running = { d with levels := levels } := by
  rw [Debounce.setLevels]
  exact if_neg (by rw [Bool.and_eq_true, decide_eq_true_eq]; exact fun k => k.2 h)

theorem setLevels_changed (h : rawValue i levels ≠ rawValue i d.levels) :
    d.setLevels i levels true = Debounce.rawChange (rawValue i levels) { d with levels := levels } := by
  rw [Debounce.setLevels]
  exact if_pos (by rw [Bool.true_and, decide_eq_true_eq]; exact h)

theorem setLevels_levels (running : Bool) : (d.setLevels i levels running).levels = levels
    ∧ (d.setLevels i levels running).accepted = d.accepted := by
  unfold Debounce.setLevels Debounce.rawChange
  dsimp only
  split
  · split <;> exact ⟨rfl, rfl⟩
  · exact ⟨rfl, rfl⟩

end Levels

theorem exec_rawInputChange {s : State} (hr : s.running = true) (i : Input) (levels : BitVec 4) :
    exec (.rawInputChange i levels) s = .next { s with
      monitor := s.monitor.setInput i ((s.monitor.input i).setLevels i levels true) } := by
  rw [exec, execRawInputChange, hr]

theorem window_expires {i : Input} {s : State} {v : Nat} (hr : s.running = true)
    (hc : (s.monitor.input i).candidate = some v) (hw : (s.monitor.input i).window.running = true) :
    exec (.debounceWindowExpiry i) s = .next (inputChanged i (s.monitor.input i).accepted v
      { s with monitor := s.monitor.setInput i ((s.monitor.input i).accept v) }) := by
  rw [exec, execDebounceWindowExpiry, hc]
  exact if_pos (by rw [hr, hw]; rfl)

theorem window_stands {i : Input} {s : State} (hw : (s.monitor.input i).window.running = false) :
    exec (.debounceWindowExpiry i) s = .next s := by
  rw [exec, execDebounceWindowExpiry]
  split
  · exact if_neg (by rw [hw, Bool.and_false]; exact Bool.false_ne_true)
  · rfl

theorem rawValue_cases (l : BitVec 4) (n : ArmId) :
    rawValue (.coupler n) l = 15 - l.toNat
      ∧ rawValue .overfill l = (l.extractLsb' 0 2).toNat
      ∧ (rawValue .ground l = 1 ↔ l.getLsbD 0 = true)
      ∧ (rawValue .vapour l = 1 ↔ l.getLsbD 0 = true)
      ∧ (rawValue .estop l = 1 ↔ l.getLsbD 0 = false)
      ∧ (rawValue (.stow n) l = 1 ↔ l.getLsbD 0 = false) := by
  revert l
  simp only [rawValue]
  decide

/-- Settles O41: the record of the input by the raw values, and the window by whether it runs. -/
theorem inputsAreDebounced : Obligations.InputsAreDebounced := by
  unfold Obligations.InputsAreDebounced
  refine ⟨fun i levels s hr => ⟨_, exec_rawInputChange hr i levels, (setLevels_levels true).1,
      (setLevels_levels true).2, fun h => ?same, fun h ha => ?back, fun h ha => ?away⟩,
    fun i s v => window_expires, fun i s => window_stands,
    fun m i k e hk => ⟨setInput_input_of_ne m e hk, setInput_input_same m i e⟩, rawValue_cases⟩
  case same => rw [setLevels_same h]; exact ⟨rfl, rfl⟩
  case back =>
    rw [setLevels_changed h, Debounce.rawChange, if_pos (show rawValue i levels = _ from ha)]
    exact ⟨rfl, rfl⟩
  case away =>
    rw [setLevels_changed h, Debounce.rawChange, if_neg (show ¬ rawValue i levels = _ from ha)]
    exact ⟨rfl, rfl⟩

/-! ### An arm meets a loss of the bay permissive -/

/-- The arm's PERMISSIVE_HOLD flag is set (R113). -/
def Arm.permissiveLost (a : Arm) : Arm := { a with control.permissiveHold := true }

section Loss
variable {n : ArmId} {s t : State}

theorem Arm.beyond_of_flowing {a : Arm} (h : a.flowing = true) : a.beyondArmed = true :=
  ArmState.beyond_of_checks (ArmState.checks_of_flowing h)

theorem losePermissive_flows (h : (s.arm n).flowing = true) :
    losePermissive n s = post .batchHeld (n.val + 1) 1 (s.arm n).figures.gross
      (s.updArm n fun a => a.permissiveLost.holdFor .permissive) := by
  have flows : ((s.updArm n Arm.permissiveLost).arm n).flowing = true := by
    rw [arm_updArm_same]; exact h
  rw [losePermissive, if_pos (Arm.beyond_of_flowing h)]
  refine (enterHeld_of_flowing flows .permissive).trans ?_
  rw [arm_updArm_same, State.updArm_updArm]; rfl

theorem losePermissive_still (hb : (s.arm n).beyondArmed = true) (h : (s.arm n).flowing = false) :
    losePermissive n s = s.updArm n Arm.permissiveLost := by
  rw [losePermissive, if_pos hb]
  refine if_neg ?_
  rw [arm_updArm_same]; exact fun k => Bool.false_ne_true (h.symm.trans k)

theorem losePermissive_before (hb : (s.arm n).beyondArmed = false) : losePermissive n s = s :=
  if_neg (by rw [hb]; exact Bool.false_ne_true)

/-- The loss posts BATCH HELD of a flowing arm and nothing else. -/
theorem losePermissive_port (n : ArmId) (s : State) : (losePermissive n s).port
    = if (s.arm n).flowing = true then
        (post .batchHeld (n.val + 1) 1 (s.arm n).figures.gross s).port else s.port := by
  by_cases h : (s.arm n).flowing = true
  · rw [if_pos h, losePermissive_flows h]; exact post_port _ _ _ _ rfl
  · rw [if_neg h]
    rw [Bool.not_eq_true] at h
    by_cases hb : (s.arm n).beyondArmed = true
    · rw [losePermissive_still hb h]; rfl
    · rw [losePermissive_before (Bool.not_eq_true _ ▸ hb)]

/-- The arm in which the fold over the arms leaves the loss. -/
theorem forArms_arm {f : ArmId → State → State} (hf : ∀ k s m, m ≠ k → (f k s).arm m = s.arm m)
    (n : ArmId) (s : State) :
    ∃ t, t.arm n = s.arm n ∧ (forArms f s).arm n = (f n t).arm n :=
  forArms_view (fun u => u.arm n) f n (fun k s hk => hf k s n hk.symm) s

/-- Posts of one record for each of some arms. -/
def postEach (kind : EventKind) (code : Nat) (value : ArmId → Nat) (l : List ArmId) (s : State) : State :=
  l.foldl (fun t n => post kind (n.val + 1) code (value n) t) s

theorem postEach_port {kind : EventKind} {code : Nat} {value : ArmId → Nat} (l : List ArmId)
    (h : t.port = s.port) :
    (postEach kind code value l t).port = (postEach kind code value l s).port := by
  induction l generalizing s t with
  | nil => exact h
  | cons n l ih => exact ih (post_port _ _ _ _ h)

/-- Turns of arms that each leave the other arms, and post one record where the arm's own record asks for
it, post these records in the order of the arms (notes/assumptions/17.md). -/
theorem foldl_posts {f : ArmId → State → State} {kind : EventKind} {code : Nat} {value : ArmId → Nat}
    {p : ArmId → Bool} (hf : ∀ k u m, m ≠ k → (f k u).arm m = u.arm m)
    (hp : ∀ k u, u.arm k = s.arm k → (f k u).port
      = if p k = true then (post kind (k.val + 1) code (value k) u).port else u.port)
    {l : List ArmId} (hl : l.Nodup) (h : ∀ n ∈ l, t.arm n = s.arm n) :
    (l.foldl (fun u n => f n u) t).port = (postEach kind code value (l.filter p) t).port := by
  induction l generalizing t with
  | nil => rfl
  | cons n l ih =>
    obtain ⟨hn, hl⟩ := List.nodup_cons.mp hl
    have rest : ∀ m ∈ l, (f n t).arm m = s.arm m := fun m hm => by
      rw [hf n t m fun k => hn (k ▸ hm)]; exact h m (List.mem_cons_of_mem n hm)
    have port := hp n t (h n List.mem_cons_self)
    rw [List.foldl_cons, ih hl rest]
    by_cases hpn : p n = true
    · rw [if_pos hpn] at port
      rw [List.filter_cons_of_pos hpn]
      exact postEach_port _ port
    · rw [if_neg hpn] at port
      rw [List.filter_cons_of_neg hpn]
      exact postEach_port _ port

/-- The losses of some arms post BATCH HELD of those that flow, in their order (R113, R115). -/
theorem losePermissive_foldl_port {l : List ArmId} (hl : l.Nodup) (h : ∀ n ∈ l, t.arm n = s.arm n) :
    (l.foldl (fun u n => losePermissive n u) t).port
      = (postEach .batchHeld 1 (fun n => (s.arm n).figures.gross)
          (l.filter fun n => (s.arm n).flowing) t).port :=
  foldl_posts (fun k u => (losePermissive_rest k u).2)
    (fun k u hk => by rw [losePermissive_port, hk]) hl h

end Loss

/-! ### The bay permissive recomputed -/

section Recomputed
variable {s : State}

theorem recomputePermissive_same
    (h : bayPermissiveOf s.monitor s.bay.vapourRequired = s.monitor.permissiveOk) :
    recomputePermissive s = s := by
  have same : recomputed s = s := if_pos h
  rw [recomputePermissive, same]; exact if_pos rfl

theorem recomputed_changed {ok : Bool} (h : bayPermissiveOf s.monitor s.bay.vapourRequired = ok)
    (hne : ok ≠ s.monitor.permissiveOk) : recomputed s
      = post .permissiveChange 0 ok.toNat s.monitor.permissiveOk.toNat
          { s with monitor.permissiveOk := ok } := by
  rw [recomputed, h]; exact if_neg hne

theorem recomputePermissive_changed {ok : Bool}
    (h : bayPermissiveOf s.monitor s.bay.vapourRequired = ok) (hne : ok ≠ s.monitor.permissiveOk) :
    recomputePermissive s = if ok then offerAll (recomputed s)
      else forArms losePermissive (recomputed s) := by
  have value : (recomputed s).monitor.permissiveOk = ok := by
    rw [recomputed_rest]; exact h
  rw [recomputePermissive, value]; exact if_neg hne

/-- The state in which the arms meet the loss (R128). -/
theorem recomputed_lost (hok : s.monitor.permissiveOk = true)
    (h : bayPermissiveOf s.monitor s.bay.vapourRequired = false) :
    recomputed s = post .permissiveChange 0 0 1 { s with monitor.permissiveOk := false } := by
  rw [recomputed_changed h (by rw [hok]; exact Bool.false_ne_true), hok]; rfl

theorem recomputePermissive_lost (hok : s.monitor.permissiveOk = true)
    (h : bayPermissiveOf s.monitor s.bay.vapourRequired = false) :
    recomputePermissive s = forArms losePermissive
      (post .permissiveChange 0 0 1 { s with monitor.permissiveOk := false }) := by
  rw [recomputePermissive_changed h (by rw [hok]; exact Bool.false_ne_true), recomputed_lost hok h]
  rfl

theorem recomputePermissive_lost_rest (hok : s.monitor.permissiveOk = true)
    (h : bayPermissiveOf s.monitor s.bay.vapourRequired = false) :
    recomputePermissive s = { s with
      arms := (recomputePermissive s).arms, monitor.permissiveOk := false
      port.events := (recomputePermissive s).port.events
      port.overflow := (recomputePermissive s).port.overflow } := by
  have rest := recomputePermissive_rest s
  have injectors : (recomputePermissive s).injectors = s.injectors := by
    rw [recomputePermissive_lost hok h]
    refine (forArms_keeps (·.injectors) losePermissive (fun k u => ?_) _).trans (post_injectors ..)
    rw [(losePermissive_rest k u).1]
  rw [h, injectors] at rest
  exact rest

theorem recomputePermissive_gained (hok : s.monitor.permissiveOk = false)
    (h : bayPermissiveOf s.monitor s.bay.vapourRequired = true) :
    recomputePermissive s = offerAll
      (post .permissiveChange 0 1 0 { s with monitor.permissiveOk := true }) := by
  have ne : true ≠ s.monitor.permissiveOk := by rw [hok]; exact Bool.false_ne_true.symm
  rw [recomputePermissive_changed h ne, recomputed_changed h ne, hok]
  rfl

end Recomputed

/-! ### SET BAY and CLEAR RACK STOP by their cases -/

section Requests
variable {s : State}

theorem setBay_taken {ceiling vapour : Nat}
    (hc : ceiling = 0 ∨ (200 ≤ ceiling ∧ ceiling ≤ 20000)) (hv : vapour ≤ 1) :
    setBay ceiling vapour s = (recomputePermissive { s with
      bay := { ceiling := ceiling, vapourRequired := decide (vapour = 1) } }, .ok) := by
  rw [setBay, flagOf_of_le hv]; exact if_pos hc

theorem setBay_badValue {ceiling vapour : Nat}
    (h : ¬ (ceiling = 0 ∨ (200 ≤ ceiling ∧ ceiling ≤ 20000)) ∨ 1 < vapour) :
    setBay ceiling vapour s = (s, .refused .badValue) := by
  by_cases hv : vapour ≤ 1
  · rw [setBay, flagOf_of_le hv]; exact if_neg (h.resolve_right (Nat.not_lt.mpr hv))
  · rw [setBay, flagOf_of_gt (Nat.not_le.mp hv)]

theorem clearRackStop_cleared (hs : s.monitor.rackStop = true) (he : s.monitor.estop.accepted = 0) :
    clearRackStop s = (recomputePermissive
      (post .rackStopCleared 0 0 0 { s with monitor.rackStop := false }), .ok) := by
  have released : s.monitor.released = true := beq_iff_eq.mpr he
  rw [clearRackStop, hs, released]; rfl

theorem clearRackStop_wrongState (h : s.monitor.rackStop = false ∨ s.monitor.estop.accepted ≠ 0) :
    clearRackStop s = (s, .refused .wrongState) := by
  obtain h | h := h
  · rw [clearRackStop, h]; rfl
  · have pressed : s.monitor.released = false := beq_false_of_ne h
    rw [clearRackStop, pressed]
    cases s.monitor.rackStop <;> rfl

end Requests

/-- Settles O42: the recomputed permissive by its three cases, the arms by the one turn that each has in
the hand-over. -/
theorem permissiveLossHoldsTheArms : Obligations.PermissiveLossHoldsTheArms := by
  unfold Obligations.PermissiveLossHoldsTheArms
  refine ⟨fun s old v => ⟨rfl, rfl, rfl⟩, fun s => recomputePermissive_same, fun s hok h => ?lost,
    fun s hok h => ?gained, fun f s ceiling vapour h hr => ⟨fun hc hv =>
      fixed_done h hr (setBay_taken hc hv), fun hbad => fixed_done h hr (setBay_badValue hbad)⟩,
    fun f s h hb hs he => ?cleared⟩
  case lost =>
    have met : ∀ k, (post .permissiveChange 0 0 1 { s with monitor.permissiveOk := false }).arm k
        = s.arm k := fun k => post_arm ..
    dsimp only
    refine ⟨fun n => ?_, recomputePermissive_lost_rest hok h, ?_⟩ <;>
      rw [recomputePermissive_lost hok h]
    · obtain ⟨t, hn, arm⟩ := forArms_arm (fun k s m => (losePermissive_rest k s).2 m) n
        (post .permissiveChange 0 0 1 { s with monitor.permissiveOk := false })
      rw [met] at hn
      rw [arm, ← hn]
      refine ⟨fun hf => ?_, fun hs => ?_, fun hb => ?_⟩
      · rw [losePermissive_flows hf, post_arm, arm_updArm_same]; rfl
      · have states : (t.arm n).beyondArmed = true ∧ (t.arm n).flowing = false := by
          rw [Arm.beyondArmed, Arm.flowing]
          obtain hs | hs := hs <;> rw [hs] <;> exact ⟨rfl, rfl⟩
        rw [losePermissive_still states.1 states.2, arm_updArm_same]; rfl
      · rw [losePermissive_before hb]
    · exact (losePermissive_foldl_port (l := armIds) (by decide) fun n _ => met n).trans
        (postEach_port _ (post_port _ _ _ _ rfl))
  case gained =>
    dsimp only
    rw [recomputePermissive_gained hok h]
    have offered := offerAll_frame
      (post .permissiveChange 0 1 0 { s with monitor.permissiveOk := true })
    refine ⟨rfl, ?_, fun n => ?_⟩
    · rw [offered.rest, post_monitor]
    · rw [offered.arm n, post_arm]; rfl
  case cleared =>
    exact (bodyless_answered h hb).trans
      (by rw [clearRackStop_cleared (by rwa [frameTaken_monitor]) (by rwa [frameTaken_monitor])])

/-! ### Couplers and stow switches -/

section Coupler
variable {n : ArmId} {s : State}

/-- The arm's COUPLER_LOST flag is set (R114). -/
def Arm.uncoupled (a : Arm) : Arm := { a with control.couplerLost := true }

theorem loseCoupler_flows (h : (s.arm n).flowing = true) :
    loseCoupler n s = post .batchHeld (n.val + 1) 2 (s.arm n).figures.gross
      (s.updArm n fun a => a.uncoupled.holdFor .coupler) := by
  have flows : ((s.updArm n Arm.uncoupled).arm n).flowing = true := by
    rw [arm_updArm_same]; exact h
  rw [loseCoupler, h, Bool.true_or, if_pos rfl]
  refine (enterHeld_of_flowing flows .coupler).trans ?_
  rw [arm_updArm_same, State.updArm_updArm]; rfl

theorem loseCoupler_closing (h : (s.arm n).control.state = .closing) :
    loseCoupler n s = s.updArm n Arm.uncoupled := by
  rw [loseCoupler, if_pos (by rw [h]; exact Bool.or_true _)]
  refine if_neg ?_
  have still : (s.arm n).uncoupled.flowing = false := by
    rw [Arm.flowing]; exact congrArg ArmState.flowing h
  rw [arm_updArm_same]; exact fun k => Bool.false_ne_true (still.symm.trans k)

theorem loseCoupler_still (h : (s.arm n).flowing = false) (hs : (s.arm n).control.state ≠ .closing) :
    loseCoupler n s = s :=
  if_neg (by rw [h, Bool.false_or, decide_eq_true_eq]; exact hs)

theorem wantedCode_run (h : (s.arm n).inRun = true) : (s.arm n).wantedCode = 0 := if_pos h

theorem wantedCode_batch {b : Binding} (h : (s.arm n).inRun = false)
    (hb : (s.arm n).control.binding = some b) : (s.arm n).wantedCode = b.compartment := by
  rw [Arm.wantedCode, h, hb]; rfl

end Coupler

/-- Settles O43: the change by whether the arm stays where its batch wants it, the loss by the arm's
state. -/
theorem couplerLossHoldsTheArm : Obligations.CouplerLossHoldsTheArm := by
  unfold Obligations.CouplerLossHoldsTheArm
  refine fun n s old v => ⟨fun h => ?_, fun h => ?_, fun h => ?_, fun h => ?_, loseCoupler_flows,
    loseCoupler_closing, loseCoupler_still, wantedCode_run, fun b => wantedCode_batch⟩
  all_goals rw [inputChanged, post_monitor]
  · rw [post_arm]; exact if_pos h
  · rw [post_arm]; exact if_neg h
  · exact if_pos (deployed_iff.mpr h)
  · exact if_neg (by rw [deployed_false h]; exact Bool.false_ne_true)

end Sys2Proof.Machine
end

section
/-! SUPPORT AND PROOF. Injectors and recipes written, and the pulses of an injector (R139, R141, R147, R148,
R153, R154, R166). -/

namespace Sys2Proof.Machine

/-! ### The components and the recipe that fields give -/

/-- A component as its injector's number and its dose. -/
def RecipeComponent.fields (x : RecipeComponent) : Nat × Nat := (x.injector.val + 1, x.dose)

theorem injectorOf_eq_some {v : Nat} {i : InjId} (h : injectorOf v = some i) : i.val + 1 = v := by
  have known : 1 ≤ v ∧ v ≤ 6 := by
    by_contra hc
    rw [injectorOf_none (by omega)] at h
    cases h
  rw [injectorOf, dif_pos known] at h
  cases h
  dsimp only; omega

theorem injectorOf_of_le {v : Nat} (h1 : 1 ≤ v) (h6 : v ≤ 6) :
    ∃ i : InjId, injectorOf v = some i ∧ i.val + 1 = v :=
  ⟨⟨v - 1, by omega⟩, dif_pos ⟨h1, h6⟩, by dsimp only; omega⟩

theorem any_injector {cs : List RecipeComponent} {i : InjId} :
    cs.any (·.injector == i) = true ↔ i.val + 1 ∈ (cs.map RecipeComponent.fields).map (·.1) := by
  simp only [List.any_eq_true, beq_iff_eq, List.map_map, List.mem_map, Function.comp_apply,
    RecipeComponent.fields, Nat.add_right_cancel_iff, Fin.val_inj]

/-- The number and the dose of a component lie in their ranges (R141). -/
def ComponentRange (x : Nat × Nat) : Prop := 1 ≤ x.1 ∧ x.1 ≤ 6 ∧ 10 ≤ x.2 ∧ x.2 ≤ 5000

theorem componentsOf_fields {l : List (Nat × Nat)} {cs : List RecipeComponent}
    (h : componentsOf l = some cs) : cs.map RecipeComponent.fields = l
      ∧ (∀ x ∈ l, ComponentRange x) ∧ (l.map (·.1)).Nodup := by
  induction l generalizing cs with
  | nil => cases h; exact ⟨rfl, nofun, List.nodup_nil⟩
  | cons x l ih =>
    obtain ⟨v, dose⟩ := x
    unfold componentsOf at h
    split at h
    case h_2 => cases h
    case h_1 i ds hi hds =>
      split at h
      · cases h
      · next hrange =>
        cases h
        obtain ⟨hl, ranges, nodup⟩ := ih hds
        simp only [not_or, Nat.not_lt] at hrange
        obtain ⟨hlow, hhigh, hnew⟩ := hrange
        have number := injectorOf_eq_some hi
        have new : v ∉ l.map (·.1) := by rw [← number, ← hl, ← any_injector]; exact hnew
        have range : ComponentRange (v, dose) := ⟨by dsimp only; omega, by dsimp only; omega, hlow, hhigh⟩
        refine ⟨by rw [List.map_cons, hl, RecipeComponent.fields, number],
          List.forall_mem_cons.mpr ⟨range, ranges⟩, List.nodup_cons.mpr ⟨new, nodup⟩⟩

theorem componentsOf_of_ranges {l : List (Nat × Nat)} (h : ∀ x ∈ l, ComponentRange x)
    (hn : (l.map (·.1)).Nodup) : ∃ cs, componentsOf l = some cs := by
  induction l with
  | nil => exact ⟨[], rfl⟩
  | cons x l ih =>
    obtain ⟨v, dose⟩ := x
    obtain ⟨⟨h1, h6, hlow, hhigh⟩, ranges⟩ := List.forall_mem_cons.mp h
    obtain ⟨new, nodup⟩ := List.nodup_cons.mp hn
    obtain ⟨cs, hcs⟩ := ih ranges nodup
    obtain ⟨i, hi, number⟩ := injectorOf_of_le h1 h6
    have fresh : ¬ (cs.any (·.injector == i)) = true := by
      rw [any_injector, (componentsOf_fields hcs).1, number]; exact new
    refine ⟨{ injector := i, dose := dose } :: cs, ?_⟩
    unfold componentsOf
    rw [hi, hcs]
    exact if_neg (by simp only [not_or, Nat.not_lt]; exact ⟨hlow, hhigh, fresh⟩)

section Recipe
variable {code product : Nat} {l : List (Nat × Nat)}

theorem recipeOf_some {r : Recipe} (h : recipeOf code product l = some r) :
    (code ≠ 0 ∧ 1 ≤ product ∧ product ≤ 8 ∧ (∀ x ∈ l, ComponentRange x) ∧ (l.map (·.1)).Nodup)
      ∧ r.code = code ∧ r.product.val + 1 = product ∧ r.components.map RecipeComponent.fields = l := by
  unfold recipeOf at h
  split at h
  case h_2 => cases h
  case h_1 p cs hp hcs =>
    split at h
    · cases h
    · next hcode =>
      cases h
      obtain ⟨fields, ranges, nodup⟩ := componentsOf_fields hcs
      have known : 1 ≤ product ∧ product ≤ 8 := by
        by_contra hc
        rw [productIndexOf_none (by omega)] at hp
        cases hp
      obtain ⟨i, hi, number⟩ := productIndexOf_of_le known.1 known.2
      rw [hp] at hi
      cases hi
      exact ⟨⟨hcode, known.1, known.2, ranges, nodup⟩, rfl, number, fields⟩

theorem recipeOf_isSome : (recipeOf code product l).isSome = true ↔
    code ≠ 0 ∧ 1 ≤ product ∧ product ≤ 8 ∧ (∀ x ∈ l, ComponentRange x) ∧ (l.map (·.1)).Nodup := by
  refine ⟨fun h => ?_, fun ⟨hcode, h1, h8, ranges, nodup⟩ => ?_⟩
  · obtain ⟨r, hr⟩ := Option.isSome_iff_exists.mp h
    exact (recipeOf_some hr).1
  · obtain ⟨i, hi, -⟩ := productIndexOf_of_le h1 h8
    obtain ⟨cs, hcs⟩ := componentsOf_of_ranges ranges nodup
    unfold recipeOf
    rw [hi, hcs]; dsimp only
    rw [if_neg hcode]; rfl

end Recipe

/-! ### PUT INJECTOR, CLEAR INJECTOR FAULT and PUT RECIPE by their cases -/

section PutInjector
variable {s : State} (i : InjId) {c : InjectorConfig} {o : Option InjectorConfig}

theorem putInjector_badFields (ho : o = none) (s : State) :
    putInjector (i.val + 1) o s = (s, .refused .badValue) := by
  unfold putInjector; rw [injectorOf_val, ho]

theorem putInjector_inUse (ho : o = some c) (h : s.injectorInUse i = true) :
    putInjector (i.val + 1) o s = (s, .refused .inUse) := by
  unfold putInjector; rw [injectorOf_val, ho]; exact if_pos h

theorem cyclesTooShort_iff {shotMl : Nat} : s.cyclesTooShort i shotMl = true ↔
    ∃ r ∈ s.recipes, ∃ x ∈ r.components, x.injector = i ∧ shotMl * 1000000 / x.dose < 5000 := by
  simp only [State.cyclesTooShort, List.any_eq_true, Bool.and_eq_true, beq_iff_eq, decide_eq_true_eq]
  exact Iff.rfl

variable (ho : o = some c) (h : s.injectorInUse i = false)
include ho h

theorem putInjector_short (hc : s.cyclesTooShort i c.shotMl = true) :
    putInjector (i.val + 1) o s = (s, .refused .badValue) := by
  unfold putInjector; rw [injectorOf_val, ho]; dsimp only
  rw [h, hc]; rfl

theorem putInjector_written (hc : s.cyclesTooShort i c.shotMl = false) :
    putInjector (i.val + 1) o s = (s.setInjector i ((s.injector i).configure c), .ok) := by
  unfold putInjector; rw [injectorOf_val, ho]; dsimp only
  rw [h, hc]; rfl

end PutInjector

section ClearFault
variable {s : State} (i : InjId)

theorem clearInjectorFault_wrongState
    (h : (s.injector i).config = none ∨ (s.injector i).state ≠ .faulted) :
    clearInjectorFault (i.val + 1) s = (s, .refused .wrongState) := by
  rw [clearInjectorFault, injectorOf_val]; dsimp only
  split
  · next hc hs =>
    obtain h | h := h
    · rw [h] at hc; cases hc
    · exact absurd hs h
  · rfl

theorem clearInjectorFault_cleared (hc : (s.injector i).config.isSome = true)
    (hs : (s.injector i).state = .faulted) : clearInjectorFault (i.val + 1) s
      = (offer i (s.setInjector i { s.injector i with state := .idle, badCount := 0, creep := 0 }),
        .ok) := by
  obtain ⟨c, hc⟩ := Option.isSome_iff_exists.mp hc
  rw [clearInjectorFault, injectorOf_val]; dsimp only
  rw [hc, hs]

end ClearFault

section PutRecipe
variable {s : State} {r : Recipe} {o : Option Recipe}

theorem recipeFound_iff : s.recipeFound r = true ↔ (s.products.get r.product).isSome = true
    ∧ ∀ x ∈ r.components, (s.injector x.injector).config.isSome = true := by
  rw [State.recipeFound, Bool.and_eq_true, List.all_eq_true]

theorem cyclesLongEnough_iff : s.cyclesLongEnough r = true ↔
    ∀ x ∈ r.components, ∀ c, (s.injector x.injector).config = some c →
      5000 ≤ c.shotMl * 1000000 / x.dose := by
  simp only [State.cyclesLongEnough, List.all_eq_true, Option.all_eq_true, decide_eq_true_eq]
  exact Iff.rfl

theorem putRecipe_badFields (ho : o = none) (s : State) : putRecipe o s = (s, .refused .badValue) := by
  rw [ho]; rfl

theorem putRecipe_notFound (ho : o = some r) (h : s.recipeFound r = false) :
    putRecipe o s = (s, .refused .notFound) := by
  rw [ho, putRecipe, h]; rfl

section Found
variable (ho : o = some r) (hf : s.recipeFound r = true)
include ho hf

theorem putRecipe_short (h : s.cyclesLongEnough r = false) :
    putRecipe o s = (s, .refused .badValue) := by
  rw [ho, putRecipe, hf, h]; rfl

variable (hl : s.cyclesLongEnough r = true)
include hl

theorem putRecipe_inUse (hs : (s.recipe r.code).isSome = true) (hu : s.recipeInUse r.code = true) :
    putRecipe o s = (s, .refused .inUse) := by
  rw [ho, putRecipe, hf, hl, hs, hu]; rfl

theorem putRecipe_replaced (hs : (s.recipe r.code).isSome = true)
    (hu : s.recipeInUse r.code = false) : putRecipe o s
      = ({ s with recipes := s.recipes.map fun q => if q.code = r.code then r else q }, .ok) := by
  have found : (s.recipes.find? (·.code == r.code)).isSome = true := hs
  rw [ho, putRecipe, hf, hl, hs, hu, replaceBy_found found]
  simp only [beq_iff_eq]
  rfl

theorem putRecipe_new (hs : s.recipe r.code = none) (hroom : s.recipes.length < 16) :
    putRecipe o s = ({ s with recipes := s.recipes ++ [r] }, .ok) := by
  have room : decide (s.recipes.length < Config.recipeTableSize) = true := decide_eq_true hroom
  rw [ho, putRecipe, hf, hl, hs, room, replaceBy_absent hs]; rfl

theorem putRecipe_full (hs : s.recipe r.code = none) (hfull : 16 ≤ s.recipes.length) :
    putRecipe o s = (s, .refused .full) := by
  have full : decide (s.recipes.length < Config.recipeTableSize) = false :=
    decide_eq_false (Nat.not_lt.mpr hfull)
  rw [ho, putRecipe, hf, hl, hs, full]; rfl

end Found
end PutRecipe

section Frame
variable (s : State)

@[simp] theorem frameTaken_injectorInUse (i : InjId) :
    (frameTaken s).injectorInUse i = s.injectorInUse i := by
  simp only [State.injectorInUse, frameTaken_injector, frameTaken_plan, frameTaken_recipe]

@[simp] theorem frameTaken_cyclesTooShort (i : InjId) (v : Nat) :
    (frameTaken s).cyclesTooShort i v = s.cyclesTooShort i v := by
  simp only [State.cyclesTooShort, frameTaken_recipes]

@[simp] theorem frameTaken_recipeFound (r : Recipe) :
    (frameTaken s).recipeFound r = s.recipeFound r := by
  simp only [State.recipeFound, frameTaken_products, frameTaken_injector]

@[simp] theorem frameTaken_cyclesLongEnough (r : Recipe) :
    (frameTaken s).cyclesLongEnough r = s.cyclesLongEnough r := by
  simp only [State.cyclesLongEnough, frameTaken_injector]

end Frame

theorem injectorConfigOf_shot {code k shot limit tolerance fault cls first second scheme creep : Nat}
    {c : InjectorConfig}
    (h : injectorConfigOf code k shot limit tolerance fault cls first second scheme creep = some c) :
    c.shotMl = shot := by
  obtain ⟨a, b, -, -, hc⟩ :=
    injectorConfigOf_some (injectorConfigOf_isSome.mp (Option.isSome_of_eq_some h))
  rw [h] at hc
  cases hc
  rfl

/-- Settles O45: the three writers by the owner's checks in their order, and the recipe by its fields. -/
theorem injectorsAndRecipesAreWritten : Obligations.InjectorsAndRecipesAreWritten := by
  unfold Obligations.InjectorsAndRecipesAreWritten
  refine ⟨fun f s i code k shot limit tolerance fault cls first second scheme creep h hr =>
      ⟨fun hc => fixed_done h hr (putInjector_badFields i hc _), fun c hc => ⟨fun hu => ?used,
        fun hu hshort => ?short, fun hu hlong => ?written⟩⟩,
    fun f s i h hr => ⟨fun hw => ?notFaulted, fun hc hs => ?cleared⟩,
    fun f s code product m rest h hlen hm h1 h3 hr =>
      ⟨fun hn => counted_done h hlen hm h1 h3 hr (putRecipe_badFields hn _),
        fun r hrec => ⟨fun hf => ?notFound, fun hf hl => ?shortCycle, fun hf hl =>
          ⟨fun hs hu => ?recipeUsed, fun hs hu => ?replaced, fun hs hroom => ?new,
            fun hs hfull => ?full⟩⟩⟩,
    fun code product l => ⟨recipeOf_isSome, fun r hr => (recipeOf_some hr).2⟩,
    fun s r => ⟨recipeFound_iff, cyclesLongEnough_iff⟩⟩
  case used => exact fixed_done h hr (putInjector_inUse i hc (by rwa [frameTaken_injectorInUse]))
  case short =>
    refine fixed_done h hr (putInjector_short i hc (by rwa [frameTaken_injectorInUse]) ?_)
    rw [frameTaken_cyclesTooShort, injectorConfigOf_shot hc]
    exact (cyclesTooShort_iff i).mpr hshort
  case written =>
    have long : s.cyclesTooShort i shot = false := by
      refine Bool.eq_false_iff.mpr fun hc => ?_
      obtain ⟨r, hr', x, hx, hi, hlt⟩ := (cyclesTooShort_iff i).mp hc
      exact Nat.not_lt.mpr (hlong r hr' x hx hi) hlt
    refine fixed_done h hr ((putInjector_written i hc (by rwa [frameTaken_injectorInUse])
      (by rwa [frameTaken_cyclesTooShort, injectorConfigOf_shot hc])).trans ?_)
    rw [frameTaken_injector, State.setInjector, frameTaken_injectors]; rfl
  case notFaulted =>
    exact fixed_done h hr (clearInjectorFault_wrongState i (by rwa [frameTaken_injector]))
  case cleared =>
    refine fixed_done h hr ((clearInjectorFault_cleared i (by rwa [frameTaken_injector])
      (by rwa [frameTaken_injector])).trans ?_)
    rw [frameTaken_injector, State.setInjector, frameTaken_injectors]
  case notFound =>
    exact counted_done h hlen hm h1 h3 hr (putRecipe_notFound hrec (by rwa [frameTaken_recipeFound]))
  all_goals
    rw [← frameTaken_recipeFound] at hf
    rw [← frameTaken_cyclesLongEnough] at hl
  case shortCycle => exact counted_done h hlen hm h1 h3 hr (putRecipe_short hrec hf hl)
  all_goals
    obtain ⟨-, hcode, -⟩ := recipeOf_some hrec
    subst hcode
    rw [← frameTaken_recipe] at hs
  case recipeUsed =>
    exact counted_done h hlen hm h1 h3 hr
      (putRecipe_inUse hrec hf hl hs (by rwa [frameTaken_recipeInUse]))
  case replaced =>
    refine counted_done h hlen hm h1 h3 hr
      ((putRecipe_replaced hrec hf hl hs (by rwa [frameTaken_recipeInUse])).trans ?_)
    rw [frameTaken_recipes]
  case new =>
    refine counted_done h hlen hm h1 h3 hr
      ((putRecipe_new hrec hf hl hs (by rwa [frameTaken_recipes])).trans ?_)
    rw [frameTaken_recipes]
  case full =>
    exact counted_done h hlen hm h1 h3 hr
      (putRecipe_full hrec hf hl hs (by rwa [frameTaken_recipes]))

/-! ### ADDITIVE PULSE by the state of the injector -/

theorem post_setInjector (k : EventKind) (a c v : Nat) (s : State) (i : InjId) (j : Injector) :
    post k a c v (s.setInjector i j) = (post k a c v s).setInjector i j := by
  by_cases h : s.port.events.length < 32
  · rw [post_room (s := s) h]; exact post_room (s := s.setInjector i j) h k a c v
  · rw [post_full (s := s) (Nat.not_lt.mp h)]
    exact post_full (s := s.setInjector i j) (Nat.not_lt.mp h) k a c v

theorem Shot.pulse_ends {r : Shot} (ho : r.phase = .opened) (ht : r.target ≤ r.pulses + 1) :
    r.pulse = { r with pulses := r.pulses + 1, phase := .tail, timer := .start 300 } :=
  if_pos ⟨ho, ht⟩

theorem Shot.pulse_counts {r : Shot} (h : r.phase = .tail ∨ r.pulses + 1 < r.target) :
    r.pulse = { r with pulses := r.pulses + 1 } := by
  refine if_neg fun ⟨ho, ht⟩ => ?_
  obtain h | h := h
  · exact ShotPhase.noConfusion (ho.symm.trans h)
  · exact Nat.not_lt.mpr ht h

theorem ProveShot.pulse_ends {r : ProveShot} (ho : r.phase = .opened) (ht : r.target ≤ r.pulses + 1) :
    r.pulse = { r with
      pulses := r.pulses + 1, phase := .tail, timer := .start 300, ended := some .target } :=
  if_pos ⟨ho, ht⟩

theorem ProveShot.pulse_counts {r : ProveShot} (h : r.phase = .tail ∨ r.pulses + 1 < r.target) :
    r.pulse = { r with pulses := r.pulses + 1 } := by
  refine if_neg fun ⟨ho, ht⟩ => ?_
  obtain h | h := h
  · exact ShotPhase.noConfusion (ho.symm.trans h)
  · exact Nat.not_lt.mpr ht h

section Pulse
variable {i : InjId} {s : State} {c : InjectorConfig}

theorem exec_additivePulse (hr : s.running = true) :
    exec (.additivePulse i) s = .next (takePulse i s) := congrArg Host.Outcome.next (if_pos hr)

theorem takePulse_uncounted (h : (s.injector i).config = none ∨ (s.injector i).state = .faulted) :
    takePulse i s = s := by
  unfold takePulse
  obtain h | h := h
  · rw [h]
  · rw [h]; cases (s.injector i).config <;> rfl

variable (hc : (s.injector i).config = some c)
include hc

theorem takePulse_shot {r : Shot} (hs : (s.injector i).state = .shot r) :
    takePulse i s = s.setInjector i { s.injector i with state := .shot r.pulse } := by
  unfold takePulse; rw [hc, hs]

theorem takePulse_proving {p : ProvingRecord} (hs : (s.injector i).state = .proving p) :
    takePulse i s = s.setInjector i { s.injector i with state := .proving p.pulse } := by
  unfold takePulse; rw [hc, hs]

theorem takePulse_idle (hs : (s.injector i).state = .idle) : takePulse i s = idlePulse i c s := by
  unfold takePulse; rw [hc, hs]

omit hc

theorem idlePulse_creeps (h0 : 0 < c.creepLimit) (h : (s.injector i).creep + 1 ≤ c.creepLimit) :
    idlePulse i c s
      = s.setInjector i { s.injector i with creep := (s.injector i).creep + 1 } := by
  rw [idlePulse, if_neg (Nat.ne_of_gt h0)]; exact if_neg (Nat.not_lt.mpr h)

theorem idlePulse_exceeds (h0 : 0 < c.creepLimit) (h : c.creepLimit < (s.injector i).creep + 1) :
    idlePulse i c s = creepFound i c ((s.injector i).creep + 1) s := by
  rw [idlePulse, if_neg (Nat.ne_of_gt h0)]; exact if_pos h

theorem creepFound_uncredited {v : Nat} (hv : measuredMl c v < 2 ^ 32)
    (hu : (s.arm (s.injector i).diverter).uses i = false) :
    creepFound i c v s = post .injectorCreep 0 (i.val + 1) (measuredMl c v)
      (s.setInjector i { s.injector i with creep := 0 }) := by
  rw [creepFound, hu, post_setInjector, fit_of_lt hv, if_neg Bool.false_ne_true,
    if_neg Bool.false_ne_true, post_injector, injectorNumber]

theorem creepFound_credited {v : Nat} (hv : measuredMl c v < 2 ^ 32)
    (hu : (s.arm (s.injector i).diverter).uses i = true)
    (hx : ∀ x ∈ (s.arm (s.injector i).diverter).components, x.injected + measuredMl c v < 2 ^ 32) :
    creepFound i c v s = post .injectorCreep ((s.injector i).diverter.val + 1) (i.val + 1)
      (measuredMl c v) ((s.updArm (s.injector i).diverter (Arm.updComponents i fun x =>
        { x with injected := x.injected + measuredMl c v })).setInjector i
          { s.injector i with creep := 0 }) := by
  have credit : s.updArm (s.injector i).diverter (Arm.updComponents i fun x =>
        { x with injected := fit 32 (x.injected + measuredMl c v) })
      = s.updArm (s.injector i).diverter (Arm.updComponents i fun x =>
        { x with injected := x.injected + measuredMl c v }) := by
    rw [State.updArm, State.updArm, Arm.updComponents, Arm.updComponents]
    rw [List.map_congr_left fun x hm => by rw [fit_of_lt (hx x hm)]]
  rw [creepFound, hu, if_pos rfl, if_pos rfl, credit, post_setInjector, fit_of_lt hv, post_injector,
    updArm_injector, armNumber, injectorNumber]

end Pulse

/-- Settles O46: the pulse by the state of the injector, with the phases of a shot and the creep limit. -/
theorem additivePulsesFollowTheState : Obligations.AdditivePulsesFollowTheState := by
  unfold Obligations.AdditivePulsesFollowTheState
  intro i s hr
  rw [exec_additivePulse hr]
  refine ⟨fun h => by rw [takePulse_uncounted h], fun c hc =>
    ⟨fun r hs ho ht => ?ends, fun r hs h => ?counts, fun p hs hn => ?proving,
      fun p r hs hsome ho ht => ?proveEnds, fun p r hs hsome h => ?proveCounts, fun hs h0 => ?unlimited,
      fun hs h0 h => ?creeps, fun hs h0 h hv => ⟨fun hu => ?uncredited, fun hu hx => ?credited⟩⟩⟩
  case ends => rw [takePulse_shot hc hs, Shot.pulse_ends ho ht]; rfl
  case counts => rw [takePulse_shot hc hs, Shot.pulse_counts h]; rfl
  case proving => rw [takePulse_proving hc hs, ProvingRecord.pulse, hn]; rfl
  case proveEnds =>
    rw [takePulse_proving hc hs, ProvingRecord.pulse, hsome, Option.map_some,
      ProveShot.pulse_ends ho ht]; rfl
  case proveCounts =>
    rw [takePulse_proving hc hs, ProvingRecord.pulse, hsome, Option.map_some,
      ProveShot.pulse_counts h]; rfl
  case unlimited => rw [takePulse_idle hc hs]; exact congrArg Host.Outcome.next (if_pos h0)
  case creeps => rw [takePulse_idle hc hs, idlePulse_creeps h0 h]; rfl
  case uncredited =>
    rw [takePulse_idle hc hs, idlePulse_exceeds h0 h, creepFound_uncredited hv hu]; rfl
  case credited =>
    rw [takePulse_idle hc hs, idlePulse_exceeds h0 h, creepFound_credited hv hu hx]; rfl

end Sys2Proof.Machine
end

section
/-! SUPPORT AND PROOF. Cycles, the arbiter and the closing of the additives; shots and their judgement
(R144 to R146, R148, R151, R152, R155 to R159). -/

namespace Sys2Proof.Machine

/-! ### The arbiter -/

section Arbiter
variable {s : State} {i : InjId} {c : InjectorConfig} {n b : ArmId}

theorem Arm.beyond_of_moving {a : Arm} (h : a.flowing = true ∨ a.control.state = .closing) :
    a.beyondArmed = true := by
  obtain h | h := h
  · exact Arm.beyond_of_flowing h
  · rw [Arm.beyondArmed, h]; rfl

theorem reaches_iff : c.reaches n = true ↔ c.firstArm = n ∨ c.secondArm = some n := by
  rw [InjectorConfig.reaches, Bool.or_eq_true, beq_iff_eq, beq_iff_eq]

theorem waits_iff : waits s i n = true ↔
    (∃ c, (s.injector i).config = some c ∧ (c.firstArm = n ∨ c.secondArm = some n))
      ∧ ((s.arm n).flowing = true ∨ (s.arm n).control.state = .closing)
      ∧ (s.arm n).inRun = false
      ∧ (∃ x ∈ (s.arm n).components, x.injector = i ∧ 1 ≤ x.owed)
      ∧ s.monitor.permissiveOk = true := by
  have plumbed : (match (s.injector i).config with | some c => c.reaches n | none => false) = true ↔
      ∃ c, (s.injector i).config = some c ∧ (c.firstArm = n ∨ c.secondArm = some n) := by
    cases (s.injector i).config with
    | none => exact iff_of_false Bool.false_ne_true fun ⟨c, hc, _⟩ => nomatch hc
    | some c =>
      rw [show (match some c with | some c => c.reaches n | none => false) = c.reaches n from rfl,
        reaches_iff]
      exact ⟨fun h => ⟨c, rfl, h⟩, fun ⟨d, hd, h⟩ => Option.some.inj hd ▸ h⟩
  have owing : (s.arm n).components.any (fun x => x.injector == i && 1 ≤ x.owed) = true ↔
      ∃ x ∈ (s.arm n).components, x.injector = i ∧ 1 ≤ x.owed := by
    simp only [List.any_eq_true, Bool.and_eq_true, beq_iff_eq, decide_eq_true_eq]
  have moving : ((s.arm n).flowing || (s.arm n).control.state == .closing) = true ↔
      (s.arm n).flowing = true ∨ (s.arm n).control.state = .closing := by
    rw [Bool.or_eq_true, beq_iff_eq]
  unfold waits
  dsimp only
  rw [Bool.and_eq_true, Bool.and_eq_true, Bool.and_eq_true, Bool.and_eq_true, owing, moving]
  refine ⟨fun ⟨⟨⟨⟨hp, hm⟩, hb⟩, ho⟩, hok⟩ => ?_, fun ⟨hp, hm, hr, ho, hok⟩ => ?_⟩
  · rw [Arm.inBatch_of_beyond (Arm.beyond_of_moving hm)] at hb
    exact ⟨plumbed.mp hp, hm, by simpa using hb, ho, hok⟩
  · refine ⟨⟨⟨⟨plumbed.mpr hp, hm⟩, ?_⟩, ho⟩, hok⟩
    rw [Arm.inBatch_of_beyond (Arm.beyond_of_moving hm), hr]; rfl

theorem chooseArm_none (h : ∀ n, waits s i n = false) : chooseArm s i c = none := by
  cases hb : c.secondArm <;> simp only [chooseArm, hb, h] <;> rfl

theorem chooseArm_exists (hc : (s.injector i).config = some c) (h : waits s i n = true) :
    ∃ m, chooseArm s i c = some m := by
  have reach := reaches_iff.mp ((waits_uses h).2 c hc)
  unfold chooseArm
  dsimp only
  cases hw : waits s i c.firstArm with
  | true => cases c.secondArm with
    | none => exact ⟨c.firstArm, rfl⟩
    | some b =>
      dsimp only
      rw [Bool.true_and]
      cases waits s i b
      · exact ⟨c.firstArm, rfl⟩
      · exact ⟨_, rfl⟩
  | false =>
    obtain hn | hn := reach
    · rw [hn, h] at hw; cases hw
    · rw [hn]; dsimp only; rw [h]; exact ⟨_, rfl⟩

theorem chooseArm_both (hb : c.secondArm = some b) (h1 : waits s i c.firstArm = true)
    (h2 : waits s i b = true) :
    chooseArm s i c = some (chooseBoth c b (s.injector i).lastServed) := by
  unfold chooseArm; rw [hb]; dsimp only; rw [h1, h2]; rfl

theorem lowerArm_eq :
    (if b < c.firstArm then b else c.firstArm) = min c.firstArm b := by
  split
  · next h => exact (min_eq_right h.le).symm
  · next h => exact (min_eq_left (not_lt.mp h)).symm

theorem chooseBoth_fixed (h : c.scheme = .fixed) (l : Option ArmId) :
    chooseBoth c b l = min c.firstArm b := by
  unfold chooseBoth; rw [h]; exact lowerArm_eq

theorem chooseBoth_unserved (h : c.scheme = .roundRobin) :
    chooseBoth c b none = min c.firstArm b := by
  unfold chooseBoth; rw [h]; exact lowerArm_eq

theorem chooseBoth_first (h : c.scheme = .roundRobin) : chooseBoth c b (some c.firstArm) = b := by
  unfold chooseBoth; rw [h]; exact if_pos rfl

theorem chooseBoth_second (hne : b ≠ c.firstArm) (h : c.scheme = .roundRobin) :
    chooseBoth c b (some b) = c.firstArm := by
  unfold chooseBoth; rw [h]; exact if_neg hne

theorem offer_idle (hc : (s.injector i).config = some c) (hs : (s.injector i).state = .idle)
    (h : chooseArm s i c = none) : offer i s = s := by
  unfold offer; rw [hc, hs]; dsimp only; rw [h]

theorem offer_starts (hc : (s.injector i).config = some c) (hs : (s.injector i).state = .idle)
    (h : chooseArm s i c = some n) : offer i s = startShot i c n s := by
  unfold offer; rw [hc, hs]; dsimp only; rw [h]

theorem offer_busy (h : (s.injector i).state ≠ .idle) : offer i s = s := by
  unfold offer
  split
  · next hs => exact absurd hs h
  · rfl

end Arbiter

/-! ### The trailing decision and what is pending -/

theorem Component.trail_ready {x : Component} (h : x.cycle ≤ x.accumulated * 2) (lost : Bool) :
    x.trail lost
      = { x with accumulated := 0, owed := if lost then x.owed else min 255 (x.owed + 1) } := if_pos h

theorem Component.trail_short {x : Component} (h : x.accumulated * 2 < x.cycle) (lost : Bool) :
    x.trail lost = x := if_neg (Nat.not_le.mpr h)

theorem additivesClosing_run {n : ArmId} {s : State} (h : (s.arm n).inRun = true) (o : BatchOutcome) :
    additivesClosing o n s = s := if_pos h

section Closing
variable {n : ArmId} {s : State} {o : BatchOutcome} (h : (s.arm n).inRun = false)
include h

theorem additivesClosing_discards (h1 : o ≠ .complete) (h2 : o ≠ .allocation) :
    additivesClosing o n s = s.updArm n fun a =>
      { a with components := a.components.map Component.discard, trailingTimer := .start 30000 } := by
  unfold additivesClosing
  rw [h, if_neg Bool.false_ne_true]
  split
  · exact absurd rfl h1
  · exact absurd rfl h2
  · rfl

theorem additivesClosing_trails (ho : o = .complete ∨ o = .allocation) :
    additivesClosing o n s = offerAll (s.updArm n fun a =>
      { a with
        components := a.components.map fun c => c.trail (s.earnsNone c.injector)
        trailingTimer := .start 30000 }) := by
  unfold additivesClosing
  rw [h, if_neg Bool.false_ne_true]
  obtain rfl | rfl := ho <;> rfl

theorem additivesPending_iff : additivesPending s n = true ↔
    (∃ i r, (s.injector i).state = .shot r ∧ r.arm = n) ∨ ∃ x ∈ (s.arm n).components, 0 < x.owed := by
  have serves : ∀ i, (match (s.injector i).state with | .shot r => r.arm == n | _ => false) = true ↔
      ∃ r, (s.injector i).state = .shot r ∧ r.arm = n := by
    intro i
    cases (s.injector i).state with
    | shot r => exact beq_iff_eq.trans ⟨fun h => ⟨r, rfl, h⟩, fun ⟨q, hq, h⟩ =>
        (InjectorState.shot.inj hq) ▸ h⟩
    | _ => exact iff_of_false Bool.false_ne_true fun ⟨r, hr, _⟩ => nomatch hr
  rw [additivesPending, h, Bool.not_false, Bool.true_and, Bool.or_eq_true, List.any_eq_true,
    List.any_eq_true]
  refine or_congr ⟨fun ⟨i, _, hi⟩ => ⟨i, (serves i).mp hi⟩, fun ⟨i, hi⟩ =>
    ⟨i, List.mem_finRange i, (serves i).mpr hi⟩⟩ ?_
  simp only [decide_eq_true_eq]

end Closing

theorem Component.entry_target (x : Component) (gross : Nat) :
    (x.entry gross).target * 1000000 ≤ gross * x.dose
      ∧ gross * x.dose < ((x.entry gross).target + 1) * 1000000 := by
  unfold Component.entry
  dsimp only
  omega

theorem Component.fellShort_iff (x : Component) (gross : Nat) : x.fellShort gross = true ↔
    x.injected * 100 < (x.entry gross).target * (100 - x.tolerance) ∨ x.status ≠ .ok := by
  rw [Component.fellShort, Bool.or_eq_true, decide_eq_true_eq, decide_eq_true_eq]; exact Iff.rfl

/-! ### A sample of a flowing batch and the shots it lends -/

/-- A component after the offers of a sample: as it was, or with one owed shot spent on a shot that the
injector, IDLE before, has started for the arm (R146). -/
def Component.Spent (n : ArmId) (s t : State) (y x : Component) : Prop :=
  x = { y with owed := x.owed }
    ∧ (x.owed = y.owed
      ∨ (x.owed + 1 = y.owed ∧ (s.injector y.injector).state = .idle
        ∧ ∃ r : Shot, (t.injector y.injector).state = .shot r ∧ r.arm = n
          ∧ r.phase = .opened ∧ r.pulses = 0))

/-- The injectors are as they were, but that one that was IDLE may serve a shot. -/
def WorkKept (s t : State) : Prop := ∀ i, (t.injector i).state = (s.injector i).state
  ∨ ((s.injector i).state = .idle ∧ ∃ r, (t.injector i).state = .shot r)

/-- The components of an arm after offers of work. -/
structure Lends (n : ArmId) (s t : State) : Prop where
  components : List.Forall₂ (Component.Spent n s t) (s.arm n).components (t.arm n).components
  kept : WorkKept s t

section Lends
variable {n : ArmId} {s t u : State} {x y z : Component}

theorem WorkKept.of_busy (h : WorkKept s t) {i : InjId} (hi : (s.injector i).state ≠ .idle) :
    (t.injector i).state = (s.injector i).state := by
  obtain h | ⟨idle, -⟩ := h i
  · exact h
  · exact absurd idle hi

theorem WorkKept.trans (h : WorkKept s t) (k : WorkKept t u) : WorkKept s u := by
  intro i
  obtain e | ⟨idle, r, hr⟩ := h i
  · obtain k | ⟨idle, r, hr⟩ := k i
    · exact .inl (k.trans e)
    · exact .inr ⟨e.symm.trans idle, r, hr⟩
  · have busy : (t.injector i).state ≠ .idle := by rw [hr]; exact InjectorState.noConfusion
    exact .inr ⟨idle, r, (k.of_busy busy).trans hr⟩

theorem WorkKept.earnsNone (h : WorkKept s t) (i : InjId) : t.earnsNone i = s.earnsNone i := by
  unfold State.earnsNone
  obtain e | ⟨idle, r, hr⟩ := h i
  · rw [e]
  · rw [idle, hr]; rfl

theorem Component.Spent.refl (n : ArmId) (s t : State) (x : Component) : x.Spent n s t x :=
  ⟨rfl, .inl rfl⟩

/-- A shot that has begun goes on, and a component spends at most one. -/
theorem Component.Spent.trans (h : y.Spent n s t x) (k : x.Spent n t u z) (ht : WorkKept s t)
    (hu : WorkKept t u) : y.Spent n s u z := by
  obtain ⟨hx, h⟩ := h
  obtain ⟨hz, k⟩ := k
  have injector : x.injector = y.injector := by rw [hx]
  refine ⟨by rw [hz, hx], ?_⟩
  rw [injector] at k
  obtain h | ⟨hlt, hidle, r, hr, arm⟩ := h
  · obtain k | ⟨klt, kidle, r, kr, arm⟩ := k
    · exact .inl (k.trans h)
    · refine .inr ⟨klt.trans h, ?_, r, kr, arm⟩
      by_contra busy
      exact busy ((ht.of_busy busy).symm.trans kidle)
  · have busy : (t.injector y.injector).state ≠ .idle := by rw [hr]; exact InjectorState.noConfusion
    obtain k | ⟨-, kidle, -⟩ := k
    · exact .inr ⟨by omega, hidle, r, (hu.of_busy busy).trans hr, arm⟩
    · exact absurd kidle busy

theorem spent_trans {l m k : List Component} (h : List.Forall₂ (Component.Spent n s t) l m)
    (h' : List.Forall₂ (Component.Spent n t u) m k) (ht : WorkKept s t) (hu : WorkKept t u) :
    List.Forall₂ (Component.Spent n s u) l k := by
  refine List.forall₂_iff_get.mpr ⟨h.length_eq.trans h'.length_eq, fun i hy hz => ?_⟩
  have hx : i < m.length := h.length_eq ▸ hy
  exact (h.get hy hx).trans (h'.get hx hz) ht hu

theorem Lends.refl (n : ArmId) (s : State) : Lends n s s :=
  ⟨List.forall₂_same.mpr fun x _ => .refl n s s x, fun _ => .inl rfl⟩

theorem Lends.trans (h : Lends n s t) (k : Lends n t u) : Lends n s u :=
  ⟨spent_trans h.components k.components h.kept k.kept, h.kept.trans k.kept⟩

/-- A state with the same components of the arm and the same injectors. -/
theorem Lends.of_eq (ha : (t.arm n).components = (s.arm n).components)
    (hi : t.injectors = s.injectors) : Lends n s t := by
  have states : ∀ i, t.injector i = s.injector i := fun i => by rw [State.injector, hi]; rfl
  exact ⟨by rw [ha]; exact List.forall₂_same.mpr fun x _ => .refl n s t x,
    fun i => .inl (by rw [states])⟩

theorem startShot_lends (i : InjId) (c : InjectorConfig) (m : ArmId)
    (hs : (s.injector i).state = .idle) : Lends n s (startShot i c m s) := by
  have shot : ((startShot i c m s).injector i).state = .shot
      { arm := m, phase := .opened, target := targetPulses c, pulses := 0,
        timer := .start c.shotTimeLimit } := by rw [startShot, injector_setInjector_same]
  refine ⟨?_, fun k => ?_⟩
  · rw [startShot, setInjector_arm, arm_updArm]
    split
    case isFalse => exact List.forall₂_same.mpr fun x _ => .refl ..
    case isTrue hm =>
      subst hm
      refine List.forall₂_map_right_iff.mpr (List.forall₂_same.mpr fun x _ => ?_)
      split
      case isFalse => exact .refl ..
      case isTrue hx =>
        subst hx
        refine ⟨rfl, ?_⟩
        obtain h0 | h0 := Nat.eq_zero_or_pos x.owed
        · exact .inl (by dsimp only; omega)
        · exact .inr ⟨by dsimp only; omega, hs, _, shot, rfl, rfl, rfl⟩
  · by_cases hk : k = i
    · subst hk; exact .inr ⟨hs, _, shot⟩
    · exact .inl (by rw [startShot, injector_setInjector_of_ne _ _ hk, updArm_injector])

theorem offer_lends (i : InjId) (s : State) : Lends n s (offer i s) := by
  by_cases hs : (s.injector i).state = .idle
  · cases hc : (s.injector i).config with
    | none => unfold offer; rw [hc]; exact .refl n s
    | some c =>
      cases hm : chooseArm s i c with
      | none => rw [offer_idle hc hs hm]; exact .refl n s
      | some m => rw [offer_starts hc hs hm]; exact startShot_lends i c m hs
  · rw [offer_busy hs]; exact .refl n s

theorem offerAll_lends (s : State) : Lends n s (offerAll s) :=
  forInjectors_invariant (fun t => Lends n s t) offer (fun i t h => h.trans (offer_lends i t)) (.refl n s)

theorem Arm.closeTest_outcome {a : Arm} {o : BatchOutcome} (h : a.closeTest = some o) :
    o = .complete ∨ o = .allocation := by
  unfold Arm.closeTest at h
  split at h
  · exact .inl (Option.some.inj h).symm
  · split at h
    · split at h
      · exact .inr (Option.some.inj h).symm
      · cases h
    · cases h

theorem Component.trail_injector (lost : Bool) (x : Component) : (x.trail lost).injector = x.injector := by
  unfold Component.trail; split <;> rfl

/-- The trailing decision adds the same to a component that has lent a shot, up to 255 (R156). -/
theorem Component.Spent.trail (h : y.Spent n s t x) (lost : Bool) :
    (y.trail lost).Spent n s t (x.trail lost) := by
  obtain ⟨hx, h⟩ := h
  have cycle : x.cycle = y.cycle := by rw [hx]
  have accumulated : x.accumulated = y.accumulated := by rw [hx]
  obtain ready | short := Nat.lt_or_ge (y.accumulated * 2) y.cycle |>.symm
  · rw [Component.trail_ready ready, Component.trail_ready (by rw [cycle, accumulated]; exact ready)]
    refine ⟨by rw [hx], ?_⟩
    cases lost with
    | true => exact h
    | false =>
      dsimp only [Bool.false_eq_true, if_false]
      obtain h | ⟨hlt, idle⟩ := h
      · exact .inl (by rw [h])
      · obtain full | room := Nat.lt_or_ge y.owed 255 |>.symm
        · exact .inl (by simp only [Bool.false_eq_true, if_false]; omega)
        · exact .inr ⟨by simp only [Bool.false_eq_true, if_false]; omega, idle⟩
  · rw [Component.trail_short short, Component.trail_short (by rw [cycle, accumulated]; exact short)]
    exact ⟨hx, h⟩

/-- The components of an arm as its sample leaves them before the offers: with the trailing decision where
the sample closes the arm. -/
def State.readied (s : State) (n : ArmId) (closes : Bool) : List Component :=
  if closes then (s.arm n).components.map fun x => x.trail (s.earnsNone x.injector)
  else (s.arm n).components

theorem Lends.readied (h : Lends n s t) (closes : Bool) :
    List.Forall₂ (Component.Spent n s t) (s.readied n closes) (t.readied n closes) := by
  cases closes with
  | false => exact h.components
  | true =>
    refine List.forall₂_map_left_iff.mpr (List.forall₂_map_right_iff.mpr (h.components.imp ?_))
    intro y x hyx
    have injector : x.injector = y.injector := by rw [hyx.1]
    rw [h.kept.earnsNone, injector]
    exact hyx.trail _

/-- The controller's share of the sample of a batch: the arm closes by the close test alone, with the
trailing decision. -/
theorem flowingShare_readied {c : ArmConfig} {r : SampleReport} (cause : Option HoldCause)
    (owed : List Nat) (hf : (s.arm n).flowing = true) (hrun : (s.arm n).inRun = false) :
    ∃ closes, (closes = true ↔ ((flowingShare n c r cause owed s).arm n).control.state = .closing)
      ∧ List.Forall₂ (Component.Spent n s (flowingShare n c r cause owed s)) (s.readied n closes)
          ((flowingShare n c r cause owed s).arm n).components
      ∧ WorkKept s (flowingShare n c r cause owed s) := by
  cases cause with
  | some k =>
    have held : flowingShare n c r (some k) owed s = enterHeld k n s := rfl
    rw [held, enterHeld_of_flowing hf]
    have same : Lends n s (post .batchHeld (n.val + 1) k.code (s.arm n).figures.gross
        (s.updArm n (Arm.holdFor k))) :=
      .of_eq (by rw [post_arm, arm_updArm_same]; rfl) (by rw [post_injectors, updArm_injectors])
    refine ⟨false, iff_of_false Bool.false_ne_true ?_, same.components, same.kept⟩
    rw [post_arm, arm_updArm_same]
    exact ArmState.noConfusion
  | none =>
    cases ho : (s.arm n).closeTest with
    | none =>
      rw [flowingShare_regulates ho]
      have same : Lends n s (s.updArm n
          (Arm.regulate c owed s.bay.ceiling (s.othersInFullFlow n) r.pulses)) :=
        .of_eq (by rw [arm_updArm_same]; rfl) rfl
      refine ⟨false, iff_of_false Bool.false_ne_true ?_, same.components, same.kept⟩
      rw [arm_updArm_same]
      intro h
      have flows := nextStage_flowing c (s.arm n)
      rw [show nextStage c (s.arm n) = .closing from h] at flows
      exact Bool.false_ne_true (flows.trans hf)
    | some o =>
      have closing : ((enterClosing o n s).arm n).control.state = .closing := by
        rw [enterClosing_control]; rfl
      have run : ((s.updArm n (Arm.closeFor o)).arm n).inRun = false := by
        rw [arm_updArm_same]; exact hrun
      rw [flowingShare_closes ho]
      refine ⟨true, iff_of_true rfl closing, ?_⟩
      rw [enterClosing, additivesClosing_trails run (Arm.closeTest_outcome ho)]
      obtain ⟨components, kept⟩ := offerAll_lends (n := n) ((s.updArm n (Arm.closeFor o)).updArm n
        fun a => { a with
          components := a.components.map fun c =>
            c.trail ((s.updArm n (Arm.closeFor o)).earnsNone c.injector)
          trailingTimer := .start 30000 })
      rw [arm_updArm_same, arm_updArm_same] at components
      exact ⟨components, kept⟩

/-- The controller's share and the offers after it, from a state that the offers before it have left. -/
theorem share_spends {c : ArmConfig} {r : SampleReport} (cause : Option HoldCause) (owed : List Nat)
    (h : Lends n s t) (hf : (t.arm n).flowing = true) (hrun : (t.arm n).inRun = false) :
    ∃ closes, (closes = true ↔
        ((offerAll (flowingShare n c r cause owed t)).arm n).control.state = .closing)
      ∧ List.Forall₂ (Component.Spent n s (offerAll (flowingShare n c r cause owed t)))
          (s.readied n closes) ((offerAll (flowingShare n c r cause owed t)).arm n).components := by
  obtain ⟨closes, hcloses, shared, kept⟩ := flowingShare_readied (c := c) (r := r) cause owed hf hrun
  obtain ⟨last, lastKept⟩ := offerAll_lends (n := n) (flowingShare n c r cause owed t)
  refine ⟨closes, ?_, spent_trans (spent_trans (h.readied closes) shared h.kept kept) last
    (h.kept.trans kept) lastKept⟩
  rw [hcloses, (offerAll_frame (flowingShare n c r cause owed t)).arm n]

theorem flowingBatchSample_eq (n : ArmId) (c : ArmConfig) (r : SampleReport) (cause : Option HoldCause)
    (t : State) : ∃ owed v,
      (v = countCycles r.delta n t.chosen ∨ v = offerAll (countCycles r.delta n t.chosen))
      ∧ flowingBatchSample n c r cause t = offerAll (flowingShare n c r cause owed v) := by
  by_cases order : t.choice 3 = 2
  · refine ⟨(if t.choice 3 = 0 then t.arm n else
      (offerAll (countCycles r.delta n t.chosen)).arm n).owedCounts, _, .inr rfl, ?_⟩
    simp only [flowingBatchSample, if_pos order]
  · refine ⟨(if t.choice 3 = 0 then t.arm n else
      (countCycles r.delta n t.chosen).arm n).owedCounts, _, .inl rfl, ?_⟩
    simp only [flowingBatchSample, if_neg order]

/-- The sample of a flowing batch: cycles are counted, the arm may close, and injectors take up shots. -/
theorem flowingBatchSample_spends {c : ArmConfig} {r : SampleReport} (cause : Option HoldCause)
    (hf : (t.arm n).flowing = true) (hrun : (t.arm n).inRun = false) :
    ∃ closes,
      (closes = true ↔ ((flowingBatchSample n c r cause t).arm n).control.state = .closing)
      ∧ List.Forall₂
          (Component.Spent n (countCycles r.delta n t.chosen) (flowingBatchSample n c r cause t))
          ((countCycles r.delta n t.chosen).readied n closes)
          ((flowingBatchSample n c r cause t).arm n).components := by
  have flows : ((countCycles r.delta n t.chosen).arm n).flowing = true := by
    rw [countCycles, arm_updArm_same]; exact hf
  have batch : ((countCycles r.delta n t.chosen).arm n).inRun = false := by
    rw [countCycles, arm_updArm_same]; exact hrun
  obtain ⟨owed, v, hv, he⟩ := flowingBatchSample_eq n c r cause t
  rw [he]
  obtain rfl | rfl := hv
  · exact share_spends cause owed (.refl n _) flows batch
  · have arm := (offerAll_frame (countCycles r.delta n t.chosen)).arm n
    refine share_spends cause owed (offerAll_lends _) ?_ ?_ <;> rw [arm]
    · exact flows
    · exact batch

end Lends

theorem controllerSample_batch {n : ArmId} {r : SampleReport} (hb : r.before.flowing = true)
    (hr : r.before.inRun = false) (c : ArmConfig) (s : State) :
    ∃ cause t, (t = s ∨ t = s.chosen) ∧ controllerSample n c r s = flowingBatchSample n c r cause t := by
  refine ⟨handedCause r (s.choice 2 = 0), if r.fault.isSome && r.overspeed then s.chosen else s, ?_,
    by simp only [controllerSample, hb, hr]; rfl⟩
  split
  · exact .inr rfl
  · exact .inl rfl

/-- A component after the cycle counting of a sample, and after the trailing decision where the arm
closes. -/
def Component.readied (delta : Nat) (lost closes : Bool) (x : Component) : Component :=
  if closes then (x.count delta lost).trail lost else x.count delta lost

theorem Component.readied_injector (delta : Nat) (lost closes : Bool) (x : Component) :
    (x.readied delta lost closes).injector = x.injector := by
  unfold Component.readied
  split
  · rw [Component.trail_injector]; rfl
  · rfl

theorem earnsNone_congr {s t : State} (h : t.injectors = s.injectors) (i : InjId) :
    t.earnsNone i = s.earnsNone i := by
  rw [State.earnsNone, State.injector, h]; rfl

theorem Component.Spent.of_injectors {n : ArmId} {s t u : State} {y x : Component}
    (h : y.Spent n t u x) (ht : t.injectors = s.injectors) : y.Spent n s u x := by
  have states : ∀ i, t.injector i = s.injector i := fun i => by rw [State.injector, ht]; rfl
  unfold Component.Spent at h ⊢
  rw [← states]; exact h

theorem countCycles_readied {n : ArmId} {s t : State} {delta : Nat}
    (hi : t.injectors = s.injectors) (ha : (t.arm n).components = (s.arm n).components)
    (closes : Bool) : (countCycles delta n t).readied n closes
      = (s.arm n).components.map fun y => y.readied delta (s.earnsNone y.injector) closes := by
  have counted : ((countCycles delta n t).arm n).components
      = (s.arm n).components.map fun y => y.count delta (s.earnsNone y.injector) := by
    rw [countCycles, arm_updArm_same, ← ha]
    exact List.map_congr_left fun y _ => by rw [earnsNone_congr hi]
  rw [State.readied, counted]
  cases closes with
  | false => rfl
  | true =>
    rw [if_pos rfl, List.map_map]
    refine List.map_congr_left fun y _ => ?_
    have earns : (countCycles delta n t).earnsNone y.injector = s.earnsNone y.injector :=
      earnsNone_congr hi _
    rw [Component.readied, if_pos rfl, Function.comp_apply]
    exact congrArg (Component.trail · _) earns

/-- The components of a flowing batch after its sample (R144 to R146, R156). -/
theorem sampleArm_components {n : ArmId} {s : State} {c : ArmConfig} {p : Product} {probe : Option Int}
    (hc : (s.arm n).config = some c) (hp : s.products.get c.product = some p)
    (hf : (s.arm n).flowing = true) (hrun : (s.arm n).inRun = false) :
    ∃ closes, (closes = true ↔ ((sampleArm n probe s).arm n).control.state = .closing)
      ∧ List.Forall₂ (fun y x => Component.Spent n s (sampleArm n probe s)
            (y.readied ((s.arm n).engine c p probe).2.delta (s.earnsNone y.injector) closes) x)
          (s.arm n).components ((sampleArm n probe s).arm n).components := by
  obtain ⟨rest, -, arm, -⟩ := engineSample_rest n c p probe s
  rw [sampleArm_configured hc hp]
  obtain ⟨cause, t, ht, he⟩ := controllerSample_batch (n := n)
    (r := ((s.arm n).engine c p probe).2) hf hrun c (engineSample n c p probe s).1
  have tarm : t.arm n = ((s.arm n).engine c p probe).1 := by
    obtain rfl | rfl := ht <;> exact arm
  have tinjectors : t.injectors = s.injectors := by
    have kept : (engineSample n c p probe s).1.injectors = s.injectors := by rw [rest]
    obtain rfl | rfl := ht <;> exact kept
  obtain ⟨closes, hcloses, spent⟩ := flowingBatchSample_spends (c := c)
    (r := ((s.arm n).engine c p probe).2) cause (by rw [tarm]; exact hf) (by rw [tarm]; exact hrun)
  rw [he]
  have ready := countCycles_readied (s := s) (t := t.chosen) (delta := ((s.arm n).engine c p probe).2.delta)
    (n := n) tinjectors (by rw [show t.chosen.arm n = t.arm n from rfl, tarm]; rfl) closes
  rw [ready] at spent
  refine ⟨closes, hcloses, (List.forall₂_map_left_iff.mp spent).imp fun y x hyx => ?_⟩
  exact hyx.of_injectors tinjectors

/-- Settles O48: the cycles and the arbiter by their definitions, and what a sample's offers lend. -/
theorem arbiterServesWaitingArms : Obligations.ArbiterServesWaitingArms := by
  unfold Obligations.ArbiterServesWaitingArms
  refine ⟨⟨fun x delta hcycle _ => ⟨Nat.mod_lt _ hcycle, rfl, rfl, Nat.mod_add_div' _ _, rfl⟩,
      fun i s c hc hs => ⟨fun h => offer_idle hc hs (chooseArm_none h),
        fun n hn => ⟨chooseArm_waits hn, (offer_starts hc hs hn).trans rfl⟩,
        fun ⟨n, hn⟩ => chooseArm_exists hc hn,
        fun b hb hne h1 h2 => ?both⟩,
      fun i s hs => offer_busy hs, fun i s n h => ?waits, fun i s n => waits_iff⟩,
    ⟨fun x hx => ⟨fun ready => ?ready, fun short => ⟨Component.trail_short short _,
        Component.trail_short short _⟩⟩,
      fun o n s h h1 h2 => additivesClosing_discards h h1 h2,
      fun o n s h => additivesClosing_run h o, fun n s h => additivesPending_iff h,
      fun x gross => ⟨(x.entry_target gross).1, (x.entry_target gross).2, x.fellShort_iff gross⟩⟩,
    fun n probe s c p hr hc hp hf hrun => ?sample⟩
  case both =>
    rw [chooseArm_both hb h1 h2]
    refine ⟨fun hk => by rw [chooseBoth_fixed hk], fun hk hl => ?_, fun hk hl => ?_,
      fun hk hl => ?_⟩ <;> rw [hl]
    · rw [chooseBoth_unserved hk]
    · rw [chooseBoth_first hk]
    · rw [chooseBoth_second hne hk]
  case waits =>
    obtain ⟨-, moving, batch, owing, permissive⟩ := waits_iff.mp h
    exact ⟨permissive, batch, moving, owing⟩
  case ready =>
    rw [Component.trail_ready ready, Component.trail_ready ready, if_neg Bool.false_ne_true,
      Nat.min_eq_right (by omega)]
    exact ⟨rfl, rfl⟩
  case sample =>
    obtain ⟨closes, hcloses, spent⟩ := sampleArm_components (probe := probe) hc hp hf hrun
    refine ⟨_, exec_sample hr n probe, spent.length_eq.symm, fun k x y hy hx => ?_⟩
    obtain ⟨hky, rfl⟩ := List.getElem?_eq_some_iff.mp hy
    obtain ⟨hkx, rfl⟩ := List.getElem?_eq_some_iff.mp hx
    obtain ⟨same, owed⟩ := spent.get hky hkx
    rw [Component.readied_injector] at owed
    simp only [← hcloses]
    refine ⟨same, owed.imp id fun ⟨lent, _, shot⟩ => ⟨lent, shot⟩⟩

end Sys2Proof.Machine
end

section
/-! SUPPORT AND PROOF. The timers of a shot, its judgement and the injector's fault (R148, R151, R152). -/

namespace Sys2Proof.Machine

/-! ### An injector's fault at the batches that use it -/

/-- What a fault of an injector leaves of an arm's record (R151, R152). -/
def Arm.faultedBy (i : InjId) (cls : InjectorClass) (a : Arm) : Arm :=
  if a.uses i then
    let b := a.updComponents i fun k =>
      { k with
        status := .faulted
        owed := if cls = .optional ∨ a.control.state = .closing then 0 else k.owed }
    if cls = .mandatory ∧ a.flowing = true then b.holdFor .additiveFault else b
  else a

section FaultedArm
variable {i : InjId} {cls : InjectorClass} {a : Arm}

theorem Arm.faultedBy_spared (h : a.uses i = false) : a.faultedBy i cls = a := by
  rw [Arm.faultedBy, h]; rfl

theorem Arm.faultedBy_held (h : a.uses i = true) (hf : a.flowing = true) (hm : cls = .mandatory) :
    (a.faultedBy i cls).control.state = .held
      ∧ (a.faultedBy i cls).control.holdCause = some .additiveFault ∧ (a.faultedBy i cls).atRest := by
  rw [Arm.faultedBy, if_pos h, if_pos ⟨hm, hf⟩]; exact ⟨rfl, rfl, rfl, rfl, rfl⟩

theorem Arm.faultedBy_control (h : a.uses i = false ∨ a.flowing = false ∨ cls = .optional) :
    (a.faultedBy i cls).control = a.control := by
  cases hu : a.uses i with
  | false => rw [Arm.faultedBy_spared hu]
  | true =>
    have kept : ¬ (cls = .mandatory ∧ a.flowing = true) := by
      rintro ⟨rfl, hf⟩
      obtain h | h | h := h
      · exact Bool.false_ne_true (h.symm.trans hu)
      · exact Bool.false_ne_true (h.symm.trans hf)
      · exact InjectorClass.noConfusion h
    rw [Arm.faultedBy, if_pos hu, if_neg kept]; rfl

theorem Arm.faultedBy_components : (a.faultedBy i cls).components = a.components.map fun x =>
    if x.injector = i then
      { x with
        status := if a.uses i then .faulted else x.status
        owed := if a.uses i ∧ (cls = .optional ∨ a.control.state = .closing) then 0 else x.owed }
    else x := by
  cases hu : a.uses i with
  | false =>
    rw [Arm.faultedBy_spared hu]
    refine (List.map_id'' (fun x => ?_) _).symm
    simp only [Bool.false_eq_true, if_false, false_and, ite_self]
  | true =>
    rw [Arm.faultedBy, if_pos hu]
    simp only [if_true, true_and]
    split <;> rfl

end FaultedArm

section Fault
variable {i : InjId} {n : ArmId} {s : State} {c : InjectorConfig}

theorem mandatoryFault_flows (hu : (s.arm n).uses i = true) (hf : (s.arm n).flowing = true) :
    mandatoryFault i n s = post .batchHeld (n.val + 1) 6 (s.arm n).figures.gross
      (s.updArm n (Arm.faultedBy i .mandatory)) := by
  have flows : ∀ f : Arm → Component → Component,
      ((s.updArm n fun a => a.updComponents i (f a)).arm n).flowing = true := by
    intro f; rw [arm_updArm_same]; exact hf
  rw [mandatoryFault, if_pos hu, enterHeld_of_flowing (flows _), State.updArm_updArm, arm_updArm_same]
  have whole : (s.arm n).faultedBy i .mandatory = Arm.holdFor .additiveFault
      ((s.arm n).updComponents i fun k =>
        { k with
          status := .faulted, owed := if (s.arm n).control.state = .closing then 0 else k.owed }) := by
    rw [Arm.faultedBy, if_pos hu, if_pos ⟨rfl, hf⟩]; simp only [reduceCtorEq, false_or]
  rw [State.updArm, State.updArm, whole]; rfl

theorem mandatoryFault_still (hu : (s.arm n).uses i = true) (hf : (s.arm n).flowing = false) :
    mandatoryFault i n s = s.updArm n (Arm.faultedBy i .mandatory) := by
  have still : ∀ f : Arm → Component → Component,
      ¬ ((s.updArm n fun a => a.updComponents i (f a)).arm n).flowing = true := by
    intro f; rw [arm_updArm_same]; exact fun k => Bool.false_ne_true (hf.symm.trans k)
  have whole : (s.arm n).faultedBy i .mandatory = (s.arm n).updComponents i fun k =>
        { k with
          status := .faulted, owed := if (s.arm n).control.state = .closing then 0 else k.owed } := by
    rw [Arm.faultedBy, if_pos hu, if_neg fun k => Bool.false_ne_true (hf.symm.trans k.2)]
    simp only [reduceCtorEq, false_or]
  rw [mandatoryFault, if_pos hu, enterHeld, if_neg (still _), State.updArm, State.updArm, whole]

theorem mandatoryFault_spared (hu : (s.arm n).uses i = false) : mandatoryFault i n s = s := by
  rw [mandatoryFault, hu]; rfl

theorem optionalFault_eq (i : InjId) (n : ArmId) (s : State) :
    optionalFault i n s = s.updArm n (Arm.faultedBy i .optional) := by
  cases hu : (s.arm n).uses i with
  | false => rw [optionalFault, hu, State.updArm_self (Arm.faultedBy_spared hu)]; rfl
  | true =>
    rw [optionalFault, if_pos hu, State.updArm, State.updArm, Arm.faultedBy, if_pos hu,
      if_neg fun k => InjectorClass.noConfusion k.1]
    simp only [true_or, if_true]

theorem mandatoryFault_arm (i : InjId) (n : ArmId) (s : State) :
    (mandatoryFault i n s).arm n = (s.arm n).faultedBy i .mandatory := by
  cases hu : (s.arm n).uses i with
  | false => rw [mandatoryFault_spared hu, Arm.faultedBy_spared hu]
  | true => cases hf : (s.arm n).flowing with
    | false => rw [mandatoryFault_still hu hf, arm_updArm_same]
    | true => rw [mandatoryFault_flows hu hf, post_arm, arm_updArm_same]

theorem mandatoryFault_others (i : InjId) (k : ArmId) (s : State) (m : ArmId) (h : m ≠ k) :
    (mandatoryFault i k s).arm m = s.arm m := by
  cases hu : (s.arm k).uses i with
  | false => rw [mandatoryFault_spared hu]
  | true => cases hf : (s.arm k).flowing with
    | false => rw [mandatoryFault_still hu hf, arm_updArm_of_ne _ _ h]
    | true => rw [mandatoryFault_flows hu hf, post_arm, arm_updArm_of_ne _ _ h]

theorem mandatoryFault_port (i : InjId) (n : ArmId) (s : State) : (mandatoryFault i n s).port
    = if ((s.arm n).uses i && (s.arm n).flowing) = true then
        (post .batchHeld (n.val + 1) 6 (s.arm n).figures.gross s).port else s.port := by
  cases hu : (s.arm n).uses i with
  | false => rw [mandatoryFault_spared hu]; rfl
  | true => cases hf : (s.arm n).flowing with
    | false => rw [mandatoryFault_still hu hf]; rfl
    | true => rw [mandatoryFault_flows hu hf]; exact post_port _ _ _ _ rfl

theorem mandatoryFault_injectors (i : InjId) (k : ArmId) (s : State) :
    (mandatoryFault i k s).injectors = s.injectors := by
  cases hu : (s.arm k).uses i with
  | false => rw [mandatoryFault_spared hu]
  | true => cases hf : (s.arm k).flowing with
    | false => rw [mandatoryFault_still hu hf]; rfl
    | true => rw [mandatoryFault_flows hu hf, post_injectors]; rfl

/-- The state in which the batches meet an injector's fault: FAULTED, with its record posted (R151). -/
def State.faultPosted (i : InjId) (c : InjectorConfig) (n : ArmId) (ml : Nat) (s : State) : State :=
  post .additiveFault (n.val + 1) ((i.val + 1) * 256 + c.injectorClass.code) ml
    (s.setInjector i { s.injector i with state := .faulted })

theorem faultInjector_mandatory {ml : Nat} (hml : ml < 2 ^ 32) (h : c.injectorClass = .mandatory) :
    faultInjector i c n ml s = forArms (mandatoryFault i) (s.faultPosted i c n ml) := by
  simp only [faultInjector, fit_of_lt hml, h, State.faultPosted, armNumber, injectorNumber]

theorem faultInjector_optional {ml : Nat} (hml : ml < 2 ^ 32) (h : c.injectorClass = .optional) :
    faultInjector i c n ml s = forArms (optionalFault i) (s.faultPosted i c n ml) := by
  simp only [faultInjector, fit_of_lt hml, h, State.faultPosted, armNumber, injectorNumber]

theorem faultPosted_arm (ml : Nat) (m : ArmId) : (s.faultPosted i c n ml).arm m = s.arm m := post_arm ..

/-- The same change of every arm. -/
theorem forArms_updArm (f : Arm → Arm) (s : State) :
    (∀ m, (forArms (fun k u => u.updArm k f) s).arm m = f (s.arm m))
      ∧ (forArms (fun k u => u.updArm k f) s).injectors = s.injectors
      ∧ (forArms (fun k u => u.updArm k f) s).port = s.port := by
  refine ⟨fun m => ?_, forArms_keeps (fun u => u.injectors) (fun k u => u.updArm k f)
      (fun k u => updArm_injectors u k f) s,
    forArms_keeps (fun u => u.port) (fun k u => u.updArm k f) (fun k u => updArm_port u k f) s⟩
  obtain ⟨t, ht, harm⟩ := forArms_arm (f := fun k u => u.updArm k f)
    (fun k u m (h : m ≠ k) => arm_updArm_of_ne u f h) m s
  rw [harm, arm_updArm_same, ht]

/-- The whole of a fault but for the other records: each arm, the injectors and the events (R151, R152). -/
theorem faultInjector_whole {ml : Nat} (hml : ml < 2 ^ 32) (i : InjId) (c : InjectorConfig) (n : ArmId)
    (s : State) :
    (∀ m, (faultInjector i c n ml s).arm m = (s.arm m).faultedBy i c.injectorClass)
      ∧ (faultInjector i c n ml s).injectors = (s.faultPosted i c n ml).injectors
      ∧ (c.injectorClass = .optional →
          (faultInjector i c n ml s).port = (s.faultPosted i c n ml).port)
      ∧ (c.injectorClass = .mandatory → (faultInjector i c n ml s).port
          = (postEach .batchHeld 6 (fun m => (s.arm m).figures.gross)
              (armIds.filter fun m => (s.arm m).uses i && (s.arm m).flowing)
              (s.faultPosted i c n ml)).port) := by
  cases hc : c.injectorClass with
  | mandatory =>
    rw [faultInjector_mandatory hml hc]
    refine ⟨fun m => ?_, forArms_keeps (·.injectors) _ (mandatoryFault_injectors i) _, nofun,
      fun _ => foldl_posts (mandatoryFault_others i) (fun k u hk => ?_) (by decide) fun m _ =>
        faultPosted_arm ml m⟩
    · obtain ⟨t, ht, harm⟩ := forArms_arm (mandatoryFault_others i) m (s.faultPosted i c n ml)
      rw [harm, mandatoryFault_arm, ht, faultPosted_arm]
    · rw [mandatoryFault_port, hk]
  | optional =>
    have turns : optionalFault i = fun k u => u.updArm k (Arm.faultedBy i .optional) :=
      funext fun k => funext fun u => optionalFault_eq i k u
    rw [faultInjector_optional hml hc, turns]
    obtain ⟨arms, injectors, port⟩ :=
      forArms_updArm (Arm.faultedBy i .optional) (s.faultPosted i c n ml)
    exact ⟨fun m => by rw [arms, faultPosted_arm], injectors, fun _ => port, nofun⟩

end Fault

/-! ### The judgement of a shot -/

theorem shotGood_iff {c : InjectorConfig} {pulses : Nat} : shotGood c pulses = true ↔
    pulses ≠ 0 ∧ c.shotMl * (100 - c.tolerance) ≤ pulses * 1000 / c.meterK * 100 := by
  rw [shotGood, Bool.and_eq_true, decide_eq_true_eq, decide_eq_true_eq]; exact Iff.rfl

/-- The bad count after the judgement of a shot (R148). -/
def State.badAfter (i : InjId) (c : InjectorConfig) (r : Shot) (s : State) : Nat :=
  if shotGood c r.pulses then 0 else (s.injector i).badCount + 1

/-- The state after the measuring and crediting of a shot (R148). -/
def State.judged (i : InjId) (c : InjectorConfig) (r : Shot) (s : State) : State :=
  creditShot i r.arm (measuredMl c r.pulses)
    (s.setInjector i { s.injector i with badCount := s.badAfter i c r })

section Judged
variable {i : InjId} {s : State} {c : InjectorConfig} {r : Shot}

theorem endShot_passes (h : s.badAfter i c r < c.faultLimit) : endShot i c r s
    = offer i ((s.judged i c r).setInjector i { (s.judged i c r).injector i with state := .idle }) :=
  if_neg (Nat.not_le.mpr h)

theorem endShot_faults (h : c.faultLimit ≤ s.badAfter i c r) : endShot i c r s
    = faultInjector i c r.arm (measuredMl c r.pulses) (s.judged i c r) := if_pos h

theorem judged_arm (m : ArmId) : (s.judged i c r).arm m = { s.arm m with
    components := if m = r.arm then ((s.arm m).components.map fun k => if k.injector = i then
        { k with
          injected := fit 32 (k.injected + measuredMl c r.pulses), shots := k.shots + 1 } else k)
      else (s.arm m).components } := by
  rw [State.judged, creditShot, arm_updArm, setInjector_arm, setInjector_arm]
  by_cases h : m = r.arm
  · subst h; rw [if_pos rfl, if_pos rfl]; rfl
  · rw [if_neg h, if_neg h]

theorem judged_injector : (s.judged i c r).injector i
    = { s.injector i with badCount := s.badAfter i c r } := by
  rw [State.judged, creditShot, updArm_injector, injector_setInjector_same]

theorem judged_uses (m : ArmId) (k : InjId) : ((s.judged i c r).arm m).uses k = (s.arm m).uses k := by
  rw [judged_arm, Arm.uses, Arm.uses]
  split
  · dsimp only [Arm.inBatch, Arm.inRun]
    rw [List.any_map]
    congr 2
    funext x
    rw [Function.comp_apply]
    split <;> rfl
  · rfl

/-- The measure of the shot in the component of the served batch. -/
theorem judged_components (hx : ∀ x ∈ (s.arm r.arm).components,
      x.injected + measuredMl c r.pulses < 2 ^ 32) (m : ArmId) :
    ((s.judged i c r).arm m).components = (s.arm m).components.map fun x =>
      if x.injector = i then
        { x with
          shots := if m = r.arm then x.shots + 1 else x.shots
          injected := if m = r.arm then x.injected + measuredMl c r.pulses else x.injected }
      else x := by
  rw [judged_arm]
  by_cases h : m = r.arm
  · subst h
    dsimp only
    rw [if_pos rfl]
    refine List.map_congr_left fun x hm => ?_
    rw [fit_of_lt (hx x hm), if_pos rfl, if_pos rfl]
  · dsimp only
    rw [if_neg h]
    refine (List.map_id'' (fun x => ?_) _).symm
    rw [if_neg h, if_neg h]
    split <;> rfl

/-- The shot judged good or bad short of the limit leaves the injector IDLE and offers it work. -/
theorem passed_waits {m : ArmId} (h : waits
      ((s.judged i c r).setInjector i { (s.judged i c r).injector i with state := .idle }) i m = true) :
    waits s i m = true := by
  rw [waits_iff, injector_setInjector_same, judged_injector, setInjector_arm, judged_arm] at h
  obtain ⟨plumbed, moving, batch, ⟨x, hx, hi, howed⟩, ok⟩ := h
  refine waits_iff.mpr ⟨plumbed, moving, batch, ?_, ok⟩
  dsimp only at hx
  split at hx
  · obtain ⟨y, hy, rfl⟩ := List.mem_map.mp hx
    refine ⟨y, hy, ?_⟩
    by_cases hyi : y.injector = i
    · rw [if_pos hyi] at howed; exact ⟨hyi, howed⟩
    · rw [if_neg hyi] at hi; exact absurd hi hyi
  · exact ⟨x, hx, hi, howed⟩

theorem offer_served {t : State} (hc : (t.injector i).config = some c)
    (hs : (t.injector i).state = .idle) : ((offer i t).injector i).state = .idle
      ∨ ∃ q : Shot, ((offer i t).injector i).state = .shot q ∧ waits t i q.arm = true
          ∧ q.pulses = 0 ∧ q.phase = .opened := by
  cases h : chooseArm t i c with
  | none => exact .inl (by rw [offer_idle hc hs h, hs])
  | some m =>
    refine .inr ⟨⟨m, .opened, targetPulses c, 0, .start c.shotTimeLimit⟩, ?_, chooseArm_waits h, rfl, rfl⟩
    rw [offer_starts hc hs h, startShot, injector_setInjector_same]

end Judged

/-- Components that differ in what they owe alone have the same shots and volumes. -/
theorem credited_of_owed {l m : List Component}
    (h : l.map (fun x => { x with owed := 0 }) = m.map (fun x => { x with owed := 0 })) :
    l.map (fun x => (x.injector, x.shots, x.injected))
      = m.map (fun x => (x.injector, x.shots, x.injected)) := by
  have projected := congrArg (List.map fun x : Component => (x.injector, x.shots, x.injected)) h
  rwa [List.map_map, List.map_map] at projected

section Timers
variable {i : InjId} {s : State} {c : InjectorConfig} {r : Shot}

theorem exec_shotTimer (hr : s.running = true) :
    exec (.shotTimerExpiry i) s = .next (shotTimeOut i s) := congrArg Host.Outcome.next (if_pos hr)

theorem exec_tailTimer (hr : s.running = true) :
    exec (.tailTimerExpiry i) s = .next (tailTimeOut i s) := congrArg Host.Outcome.next (if_pos hr)

section Shot
variable (hs : (s.injector i).state = .shot r)
include hs

theorem shotTimeOut_opened (hp : r.phase = .opened) (ht : r.timer.running = true) :
    shotTimeOut i s = s.setInjector i { s.injector i with state := .shot r.toTail } := by
  unfold shotTimeOut; rw [hs]; exact if_pos ⟨hp, ht⟩

theorem shotTimeOut_tail (hp : r.phase = .tail) : shotTimeOut i s = s := by
  unfold shotTimeOut; rw [hs]; exact if_neg fun k => ShotPhase.noConfusion (hp.symm.trans k.1)

variable (hc : (s.injector i).config = some c)
include hc

theorem tailTimeOut_opened (hp : r.phase = .opened) : tailTimeOut i s = s := by
  unfold tailTimeOut; rw [hc, hs]; exact if_neg fun k => ShotPhase.noConfusion (hp.symm.trans k.1)

theorem tailTimeOut_tail (hp : r.phase = .tail) (ht : r.timer.running = true) :
    tailTimeOut i s = endShot i c r s := by
  unfold tailTimeOut; rw [hc, hs]; exact if_pos ⟨hp, ht⟩

end Shot

theorem tailTimeOut_noShot (h : ∀ r, (s.injector i).state ≠ .shot r) : tailTimeOut i s = s := by
  unfold tailTimeOut
  split
  · next hs => exact absurd hs (h _)
  · rfl

theorem shotTimeOut_noShot (h : ∀ r, (s.injector i).state ≠ .shot r)
    (hp : ∀ p, (s.injector i).state ≠ .proving p) : shotTimeOut i s = s := by
  unfold shotTimeOut
  split
  · next hs => exact absurd hs (h _)
  · next hs => exact absurd hs (hp _)
  · rfl

/-- A shot judged short of the fault limit (R148). -/
theorem endShot_passed (hc : (s.injector i).config = some c)
    (h : s.badAfter i c r < c.faultLimit) :
    ((endShot i c r s).injector i).badCount = s.badAfter i c r
      ∧ (∀ n, ((endShot i c r s).arm n).components.map (fun x => (x.injector, x.shots, x.injected))
          = ((s.judged i c r).arm n).components.map (fun x => (x.injector, x.shots, x.injected)))
      ∧ (∀ n, ((endShot i c r s).arm n).control = (s.arm n).control)
      ∧ (endShot i c r s).port = s.port
      ∧ (((endShot i c r s).injector i).state = .idle
        ∨ ∃ q : Shot, ((endShot i c r s).injector i).state = .shot q ∧ waits s i q.arm = true
            ∧ q.pulses = 0 ∧ q.phase = .opened) := by
  rw [endShot_passes h]
  have injector : (((s.judged i c r).setInjector i
        { (s.judged i c r).injector i with state := .idle }).injector i)
      = { s.injector i with badCount := s.badAfter i c r, state := .idle } := by
    rw [injector_setInjector_same, judged_injector]
  obtain ⟨rest, arm, components, -, kept, -⟩ := offer_frame i
    ((s.judged i c r).setInjector i { (s.judged i c r).injector i with state := .idle })
  refine ⟨by rw [(kept i).2.1, injector], fun n => credited_of_owed (components n), fun n => ?_,
    by rw [rest]; rfl, ?_⟩
  · rw [arm n, setInjector_arm, judged_arm]
  · exact (offer_served (by rw [injector]; exact hc) (by rw [injector])).imp id
      fun ⟨q, hq, hw, rest⟩ => ⟨q, hq, passed_waits hw, rest⟩

/-- A shot judged at the fault limit (R151, R152). -/
theorem endShot_faulted (hml : measuredMl c r.pulses < 2 ^ 32) (h : c.faultLimit ≤ s.badAfter i c r) :
    (∀ n, (endShot i c r s).arm n = ((s.judged i c r).arm n).faultedBy i c.injectorClass)
      ∧ (endShot i c r s).injector i
          = { s.injector i with badCount := s.badAfter i c r, state := .faulted }
      ∧ (let faulted := post .additiveFault (r.arm.val + 1)
            ((i.val + 1) * 256 + c.injectorClass.code) (measuredMl c r.pulses) s
        (c.injectorClass = .optional → (endShot i c r s).port = faulted.port)
          ∧ (c.injectorClass = .mandatory → (endShot i c r s).port
              = (postEach .batchHeld 6 (fun m => (s.arm m).figures.gross)
                  (armIds.filter fun m => (s.arm m).uses i && (s.arm m).flowing) faulted).port)) := by
  obtain ⟨arms, injectors, optional, mandatory⟩ :=
    faultInjector_whole hml i c r.arm (s.judged i c r)
  rw [endShot_faults h]
  have port : ((s.judged i c r).faultPosted i c r.arm (measuredMl c r.pulses)).port
      = (post .additiveFault (r.arm.val + 1) ((i.val + 1) * 256 + c.injectorClass.code)
          (measuredMl c r.pulses) s).port := post_port _ _ _ _ rfl
  refine ⟨arms, ?_, fun ho => (optional ho).trans port, fun hm => (mandatory hm).trans ?_⟩
  · rw [State.injector, injectors]
    refine (post_injector ..).trans ?_
    rw [injector_setInjector_same, judged_injector]
  · have values : (fun m => ((s.judged i c r).arm m).figures.gross)
        = fun m => (s.arm m).figures.gross := funext fun m => by rw [judged_arm]
    have asked : (fun m => ((s.judged i c r).arm m).uses i && ((s.judged i c r).arm m).flowing)
        = fun m => (s.arm m).uses i && (s.arm m).flowing :=
      funext fun m => by rw [judged_uses, judged_arm]; rfl
    rw [values, asked]
    exact postEach_port _ port

/-- The components of every arm after the fault (R151, R152). -/
theorem endShot_faulted_components (hx : ∀ x ∈ (s.arm r.arm).components,
      x.injected + measuredMl c r.pulses < 2 ^ 32) (hml : measuredMl c r.pulses < 2 ^ 32)
    (h : c.faultLimit ≤ s.badAfter i c r) (n : ArmId) :
    ((endShot i c r s).arm n).components = (s.arm n).components.map fun x =>
      if x.injector = i then
        { x with
          shots := if n = r.arm then x.shots + 1 else x.shots
          injected := if n = r.arm then x.injected + measuredMl c r.pulses else x.injected
          status := if (s.arm n).uses i then .faulted else x.status
          owed := if (s.arm n).uses i ∧ (c.injectorClass = .optional
              ∨ (s.arm n).control.state = .closing) then 0 else x.owed }
      else x := by
  have control : ((s.judged i c r).arm n).control = (s.arm n).control := by rw [judged_arm]
  rw [(endShot_faulted hml h).1, Arm.faultedBy_components, judged_components hx, judged_uses, control,
    List.map_map]
  refine List.map_congr_left fun x _ => ?_
  rw [Function.comp_apply]
  by_cases hi : x.injector = i
  · rw [if_pos hi, if_pos hi, if_pos hi]
  · rw [if_neg hi, if_neg hi, if_neg hi]

end Timers

theorem Arm.faultedBy_credited {i : InjId} {cls : InjectorClass} (a : Arm) :
    (a.faultedBy i cls).components.map (fun x => (x.injector, x.shots, x.injected))
      = a.components.map (fun x => (x.injector, x.shots, x.injected)) := by
  rw [Arm.faultedBy_components, List.map_map]
  refine List.map_congr_left fun x _ => ?_
  rw [Function.comp_apply]
  split <;> rfl

theorem postEach_events_prefix {kind : EventKind} {code : Nat} {value : ArmId → Nat} (l : List ArmId)
    (s : State) : s.port.events <+: (postEach kind code value l s).port.events := by
  induction l generalizing s with
  | nil => exact List.prefix_rfl
  | cons n l ih => exact (post_events_prefix ..).trans (ih _)

theorem event_of_posted {kind : EventKind} {a c v : Nat} {s u : State}
    (room : s.port.events.length < 32)
    (h : (post kind a c v s).port.events <+: u.port.events) : u.port.events[s.port.events.length]?
      = some { kind := kind, arm := a, code := c, value := v, clock := s.port.clock } := by
  rw [post_room room] at h
  obtain ⟨later, hl⟩ := h
  rw [← hl]
  simp

/-- Settles O47: the phases of a shot, its judgement, and the fault of its injector, arm by arm. -/
theorem shotsAreJudged : Obligations.ShotsAreJudged := by
  unfold Obligations.ShotsAreJudged
  refine ⟨fun i s c r hr hc hs ht => ⟨fun hp => ?opened, fun hp => ?tail, fun hp hx hml => ?judged⟩,
    fun i s hn => ⟨?noShot, fun hp => ?noProving⟩⟩
  case opened =>
    rw [exec_shotTimer hr, exec_tailTimer hr, shotTimeOut_opened hs hp ht, tailTimeOut_opened hs hc hp]
    exact ⟨rfl, rfl⟩
  case tail => rw [exec_shotTimer hr, shotTimeOut_tail hs hp]
  case noShot =>
    have stands := tailTimeOut_noShot hn
    rw [exec, execTailTimerExpiry, stands, ite_self]
  case noProving =>
    have stands := shotTimeOut_noShot hn hp
    rw [exec, execShotTimerExpiry, stands, ite_self]
  case judged =>
    have bad : (if r.pulses ≠ 0 ∧ c.shotMl * (100 - c.tolerance) ≤ r.pulses * 1000 / c.meterK * 100
        then 0 else (s.injector i).badCount + 1) = s.badAfter i c r :=
      (if_congr shotGood_iff rfl rfl).symm
    dsimp only
    rw [bad]
    have credited : ((s.judged i c r).arm r.arm).components.map
          (fun x => (x.injector, x.shots, x.injected))
        = (s.arm r.arm).components.map (fun x =>
            if x.injector = i then (x.injector, x.shots + 1, x.injected + measuredMl c r.pulses)
            else (x.injector, x.shots, x.injected)) := by
      rw [judged_components hx, List.map_map]
      refine List.map_congr_left fun x _ => ?_
      rw [Function.comp_apply, if_pos rfl, if_pos rfl]
      split <;> rfl
    refine ⟨endShot i c r s, by rw [exec_tailTimer hr, tailTimeOut_tail hs hc hp ht], ?_⟩
    obtain pass | fault := Nat.lt_or_ge (s.badAfter i c r) c.faultLimit
    · obtain ⟨count, components, control, port, state⟩ := endShot_passed hc pass
      exact ⟨count, (components _).trans credited, fun _ => ⟨control, port, state⟩,
        fun h => absurd pass (Nat.not_lt.mpr h)⟩
    · obtain ⟨arms, injector, ports⟩ := endShot_faulted hml fault
      have components := fun n => endShot_faulted_components (s := s) hx hml fault n
      refine ⟨by rw [injector], ?_, fun h => absurd h (Nat.not_lt.mpr fault), fun _ =>
        ⟨by rw [injector], fun room => event_of_posted room ?_, fun n hu x hm hxi => ?_,
          fun n hu hf hm => ?_, fun n h => ?_, components, ports⟩⟩
      · rw [arms, Arm.faultedBy_credited]; exact credited
      · cases hcl : c.injectorClass with
        | optional => rw [ports.1 hcl, hcl]; exact List.prefix_rfl
        | mandatory => rw [ports.2 hcl, hcl]; exact postEach_events_prefix ..
      · rw [components] at hm
        obtain ⟨y, -, rfl⟩ := List.mem_map.mp hm
        by_cases hy : y.injector = i
        · rw [if_pos hy, if_pos hu]
        · rw [if_neg hy] at hxi; exact absurd hxi hy
      · rw [arms]
        exact Arm.faultedBy_held (by rw [judged_uses]; exact hu) (by rw [judged_arm]; exact hf) hm
      · rw [arms, Arm.faultedBy_control (by rw [judged_uses, judged_arm]; exact h), judged_arm]

end Sys2Proof.Machine
end

section
/-! SUPPORT AND PROOF. Meter runs with their result, and injector proving (R160 to R169). -/

namespace Sys2Proof.Machine

/-! ### BEGIN METER RUN by its checks -/

section Run
variable {s : State} {n : ArmId}

theorem runRefusal_busy
    (h : s.load.state ≠ .noLoad ∨ s.meterRun = true ∨ (s.arm n).control.state ≠ .idle) :
    runRefusal s n = some (.refused .wrongState) := by
  unfold runRefusal
  by_cases hl : s.load.state = .noLoad
  · rw [if_neg (not_not_intro hl)]
    by_cases hr : s.meterRun = true
    · rw [if_pos hr]
    · rw [if_neg hr, if_pos ((h.resolve_left (not_not_intro hl)).resolve_left hr)]
  · rw [if_pos hl]

section AtRest
variable (hl : s.load.state = .noLoad) (hr : s.meterRun = false) (hs : (s.arm n).control.state = .idle)
include hl hr hs

/-- The checks of the bay, of a part with no load and no meter run (R160). -/
theorem runRefusal_bay : runRefusal s n =
    if s.monitor.rackStop then some (.refused .rackStopped)
    else if !s.monitor.deployed n then some (.denied .armStowed)
    else if s.monitor.couplerCode n ≠ 0 then some (.denied .wrongCompartment)
    else if !s.monitor.permissiveOk then some (.denied .permissive)
    else none := by
  rw [runRefusal, if_neg (not_not_intro hl), hr, if_neg Bool.false_ne_true,
    if_neg (not_not_intro hs)]

theorem runRefusal_stopped (h : s.monitor.rackStop = true) :
    runRefusal s n = some (.refused .rackStopped) := by
  rw [runRefusal_bay hl hr hs, h]; rfl

variable (hrack : s.monitor.rackStop = false)
include hrack

theorem runRefusal_stowed (h : (s.monitor.stow.get n).accepted ≠ 1) :
    runRefusal s n = some (.denied .armStowed) := by
  rw [runRefusal_bay hl hr hs, hrack, deployed_false h]; rfl

variable (hd : (s.monitor.stow.get n).accepted = 1)
include hd

theorem runRefusal_elsewhere (h : (s.monitor.coupler.get n).accepted ≠ 0) :
    runRefusal s n = some (.denied .wrongCompartment) := by
  rw [runRefusal_bay hl hr hs, hrack, deployed_iff.mpr hd]; exact if_pos h

variable (hc : (s.monitor.coupler.get n).accepted = 0)
include hc

theorem runRefusal_permissive (h : s.monitor.permissiveOk = false) :
    runRefusal s n = some (.denied .permissive) := by
  rw [runRefusal_bay hl hr hs, hrack, deployed_iff.mpr hd, h]; exact if_neg (not_not_intro hc)

theorem runRefusal_passes (h : s.monitor.permissiveOk = true) : runRefusal s n = none := by
  rw [runRefusal_bay hl hr hs, hrack, deployed_iff.mpr hd, h]; exact if_neg (not_not_intro hc)

end AtRest

variable {volume : Nat}

theorem beginMeterRun_badVolume (h : volume < 100 ∨ 5000 < volume) :
    beginMeterRun (n.val + 1) volume s = (s, .refused .badValue) := by
  rw [beginMeterRun, armOf_val]; exact if_pos h

section Volume
variable (h1 : 100 ≤ volume) (h2 : volume ≤ 5000)
include h1 h2

theorem beginMeterRun_unconfigured (hc : (s.arm n).config = none) :
    beginMeterRun (n.val + 1) volume s = (s, .refused .wrongState) := by
  rw [beginMeterRun, armOf_val]; dsimp only
  rw [if_neg (by omega), hc]

theorem beginMeterRun_refused {c : ArmConfig} {a : Answer} (hc : (s.arm n).config = some c)
    (h : runRefusal s n = some a) : beginMeterRun (n.val + 1) volume s = (s, a) := by
  rw [beginMeterRun, armOf_val]; dsimp only
  rw [if_neg (by omega), hc]; dsimp only; rw [h]

theorem beginMeterRun_begun {c : ArmConfig} (hc : (s.arm n).config = some c)
    (h : runRefusal s n = none) : beginMeterRun (n.val + 1) volume s
      = (post .batchStarted (n.val + 1) 0 volume (s.updArm n (Arm.beginRun c volume)), .ok) := by
  rw [beginMeterRun, armOf_val]; dsimp only
  rw [if_neg (by omega), hc]; dsimp only; rw [h]; rfl

end Volume

@[simp] theorem frameTaken_runRefusal (s : State) (n : ArmId) :
    runRefusal (frameTaken s) n = runRefusal s n := by
  simp only [runRefusal, frameTaken_load, frameTaken_meterRun, frameTaken_arm, frameTaken_monitor]

/-! ### METER RESULT by its checks -/

variable {point prover : Nat}

theorem meterResult_badFields (h : point < 1 ∨ 4 < point ∨ prover = 0) :
    meterResult (n.val + 1) point prover s = (s, .refused .badValue) := by
  rw [meterResult, armOf_val]; exact if_pos h

theorem factorAccepted_iff {new used : Nat} : factorAccepted new used = true ↔
    new ≤ used + 50 ∧ used ≤ new + 50 ∧ 9000 ≤ new ∧ new ≤ 11000 := by
  rw [factorAccepted, Bool.and_eq_true, Bool.and_eq_true, decide_eq_true_eq, decide_eq_true_eq,
    decide_eq_true_eq]
  unfold distance
  omega

section Fields
variable (h1 : 1 ≤ point) (h4 : point ≤ 4) (hp : prover ≠ 0)
include h1 h4 hp

theorem meterResult_wrongState (h : s.load.state ≠ .noLoad ∨ (s.arm n).result = none) :
    meterResult (n.val + 1) point prover s = (s, .refused .wrongState) := by
  rw [meterResult, armOf_val]; dsimp only
  rw [if_neg (by omega)]
  by_cases hl : s.load.state = .noLoad
  · rw [if_neg (not_not_intro hl), h.resolve_left (not_not_intro hl)]
  · rw [if_pos hl]

variable {r : RunResult} (hl : s.load.state = .noLoad) (hres : (s.arm n).result = some r)
include hl hres

theorem meterResult_noPoint (h : (s.arm n).curve.length < point) :
    meterResult (n.val + 1) point prover s = (s, .refused .badValue) := by
  rw [meterResult, armOf_val]; dsimp only
  rw [if_neg (by omega), if_neg (not_not_intro hl), hres]; exact if_pos h

variable (hlen : point ≤ (s.arm n).curve.length)
include hlen

theorem meterResult_accepted (h : factorAccepted (newFactor r prover) r.mfUsed = true) :
    meterResult (n.val + 1) point prover s
      = (s.updArm n (Arm.setFactor point (newFactor r prover)),
        .okWith (field 2 (newFactor r prover))) := by
  rw [meterResult, armOf_val]; dsimp only
  rw [if_neg (by omega), if_neg (not_not_intro hl), hres]; dsimp only
  rw [if_neg (Nat.not_lt.mpr hlen), h]; rfl

theorem meterResult_declined (h : factorAccepted (newFactor r prover) r.mfUsed = false) :
    meterResult (n.val + 1) point prover s
      = (s, .badValueWith (field 2 (min 0xFFFF (newFactor r prover)) ++ field 2 r.mfUsed)) := by
  rw [meterResult, armOf_val]; dsimp only
  rw [if_neg (by omega), if_neg (not_not_intro hl), hres]; dsimp only
  rw [if_neg (Nat.not_lt.mpr hlen), h]; rfl

end Fields
end Run

/-- Settles O49: the two requests by their checks in order, and the accepted ones written out. -/
theorem meterRunsAreBegunAndAnswered : Obligations.MeterRunsAreBegunAndAnswered := by
  unfold Obligations.MeterRunsAreBegunAndAnswered
  refine fun f s n => ⟨fun volume h hr => ⟨fun hv => ?volume, fun h1 h2 => ⟨fun hc => ?unconfigured,
      fun c hc => ⟨fun hb => ?busy, fun hl hm hs => ⟨fun hrack => ?stopped, fun hrack hd => ?stowed,
        fun hrack hd hcp => ?elsewhere, fun hrack hd hcp hok => ?permissive,
        fun hrack hd hcp hok => ?begun⟩⟩⟩⟩,
    fun point prover h hr => ⟨fun hb => ?fields, fun h1 h4 hp => ⟨fun hw => ?wrongState,
      fun r hl hres => ⟨fun hlen => ?noPoint, fun hlen hbound =>
        ⟨fun ha hb hc hd => ?accepted, fun hd => ?declined⟩⟩⟩⟩⟩
  case volume => exact fixed_done h hr (beginMeterRun_badVolume hv)
  case unconfigured =>
    exact fixed_done h hr (beginMeterRun_unconfigured h1 h2 (by rwa [frameTaken_arm]))
  case busy =>
    exact fixed_done h hr (beginMeterRun_refused h1 h2 (by rwa [frameTaken_arm])
      (by rw [frameTaken_runRefusal]; exact runRefusal_busy hb))
  case stopped =>
    exact fixed_done h hr (beginMeterRun_refused h1 h2 (by rwa [frameTaken_arm])
      (by rw [frameTaken_runRefusal]; exact runRefusal_stopped hl hm hs hrack))
  case stowed =>
    exact fixed_done h hr (beginMeterRun_refused h1 h2 (by rwa [frameTaken_arm])
      (by rw [frameTaken_runRefusal]; exact runRefusal_stowed hl hm hs hrack hd))
  case elsewhere =>
    exact fixed_done h hr (beginMeterRun_refused h1 h2 (by rwa [frameTaken_arm])
      (by rw [frameTaken_runRefusal]; exact runRefusal_elsewhere hl hm hs hrack hd hcp))
  case permissive =>
    exact fixed_done h hr (beginMeterRun_refused h1 h2 (by rwa [frameTaken_arm])
      (by rw [frameTaken_runRefusal]; exact runRefusal_permissive hl hm hs hrack hd hcp hok))
  case begun =>
    refine fixed_done h hr ((beginMeterRun_begun h1 h2 (by rwa [frameTaken_arm])
      (by rw [frameTaken_runRefusal]; exact runRefusal_passes hl hm hs hrack hd hcp hok)).trans ?_)
    simp only [State.updArm, State.setArm, Arm.beginRun, Arm.starting, Arm.clearFigures,
      frameTaken_arm, frameTaken_arms]
  case fields => exact fixed_done h hr (meterResult_badFields hb)
  case wrongState =>
    exact fixed_done h hr (meterResult_wrongState h1 h4 hp (by rwa [frameTaken_load, frameTaken_arm]))
  case noPoint =>
    exact fixed_done h hr (meterResult_noPoint h1 h4 hp (by rwa [frameTaken_load])
      (by rwa [frameTaken_arm]) (by rwa [frameTaken_arm]))
  all_goals
    have new : newFactor r prover = roundHalfUp (r.mfUsed * prover) r.gross := by
      rw [newFactor, fit_of_lt hbound]
  case accepted =>
    refine fixed_done h hr ((meterResult_accepted h1 h4 hp (by rwa [frameTaken_load])
      (by rwa [frameTaken_arm]) (by rwa [frameTaken_arm])
      (factorAccepted_iff.mpr (by rw [new]; exact ⟨ha, hb, hc, hd⟩))).trans ?_)
    rw [new, State.updArm, State.setArm, frameTaken_arm, frameTaken_arms]; rfl
  case declined =>
    refine fixed_done h hr ((meterResult_declined h1 h4 hp (by rwa [frameTaken_load])
      (by rwa [frameTaken_arm]) (by rwa [frameTaken_arm])
      (Bool.eq_false_iff.mpr fun ha => ?_)).trans (by rw [new]; rfl))
    rw [factorAccepted_iff, new] at ha
    omega

end Sys2Proof.Machine
end

section
/-! SUPPORT AND PROOF. Injector proving from BEGIN to its result, and END PROVING (R166 to R169). -/

namespace Sys2Proof.Machine

section Injector
variable {s : State} (i : InjId)

@[simp] theorem frameTaken_batchUses (s : State) (i : InjId) :
    (frameTaken s).batchUses i = s.batchUses i := by rw [State.batchUses, frameTaken_arms]; rfl

/-! ### BEGIN INJECTOR PROVING -/

theorem beginInjectorProving_wrongState
    (h : (s.injector i).config = none ∨ s.earnsNone i = true) :
    beginInjectorProving (i.val + 1) s = (s, .refused .wrongState) := by
  rw [beginInjectorProving, injectorOf_val]
  refine if_pos ?_
  rw [Bool.or_eq_true, Option.isNone_iff_eq_none]; exact h

section Able
variable (hc : (s.injector i).config.isSome = true) (he : s.earnsNone i = false)
include hc he

theorem beginInjectorProving_inUse (h : s.batchUses i = true) :
    beginInjectorProving (i.val + 1) s = (s, .refused .inUse) := by
  rw [beginInjectorProving, injectorOf_val]; dsimp only
  rw [he, Option.isNone_eq_false_iff.mpr hc, h]; rfl

theorem beginInjectorProving_begun (h : s.batchUses i = false) :
    beginInjectorProving (i.val + 1) s = (s.setInjector i
      { s.injector i with
        state := .proving { shots := 0, pulseTotal := 0, shot := none }, creep := 0 }, .ok) := by
  rw [beginInjectorProving, injectorOf_val]; dsimp only
  rw [he, Option.isNone_eq_false_iff.mpr hc, h]; rfl

end Able

/-! ### PROVE SHOT, INJECTOR RESULT and END PROVING of a proving injector -/

section Proving
variable {c : InjectorConfig} {p : ProvingRecord} (hc : (s.injector i).config = some c)
  (hs : (s.injector i).state = .proving p)

section Shot
include hc hs

theorem proveShot_running (h : p.shot.isSome = true) :
    proveShot (i.val + 1) s = (s, .refused .wrongState) := by
  rw [proveShot, injectorOf_val]; dsimp only
  rw [hc, hs]; exact if_pos h

theorem proveShot_stopped (h : p.shot = none) (hr : s.monitor.rackStop = true) :
    proveShot (i.val + 1) s = (s, .refused .rackStopped) := by
  rw [proveShot, injectorOf_val]; dsimp only
  rw [hc, hs]; dsimp only
  rw [h, hr]; rfl

theorem proveShot_opens (h : p.shot = none) (hr : s.monitor.rackStop = false) :
    proveShot (i.val + 1) s = (s.setInjector i
      { s.injector i with state := .proving { p with shot := some (newProveShot c) } }, .ok) := by
  rw [proveShot, injectorOf_val]; dsimp only
  rw [hc, hs]; dsimp only
  rw [h, hr]; rfl

end Shot

section Result
variable {total : Nat}

theorem injectorResult_badValue : injectorResult (i.val + 1) 0 s = (s, .refused .badValue) := by
  rw [injectorResult, injectorOf_val]; rfl

variable (ht : total ≠ 0)
include ht hc hs

theorem injectorResult_unready (h : p.shot.isSome = true ∨ p.shots = 0) :
    injectorResult (i.val + 1) total s = (s, .refused .wrongState) := by
  rw [injectorResult, injectorOf_val]; dsimp only
  rw [if_neg ht, hc, hs]
  refine if_pos ?_
  rw [Bool.or_eq_true, decide_eq_true_eq]; exact h

variable (hshot : p.shot = none) (hcount : p.shots ≠ 0)
include hshot hcount

theorem injectorResult_judged : injectorResult (i.val + 1) total s
    = if meterKAccepted (newMeterK p total) c.meterK then
        (s.setInjector i
          { s.injector i with
            config := some { c with meterK := newMeterK p total }
            state := .proving { p with shots := 0, pulseTotal := 0 } },
          .okWith (field 4 (newMeterK p total)))
      else (s, .badValueWith (field 4 (min 0xFFFFFFFF (newMeterK p total)))) := by
  rw [injectorResult, injectorOf_val]; dsimp only
  rw [if_neg ht, hc, hs]
  refine if_neg ?_
  rw [Bool.or_eq_true, decide_eq_true_eq, hshot]
  exact fun k => k.elim (fun k => Bool.false_ne_true k) hcount

end Result

theorem endProving_injector : endProving 1 (i.val + 1) s = endInjectorProving i s := by
  unfold endProving
  rw [injectorOf_val]
  cases armOf (i.val + 1) <;> rfl

include hs

theorem endInjectorProving_running (h : p.shot.isSome = true) :
    endInjectorProving i s = (s, .refused .wrongState) := by
  unfold endInjectorProving; rw [hs]; exact if_pos h

theorem endInjectorProving_ended (h : p.shot = none) : endInjectorProving i s
    = (offer i (s.setInjector i { s.injector i with state := .idle, creep := 0 }), .ok) := by
  unfold endInjectorProving; rw [hs]; dsimp only; rw [h]; rfl

end Proving

theorem meterKAccepted_iff {new old : Nat} : meterKAccepted new old = true ↔
    new * 10 ≤ old * 11 ∧ old * 9 ≤ new * 10 ∧ 100 ≤ new ∧ new ≤ 100000 := by
  rw [meterKAccepted, Bool.and_eq_true, Bool.and_eq_true, decide_eq_true_eq, decide_eq_true_eq,
    decide_eq_true_eq]
  unfold distance
  omega

/-! ### An injector that is not proving -/

section Elsewhere
variable (h : ∀ p, (s.injector i).state ≠ .proving p)
include h

theorem proveShot_wrongState : proveShot (i.val + 1) s = (s, .refused .wrongState) := by
  rw [proveShot, injectorOf_val]; dsimp only
  split
  · next hs => exact absurd hs (h _)
  · rfl

theorem injectorResult_wrongState {total : Nat} (ht : total ≠ 0) :
    injectorResult (i.val + 1) total s = (s, .refused .wrongState) := by
  rw [injectorResult, injectorOf_val]; dsimp only
  rw [if_neg ht]
  split
  · next hs => exact absurd hs (h _)
  · rfl

theorem endInjectorProving_wrongState : endInjectorProving i s = (s, .refused .wrongState) := by
  unfold endInjectorProving
  split
  · next hs => exact absurd hs (h _)
  · rfl

theorem proveTailTimeOut_elsewhere : proveTailTimeOut i s = s := by
  unfold proveTailTimeOut
  split
  · next hs => exact absurd hs (h _)
  · rfl

end Elsewhere

/-! ### The timers of a proving shot -/

section Timers
variable {p : ProvingRecord} {r : ProveShot} (hs : (s.injector i).state = .proving p)
  (hr : p.shot = some r)
include hs hr

theorem shotTimeOut_proving (hp : r.phase = .opened) (ht : r.timer.running = true) :
    shotTimeOut i s = s.setInjector i
      { s.injector i with state := .proving { p with shot := some (r.toTail .time) } } := by
  unfold shotTimeOut; rw [hs]; dsimp only; rw [hr]; exact if_pos ⟨hp, ht⟩

theorem shotTimeOut_provingTail (hp : r.phase = .tail) : shotTimeOut i s = s := by
  unfold shotTimeOut; rw [hs]; dsimp only; rw [hr]
  exact if_neg fun k => ShotPhase.noConfusion (hp.symm.trans k.1)

theorem proveTailTimeOut_opened (hp : r.phase = .opened) : proveTailTimeOut i s = s := by
  unfold proveTailTimeOut
  cases (s.injector i).config with
  | none => rfl
  | some c =>
    rw [hs]; dsimp only; rw [hr]
    exact if_neg fun k => ShotPhase.noConfusion (hp.symm.trans k.1)

theorem proveTailTimeOut_done {c : InjectorConfig} {e : ProveEnd}
    (hc : (s.injector i).config = some c) (hp : r.phase = .tail) (he : r.ended = some e)
    (ht : r.timer.running = true) (hml : measuredMl c r.pulses < 2 ^ 32) : proveTailTimeOut i s
      = post .proveShotDone 0 ((i.val + 1) * 256 + e.code) (measuredMl c r.pulses)
          (s.setInjector i
            { s.injector i with
              state := .proving { p with shots := min 65535 (p.shots + 1), shot := none } }) := by
  unfold proveTailTimeOut
  rw [hc, hs]; dsimp only
  rw [hr]; dsimp only
  rw [if_pos ⟨hp, ht⟩, he, endProveShot, fit_of_lt hml, injectorNumber]; rfl

end Timers
end Injector

/-! ### END PROVING of an arm's meter -/

section Meter
variable {s : State} (n : ArmId)

theorem endProving_meter : endProving 0 (n.val + 1) s = endMeterProving n s := by
  unfold endProving
  rw [armOf_val]; rfl

theorem endMeterProving_running (h : (s.arm n).inRun = true) :
    endMeterProving n s = (s, .refused .wrongState) := if_pos h

theorem endMeterProving_absent (h : (s.arm n).inRun = false) (hr : (s.arm n).result = none) :
    endMeterProving n s = (s, .refused .notFound) := by
  rw [endMeterProving, h, hr]; rfl

theorem endMeterProving_ended (h : (s.arm n).inRun = false) (hr : (s.arm n).result.isSome = true) :
    endMeterProving n s = (s.updArm n fun a => { a with result := none }, .ok) := by
  obtain ⟨r, hr⟩ := Option.isSome_iff_exists.mp hr
  rw [endMeterProving, h, hr]; rfl

end Meter

/-- Settles O50: each request by its checks in order, and the two timers by the phase of the shot. -/
theorem injectorProvingRuns : Obligations.InjectorProvingRuns := by
  unfold Obligations.InjectorProvingRuns
  refine ⟨fun f s i => ⟨fun h hr => ⟨fun hw => ?beginWrong, fun hc he hu => ?beginUsed,
      fun hc he hu => ?begins⟩, fun c p hc hs => ⟨fun h hr => ⟨fun hp => ?shotRuns,
        fun hp hrack => ?shotStopped, fun hp hrack => ?shotOpens⟩,
        fun r e hrun hp hph he ht hml => ?done,
        fun total h hr => ⟨fun h0 => ?noTotal, fun h0 hw => ?unready,
          fun h0 hp hn hbound => ⟨fun h1 h2 h3 h4 => ?accepted, fun hd => ?declined⟩⟩,
        fun h hr => ⟨fun hp => ?endRuns, fun hp => ?ends⟩⟩,
      fun n h hr => ⟨fun hrun => ?meterRuns, fun hrun hres => ?meterAbsent,
        fun hrun hres => ?meterEnds⟩⟩,
    fun f s i => ⟨fun hn => ⟨fun h hr => ?shotElsewhere, fun total ht h hr => ?resultElsewhere,
      fun h hr => ?endElsewhere, ?doneElsewhere⟩,
      fun p r hs hp hrun ht => ⟨fun hph => ⟨?opened, ?openedDone⟩, fun hph => ?tail⟩⟩⟩
  case beginWrong =>
    exact fixed_done h hr (beginInjectorProving_wrongState i
      (by rwa [frameTaken_injector, frameTaken_earnsNone]))
  case beginUsed =>
    exact fixed_done h hr (beginInjectorProving_inUse i (by rwa [frameTaken_injector])
      (by rwa [frameTaken_earnsNone]) (by rwa [frameTaken_batchUses]))
  case begins =>
    refine fixed_done h hr ((beginInjectorProving_begun i (by rwa [frameTaken_injector])
      (by rwa [frameTaken_earnsNone]) (by rwa [frameTaken_batchUses])).trans ?_)
    rw [State.setInjector, frameTaken_injector]
  case shotRuns =>
    exact fixed_done h hr (proveShot_running i (by rwa [frameTaken_injector])
      (by rwa [frameTaken_injector]) hp)
  case shotStopped =>
    exact fixed_done h hr (proveShot_stopped i (by rwa [frameTaken_injector])
      (by rwa [frameTaken_injector]) hp (by rwa [frameTaken_monitor]))
  case shotOpens =>
    refine fixed_done h hr ((proveShot_opens i (by rwa [frameTaken_injector])
      (by rwa [frameTaken_injector]) hp (by rwa [frameTaken_monitor])).trans ?_)
    rw [State.setInjector, frameTaken_injector]; rfl
  case done =>
    rw [exec, execProveShotDone, hrun, if_pos rfl, proveTailTimeOut_done i hs hp hc hph he ht hml]; rfl
  case noTotal => subst h0; exact fixed_done h hr (injectorResult_badValue i)
  case unready =>
    exact fixed_done h hr (injectorResult_unready i (by rwa [frameTaken_injector])
      (by rwa [frameTaken_injector]) h0 hw)
  case accepted =>
    have new : newMeterK p total = roundHalfUp (p.pulseTotal * 1000) total := by
      rw [newMeterK, fit_of_lt hbound]
    refine fixed_done h hr ((injectorResult_judged i (by rwa [frameTaken_injector])
      (by rwa [frameTaken_injector]) h0 hp hn).trans ?_)
    rw [new, if_pos (meterKAccepted_iff.mpr ⟨h1, h2, h3, h4⟩), State.setInjector,
      frameTaken_injector]
  case declined =>
    have new : newMeterK p total = roundHalfUp (p.pulseTotal * 1000) total := by
      rw [newMeterK, fit_of_lt hbound]
    refine fixed_done h hr ((injectorResult_judged i (by rwa [frameTaken_injector])
      (by rwa [frameTaken_injector]) h0 hp hn).trans ?_)
    rw [new, if_neg fun ha => ?_]
    · rfl
    · rw [meterKAccepted_iff] at ha; omega
  case endRuns =>
    exact fixed_done h hr ((endProving_injector i).trans
      (endInjectorProving_running i (by rwa [frameTaken_injector]) hp))
  case ends =>
    refine fixed_done h hr ((endProving_injector i).trans
      ((endInjectorProving_ended i (by rwa [frameTaken_injector]) hp).trans ?_))
    rw [State.setInjector, frameTaken_injector]
  case meterRuns =>
    exact fixed_done h hr ((endProving_meter n).trans
      (endMeterProving_running n (by rwa [frameTaken_arm])))
  case meterAbsent =>
    exact fixed_done h hr ((endProving_meter n).trans
      (endMeterProving_absent n (by rwa [frameTaken_arm]) (by rwa [frameTaken_arm])))
  case meterEnds =>
    refine fixed_done h hr ((endProving_meter n).trans
      ((endMeterProving_ended n (by rwa [frameTaken_arm]) (by rwa [frameTaken_arm])).trans ?_))
    rw [State.updArm, State.setArm, frameTaken_arm, frameTaken_arms]
  case shotElsewhere =>
    exact fixed_done h hr (proveShot_wrongState i (by rwa [frameTaken_injector]))
  case resultElsewhere =>
    exact fixed_done h hr (injectorResult_wrongState i (by rwa [frameTaken_injector]) ht)
  case endElsewhere =>
    exact fixed_done h hr ((endProving_injector i).trans
      (endInjectorProving_wrongState i (by rwa [frameTaken_injector])))
  case doneElsewhere => rw [exec, execProveShotDone, proveTailTimeOut_elsewhere i hn, ite_self]
  case opened => rw [exec_shotTimer hrun, shotTimeOut_proving i hs hp hph ht]; rfl
  case openedDone =>
    rw [exec, execProveShotDone, proveTailTimeOut_opened i hs hp hph, ite_self]
  case tail => rw [exec_shotTimer hrun, shotTimeOut_provingTail i hs hp hph]

end Sys2Proof.Machine
end

section
/-! SUPPORT AND PROOF. The console: its characters, and the records they end (R70, R71, R74). -/

namespace Sys2Proof.Machine

/-! ### Characters -/

section Characters
variable {s : State} {c : Byte}

theorem exec_consoleCharacter (hr : s.running = true) (c : Byte) :
    exec (.consoleCharacter c) s = .next (takeCharacter c s) := by
  rw [exec, execConsoleCharacter, if_pos hr]

theorem takeCharacter_lineFeed (s : State) : takeCharacter 0x0A s = s := if_pos rfl

theorem takeCharacter_dropped (hc : c ≠ 0x0D) (hd : s.console.dropping = true) :
    takeCharacter c s = s := by
  unfold takeCharacter; rw [hd, if_pos rfl, if_neg hc, ite_self]

theorem takeCharacter_endsDropping (hd : s.console.dropping = true) :
    takeCharacter 0x0D s = endDropping s := by
  unfold takeCharacter; rw [hd]; rfl

theorem endDropping_answers (hl : s.console.replies.length < 4) : endDropping s
    = answerForm { s with console.dropping := false } :=
  if_neg fun full => Nat.not_le.mpr hl (of_decide_eq_true full)

section Collecting
variable (hd : s.console.dropping = false)
include hd

theorem takeCharacter_return : takeCharacter 0x0D s
    = if s.console.buffer.isEmpty then s else takeRecord s := by
  unfold takeCharacter; rw [hd]; rfl

theorem takeCharacter_emptyReturn (hb : s.console.buffer = []) : takeCharacter 0x0D s = s := by
  rw [takeCharacter_return hd, hb]; rfl

theorem takeCharacter_record (hb : s.console.buffer ≠ []) : takeCharacter 0x0D s = takeRecord s := by
  rw [takeCharacter_return hd, if_neg (mt List.isEmpty_iff.mp hb)]

variable (ha : c ≠ 0x0A) (hc : c ≠ 0x0D)
include ha hc

theorem takeCharacter_ordinary : takeCharacter c s
    = if s.console.buffer.length < 40 then { s with console.buffer := s.console.buffer ++ [c] }
      else { s with console.buffer := [], console.dropping := true } := by
  unfold takeCharacter
  rw [if_neg ha, hd, if_neg Bool.false_ne_true, if_neg hc]; rfl

theorem recordOverflow_answered {rest : List Byte} (hr : s.running = true)
    (hfull : 40 ≤ s.console.buffer.length) (hl : s.console.replies.length < 4)
    (hrest : ∀ b ∈ rest, b ≠ 0x0D) : exec (.consoleRecordOverflow c rest) s
      = .next (answerForm { emptyBuffer s with console.dropping := false }) := by
  have plain : ordinary c = true := by rw [ordinary, decide_eq_true ha, decide_eq_true hc]; rfl
  have dropped : rest.all (· ≠ 0x0D) = true := by simpa using hrest
  have full : decide (Config.consoleBufferSize ≤ s.console.buffer.length) = true := decide_eq_true hfull
  rw [exec, execConsoleRecordOverflow, hr, hd, full, plain, dropped]
  exact congrArg Host.Outcome.next (endDropping_answers (s := emptyBuffer s) hl)

end Collecting

section Record
variable (hr : s.running = true) (hd : s.console.dropping = false) (hb : s.console.buffer ≠ [])
include hr hd hb

theorem recordReady_of : s.recordReady = true := by simp [State.recordReady, hr, hd, hb]

theorem malformedRecord_answered (hl : s.console.replies.length < 4)
    (hp : parseRecord s.console.buffer = none) :
    exec .consoleMalformedRecord s = .next (answerForm (emptyBuffer s))
      ∧ exec (.consoleCharacter 0x0D) s = exec .consoleMalformedRecord s := by
  have room : s.repliesFull = false := decide_eq_false (Nat.not_le.mpr hl)
  have answered : exec .consoleMalformedRecord s = .next (answerForm (emptyBuffer s)) := by
    rw [exec, execConsoleMalformedRecord, recordReady_of hr hd hb, room, hp]; rfl
  refine ⟨answered, ?_⟩
  rw [answered, exec_consoleCharacter hr, takeCharacter_record hd hb, takeRecord, room, hp]; rfl

theorem recordWhileFull_dropped (hl : 4 ≤ s.console.replies.length) :
    exec .recordWhileFourRepliesWait s = .next (emptyBuffer s)
      ∧ exec (.consoleCharacter 0x0D) s = exec .recordWhileFourRepliesWait s := by
  have full : s.repliesFull = true := decide_eq_true hl
  have dropped : exec .recordWhileFourRepliesWait s = .next (emptyBuffer s) := by
    rw [exec, execRecordWhileFourRepliesWait, recordReady_of hr hd hb, full]; rfl
  refine ⟨dropped, ?_⟩
  rw [dropped, exec_consoleCharacter hr, takeCharacter_record hd hb, takeRecord, full]; rfl

end Record
end Characters

/-- Settles O51: each character by the state of the port, and the two named record events. -/
theorem consoleCollectsRecords : Obligations.ConsoleCollectsRecords := by
  unfold Obligations.ConsoleCollectsRecords
  refine fun s hr => ⟨?lineFeed, fun hd hb => ?emptyReturn, fun c ha hc hd =>
      ⟨fun hroom => ?joins, fun hfull => ?drops, fun rest hfull hl hrest => ?overflow⟩,
    fun c hc hd => ?dropped, fun hd hl => ?endsDropping, fun hd hb hl hp => ?malformed,
    fun hd hb hl => ?full⟩
  case lineFeed => rw [exec_consoleCharacter hr, takeCharacter_lineFeed]
  case emptyReturn => rw [exec_consoleCharacter hr, takeCharacter_emptyReturn hd hb]
  case joins => rw [exec_consoleCharacter hr, takeCharacter_ordinary hd ha hc, if_pos hroom]
  case drops =>
    rw [exec_consoleCharacter hr, takeCharacter_ordinary hd ha hc, if_neg (Nat.not_lt.mpr hfull)]
  case overflow => rw [recordOverflow_answered hd ha hc hr hfull hl hrest]; rfl
  case dropped => rw [exec_consoleCharacter hr, takeCharacter_dropped hc hd]
  case endsDropping =>
    rw [exec_consoleCharacter hr, takeCharacter_endsDropping hd, endDropping_answers hl]; rfl
  case malformed => exact malformedRecord_answered hr hd hb hl hp
  case full => exact recordWhileFull_dropped hr hd hb hl

end Sys2Proof.Machine
end

section
/-! SUPPORT AND PROOF. The forms of the console's records, their requests, and the console's output (R71,
R72, R74). -/

namespace Sys2Proof.Machine

/-! ### Words -/

section Words

theorem splitSpaces_cons (l : List Byte) : ∃ k fields, splitSpaces l = k :: fields := by
  cases l with
  | nil => exact ⟨_, _, rfl⟩
  | cons c cs =>
    unfold splitSpaces
    split
    · exact ⟨_, _, rfl⟩
    · split <;> exact ⟨_, _, rfl⟩

theorem splitSpaces_append (a b : List Byte) :
    splitSpaces (a ++ 0x20 :: b) = splitSpaces a ++ splitSpaces b := by
  induction a with
  | nil => exact if_pos rfl
  | cons c a ih =>
    obtain ⟨k, fields, hk⟩ := splitSpaces_cons a
    rw [List.cons_append, splitSpaces, splitSpaces, ih, hk]
    split <;> rfl

theorem splitSpaces_word {w : List Byte} (h : ∀ c ∈ w, c ≠ 0x20) : splitSpaces w = [w] := by
  induction w with
  | nil => rfl
  | cons c w ih =>
    obtain ⟨hc, hw⟩ := List.forall_mem_cons.mp h
    rw [splitSpaces, if_neg hc, ih hw]

theorem splitSpaces_words {k : List Byte} {fields : List (List Byte)} (hk : ∀ c ∈ k, c ≠ 0x20)
    (hf : ∀ w ∈ fields, ∀ c ∈ w, c ≠ 0x20) :
    splitSpaces (k ++ (fields.map fun w => (0x20 : Byte) :: w).flatten) = k :: fields := by
  induction fields generalizing k with
  | nil => rw [List.map_nil, List.flatten_nil, List.append_nil, splitSpaces_word hk]
  | cons w fields ih =>
    obtain ⟨hw, hf⟩ := List.forall_mem_cons.mp hf
    rw [List.map_cons, List.flatten_cons, List.cons_append, splitSpaces_append, splitSpaces_word hk,
      ih hw hf]; rfl

theorem parseRecord_split {record k : List Byte} {fields : List (List Byte)}
    (h : splitSpaces record = k :: fields) : parseRecord record
      = if record.all printable then parseWords k (fields.filter (· ≠ [])) else none := by
  unfold parseRecord; rw [h]

theorem parseRecord_words {k : List Byte} {fields : List (List Byte)}
    (hk : ∀ c ∈ k, printable c = true ∧ c ≠ 0x20)
    (hf : ∀ w ∈ fields, w ≠ [] ∧ ∀ c ∈ w, printable c = true ∧ c ≠ 0x20) :
    parseRecord (k ++ (fields.map fun w => (0x20 : Byte) :: w).flatten) = parseWords k fields := by
  rw [parseRecord_split (splitSpaces_words (fun c hc => (hk c hc).2)
    fun w hw c hc => ((hf w hw).2 c hc).2), if_pos ?_, List.filter_eq_self.mpr ?_]
  · exact fun w hw => decide_eq_true (hf w hw).1
  · rw [List.all_eq_true]
    intro c hc
    obtain hc | hc := List.mem_append.mp hc
    · exact (hk c hc).1
    · obtain ⟨l, hl, hcl⟩ := List.mem_flatten.mp hc
      obtain ⟨w, hw, rfl⟩ := List.mem_map.mp hl
      obtain rfl | hcw := List.mem_cons.mp hcl
      · rfl
      · exact ((hf w hw).2 c hcw).1

/-- A further space adds an empty word, which is no field. -/
theorem parseRecord_space (a b : List Byte) :
    parseRecord (a ++ 0x20 :: 0x20 :: b) = parseRecord (a ++ 0x20 :: b)
      ∧ parseRecord (a ++ [0x20]) = parseRecord a := by
  obtain ⟨k, fields, hk⟩ := splitSpaces_cons a
  have twice : splitSpaces (a ++ 0x20 :: 0x20 :: b) = k :: (fields ++ [] :: splitSpaces b) := by
    rw [splitSpaces_append, hk]; exact congrArg (k :: fields ++ ·) (if_pos rfl)
  have once : splitSpaces (a ++ 0x20 :: b) = k :: (fields ++ splitSpaces b) := by
    rw [splitSpaces_append, hk]; rfl
  have last : splitSpaces (a ++ [0x20]) = k :: (fields ++ [[]]) := by
    rw [splitSpaces_append, hk]; rfl
  have blank : printable 0x20 = true := rfl
  rw [parseRecord_split twice, parseRecord_split once, parseRecord_split last, parseRecord_split hk]
  simp only [List.all_append, List.all_cons, blank, Bool.true_and, List.all_nil, Bool.and_true,
    List.filter_append, ne_eq, not_true_eq_false, decide_false, List.filter_cons_of_neg,
    Bool.false_eq_true, not_false_eq_true, List.filter_nil, List.append_nil, and_self]

theorem printable_iff {c : Byte} : printable c = true ↔ 0x20 ≤ c.toNat ∧ c.toNat ≤ 0x7E := by
  rw [printable, Bool.and_eq_true, decide_eq_true_eq, decide_eq_true_eq]

theorem parseRecord_unprintable {a : List Byte} (h : ∃ c ∈ a, c.toNat < 0x20 ∨ 0x7E < c.toNat) :
    parseRecord a = none := by
  refine if_neg fun all => ?_
  obtain ⟨c, hc, out⟩ := h
  have inside := printable_iff.mp (List.all_eq_true.mp all c hc)
  omega

end Words

/-! ### Fields -/

section Fields

/-- A word of digits is read, most significant first, exactly when each of its characters is one. -/
theorem readDigits_iff {digit : Byte → Option Nat} {value : Byte → Nat}
    (hv : ∀ c d, digit c = some d → value c = d) {base acc v : Nat} {w : List Byte} :
    readDigits digit base acc w = some v ↔
      (∀ c ∈ w, (digit c).isSome = true) ∧ v = w.foldl (fun a c => a * base + value c) acc := by
  induction w generalizing acc with
  | nil => exact ⟨fun h => ⟨nofun, (Option.some.inj h).symm⟩, fun h => congrArg some h.2.symm⟩
  | cons c w ih =>
    rw [readDigits, List.forall_mem_cons, List.foldl_cons]
    cases hd : digit c with
    | none => exact iff_of_false (nofun) fun h => Bool.false_ne_true h.1.1
    | some d =>
      dsimp only
      rw [ih, hv c d hd]
      exact ⟨fun ⟨h, e⟩ => ⟨⟨rfl, h⟩, e⟩, fun ⟨⟨_, h⟩, e⟩ => ⟨h, e⟩⟩

theorem decDigit_isSome {c : Byte} : (decDigit c).isSome = true ↔ 0x30 ≤ c.toNat ∧ c.toNat ≤ 0x39 := by
  unfold decDigit
  split
  · next h => exact iff_of_true rfl h
  · next h => exact iff_of_false Bool.false_ne_true h

theorem decDigit_value {c : Byte} {d : Nat} (h : decDigit c = some d) : c.toNat - 0x30 = d := by
  unfold decDigit at h
  split at h
  · exact Option.some.inj h
  · cases h

theorem decimalField_iff {w : List Byte} {v : Nat} : decimalField w = some v ↔
    1 ≤ w.length ∧ w.length ≤ 8 ∧ (∀ c ∈ w, 0x30 ≤ c.toNat ∧ c.toNat ≤ 0x39)
      ∧ v = w.foldl (fun a c => a * 10 + (c.toNat - 0x30)) 0 := by
  unfold decimalField
  split
  · next h => exact iff_of_false (nofun) fun ⟨h1, h8, _⟩ => by omega
  · next h =>
    rw [readDigits_iff fun c d => decDigit_value]
    simp only [decDigit_isSome]
    exact ⟨fun k => ⟨by omega, by omega, k⟩, fun ⟨_, _, k⟩ => k⟩

theorem cardField_iff {w : List Byte} {v : Nat} : cardField w = some v ↔
    w.length = 10 ∧ (∀ c ∈ w, (hexDigit c).isSome = true)
      ∧ v = w.foldl (fun a c => a * 16 + (hexDigit c).getD 0) 0 := by
  unfold cardField
  split
  · next h => exact iff_of_false (nofun) fun k => h k.1
  · next h =>
    rw [readDigits_iff (value := fun c => (hexDigit c).getD 0) fun c d hd => by rw [hd]; rfl]
    exact ⟨fun k => ⟨not_not.mp h, k⟩, fun k => k.2⟩

theorem hexDigit_iff {c : Byte} {d : Nat} : hexDigit c = some d ↔
    (0x30 ≤ c.toNat ∧ c.toNat ≤ 0x39 ∧ d = c.toNat - 0x30)
      ∨ (0x41 ≤ c.toNat ∧ c.toNat ≤ 0x46 ∧ d = c.toNat - 0x41 + 10)
      ∨ (0x61 ≤ c.toNat ∧ c.toNat ≤ 0x66 ∧ d = c.toNat - 0x61 + 10) := by
  unfold hexDigit
  split
  · rw [Option.some_inj]; omega
  · split
    · rw [Option.some_inj]; omega
    · split
      · rw [Option.some_inj]; omega
      · exact iff_of_false (nofun) (by omega)

theorem decimalFields_nil {fields : List (List Byte)} : decimalFields fields = some [] ↔ fields = [] := by
  cases fields with
  | nil => exact iff_of_true rfl rfl
  | cons w ws =>
    refine iff_of_false (fun h => ?_) (nofun)
    unfold decimalFields at h
    split at h <;> cases h

theorem decimalFields_cons {fields : List (List Byte)} {v : Nat} {vs : List Nat} :
    decimalFields fields = some (v :: vs) ↔
      ∃ w ws, fields = w :: ws ∧ decimalField w = some v ∧ decimalFields ws = some vs := by
  cases fields with
  | nil => exact iff_of_false (nofun) (nofun)
  | cons w ws =>
    rw [decimalFields]
    split
    · next n ns hn hns =>
      refine ⟨fun h => ?_, fun ⟨w', ws', he, hw, hws⟩ => ?_⟩
      · cases h; exact ⟨w, ws, rfl, hn, hns⟩
      · cases he
        rw [hn] at hw; rw [hns] at hws
        cases hw; cases hws; rfl
    · next hno =>
      refine iff_of_false (nofun) fun ⟨w', ws', he, hw, hws⟩ => ?_
      cases he
      exact hno v vs hw hws

theorem decimalFields_one {fields : List (List Byte)} {v : Nat} : decimalFields fields = some [v] ↔
    ∃ w, fields = [w] ∧ decimalField w = some v := by
  simp only [decimalFields_cons, decimalFields_nil]
  exact ⟨fun ⟨w, ws, he, hw, hn⟩ => ⟨w, hn ▸ he, hw⟩, fun ⟨w, he, hw⟩ => ⟨w, [], he, hw, rfl⟩⟩

theorem decimalFields_four {fields : List (List Byte)} {v1 v2 v3 v4 : Nat} :
    decimalFields fields = some [v1, v2, v3, v4] ↔ ∃ w1 w2 w3 w4, fields = [w1, w2, w3, w4]
      ∧ decimalField w1 = some v1 ∧ decimalField w2 = some v2 ∧ decimalField w3 = some v3
      ∧ decimalField w4 = some v4 := by
  rw [decimalFields_cons]
  simp only [decimalFields_cons, decimalFields_nil]
  constructor
  · rintro ⟨w1, _, rfl, h1, w2, _, rfl, h2, w3, _, rfl, h3, w4, _, rfl, h4, rfl⟩
    exact ⟨w1, w2, w3, w4, rfl, h1, h2, h3, h4⟩
  · rintro ⟨w1, w2, w3, w4, rfl, h1, h2, h3, h4⟩
    exact ⟨w1, _, rfl, h1, w2, _, rfl, h2, w3, _, rfl, h3, w4, _, rfl, h4, rfl⟩

end Fields

/-! ### Keywords -/

section Keywords
variable {k : List Byte} {fields : List (List Byte)} {q : ConsoleRequest}

/-- The keywords of section 4.8.1 differ. -/
theorem keywords_nodup : [ascii "CARD", ascii "VEH", ascii "PLAN", ascii "GO", ascii "HALT",
    ascii "AGAIN", ascii "DONE"].Nodup := by decide +kernel

/-- A record is one of the seven of section 4.8.1, with the values of its fields. -/
def Spells (k : List Byte) (fields : List (List Byte)) (q : ConsoleRequest) : Prop :=
  (∃ w v, k = ascii "CARD" ∧ fields = [w] ∧ cardField w = some v ∧ q = .card v)
    ∨ (∃ w v, k = ascii "VEH" ∧ fields = [w] ∧ decimalField w = some v ∧ q = .veh v)
    ∨ (∃ w1 w2 w3 w4 v1 v2 v3 v4, k = ascii "PLAN" ∧ fields = [w1, w2, w3, w4]
        ∧ decimalField w1 = some v1 ∧ decimalField w2 = some v2
        ∧ decimalField w3 = some v3 ∧ decimalField w4 = some v4
        ∧ q = .plan v1 v2 v3 v4)
    ∨ (∃ w v, k = ascii "GO" ∧ fields = [w] ∧ decimalField w = some v ∧ q = .go v)
    ∨ (∃ w v, k = ascii "HALT" ∧ fields = [w] ∧ decimalField w = some v ∧ q = .halt v)
    ∨ (∃ w v, k = ascii "AGAIN" ∧ fields = [w] ∧ decimalField w = some v ∧ q = .again v)
    ∨ (k = ascii "DONE" ∧ fields = [] ∧ q = .done)

theorem parseWords_card : parseWords (ascii "CARD") fields
    = match fields with
      | [w] => (cardField w).map .card
      | _ => none := if_pos rfl

/-- The records of a keyword other than CARD, whose fields are decimal. -/
theorem parseWords_decimal (h : k ≠ ascii "CARD") : parseWords k fields
    = (decimalFields fields).bind fun vs =>
        if k = ascii "VEH" then (match vs with | [v] => some (.veh v) | _ => none)
        else if k = ascii "PLAN" then
          (match vs with | [c, r, a, v] => some (.plan c r a v) | _ => none)
        else if k = ascii "GO" then (match vs with | [a] => some (.go a) | _ => none)
        else if k = ascii "HALT" then (match vs with | [a] => some (.halt a) | _ => none)
        else if k = ascii "AGAIN" then (match vs with | [a] => some (.again a) | _ => none)
        else if k = ascii "DONE" then (match vs with | [] => some .done | _ => none)
        else none := by
  unfold parseWords
  rw [if_neg h]
  cases decimalFields fields <;> rfl

theorem parseWords_spells (h : parseWords k fields = some q) : Spells k fields q := by
  by_cases hk : k = ascii "CARD"
  · subst hk
    rw [parseWords_card] at h
    split at h
    · obtain ⟨v, hv, rfl⟩ := Option.map_eq_some_iff.mp h
      exact .inl ⟨_, v, rfl, rfl, hv, rfl⟩
    · cases h
  · rw [parseWords_decimal hk] at h
    obtain ⟨vs, hvs, h⟩ := Option.bind_eq_some_iff.mp h
    refine .inr ?_
    split at h
    case isTrue hk =>
      split at h <;> cases h
      obtain ⟨w, rfl, hw⟩ := decimalFields_one.mp hvs
      exact .inl ⟨w, _, hk, rfl, hw, rfl⟩
    refine .inr ?_
    split at h
    case isTrue hk =>
      split at h <;> cases h
      obtain ⟨w1, w2, w3, w4, rfl, h1, h2, h3, h4⟩ := decimalFields_four.mp hvs
      exact .inl ⟨w1, w2, w3, w4, _, _, _, _, hk, rfl, h1, h2, h3, h4, rfl⟩
    refine .inr ?_
    split at h
    case isTrue hk =>
      split at h <;> cases h
      obtain ⟨w, rfl, hw⟩ := decimalFields_one.mp hvs
      exact .inl ⟨w, _, hk, rfl, hw, rfl⟩
    refine .inr ?_
    split at h
    case isTrue hk =>
      split at h <;> cases h
      obtain ⟨w, rfl, hw⟩ := decimalFields_one.mp hvs
      exact .inl ⟨w, _, hk, rfl, hw, rfl⟩
    refine .inr ?_
    split at h
    case isTrue hk =>
      split at h <;> cases h
      obtain ⟨w, rfl, hw⟩ := decimalFields_one.mp hvs
      exact .inl ⟨w, _, hk, rfl, hw, rfl⟩
    refine .inr ?_
    split at h
    case isTrue hk =>
      split at h <;> cases h
      exact ⟨hk, decimalFields_nil.mp hvs, rfl⟩
    cases h

theorem parseWords_of_spells (h : Spells k fields q) : parseWords k fields = some q := by
  have distinct := keywords_nodup
  simp only [List.nodup_cons, List.mem_cons, List.not_mem_nil, or_false, not_or] at distinct
  obtain ⟨⟨hc1, hc2, hc3, hc4, hc5, hc6⟩, ⟨hv1, hv2, hv3, hv4, hv5⟩, ⟨hp1, hp2, hp3, hp4⟩,
    ⟨hg1, hg2, hg3⟩, ⟨hh1, hh2⟩, ha, -⟩ := distinct
  obtain ⟨w, v, rfl, rfl, hw, rfl⟩ | ⟨w, v, rfl, rfl, hw, rfl⟩
    | ⟨w1, w2, w3, w4, v1, v2, v3, v4, rfl, rfl, h1, h2, h3, h4, rfl⟩ | ⟨w, v, rfl, rfl, hw, rfl⟩
    | ⟨w, v, rfl, rfl, hw, rfl⟩ | ⟨w, v, rfl, rfl, hw, rfl⟩ | ⟨rfl, rfl, rfl⟩ := h
  · rw [parseWords_card]; dsimp only
    rw [hw]; rfl
  · rw [parseWords_decimal (Ne.symm hc1), decimalFields_one.mpr ⟨w, rfl, hw⟩, Option.bind_some,
      if_pos rfl]
  · rw [parseWords_decimal (Ne.symm hc2), decimalFields_four.mpr ⟨w1, w2, w3, w4, rfl, h1, h2, h3, h4⟩,
      Option.bind_some, if_neg (Ne.symm hv1), if_pos rfl]
  · rw [parseWords_decimal (Ne.symm hc3), decimalFields_one.mpr ⟨w, rfl, hw⟩, Option.bind_some,
      if_neg (Ne.symm hv2), if_neg (Ne.symm hp1), if_pos rfl]
  · rw [parseWords_decimal (Ne.symm hc4), decimalFields_one.mpr ⟨w, rfl, hw⟩, Option.bind_some,
      if_neg (Ne.symm hv3), if_neg (Ne.symm hp2), if_neg (Ne.symm hg1), if_pos rfl]
  · rw [parseWords_decimal (Ne.symm hc5), decimalFields_one.mpr ⟨w, rfl, hw⟩, Option.bind_some,
      if_neg (Ne.symm hv4), if_neg (Ne.symm hp3), if_neg (Ne.symm hg2), if_neg (Ne.symm hh1),
      if_pos rfl]
  · rw [parseWords_decimal (Ne.symm hc6), decimalFields_nil.mpr rfl, Option.bind_some,
      if_neg (Ne.symm hv5), if_neg (Ne.symm hp4), if_neg (Ne.symm hg3), if_neg (Ne.symm hh2),
      if_neg (Ne.symm ha), if_pos rfl]

end Keywords

/-! ### Answers and output -/

theorem answerConsole_ok {a : Answer} (h : a.status = .ok) (u : State) : answerConsole a u
    = { u with console.replies := u.console.replies ++ [.ok] } := by
  unfold answerConsole Answer.consoleReply; rw [if_pos h, if_pos h]; rfl

theorem answerConsole_no {a : Answer} (h : a.status ≠ .ok) (u : State) : answerConsole a u
    = { u with
      console.replies := u.console.replies ++ [.no a.word], console.line2 := .refusal a.word } := by
  unfold answerConsole Answer.consoleReply; rw [if_neg h, if_neg h]; rfl

theorem beNat_field {v : Nat} (h : v < 65536) : beNat (field 2 v) = v := by
  have small : v < 2 ^ (8 * 2) := h
  rw [field, fit_of_lt small]
  simp only [be, beNat, List.nil_append, List.cons_append, List.foldl_cons, List.foldl_nil,
    BitVec.toNat_ofNat]
  omega

theorem answerPlan_granted {preset : Nat} (h : preset < 65536) (u : State) :
    answerPlan (.okWith (field 2 preset)) u = { u with
      console.replies := u.console.replies ++ [.ok], console.line2 := .granted preset } := by
  have shown : answerPlan (.okWith (field 2 preset)) u = setLine2 (.granted (beNat (field 2 preset)))
    (answerConsole (.okWith (field 2 preset)) u) := by
    unfold answerPlan; exact if_pos rfl
  rw [shown, beNat_field h, answerConsole_ok rfl]; rfl

theorem exec_consoleOutput {s : State} (hr : s.running = true) :
    exec .consoleOutput s = .next { s with console := s.console.afterOutput } := by
  rw [exec, execConsoleOutput, if_pos hr]

theorem afterOutput_output (c : Console) : c.afterOutput.output = [] := by
  unfold Console.output Console.afterOutput
  cases c.prompt <;> simp

/-- Settles O52: the seven requests by the record in the buffer, the output by the display last sent, and
the forms of the records by their words. -/
theorem consoleRequestsAndOutput : Obligations.ConsoleRequestsAndOutput := by
  unfold Obligations.ConsoleRequestsAndOutput
  refine ⟨fun s hr hd hb hl => ⟨fun c hp => ?card, fun v hp => ?veh, fun c r a v hp => ?plan,
      fun a hp => ?go, fun a hp => ?halt, fun a hp => ?again, fun hp => ?done,
      fun a u => ⟨fun h => answerConsole_ok h u, fun h => answerConsole_no h u,
        fun preset h => answerPlan_granted h u⟩⟩,
    fun s hr => ⟨_, exec_consoleOutput hr, ?sent, rfl, rfl, afterOutput_output s.console⟩,
    fun k fields hk hf => parseRecord_words hk hf, parseRecord_space,
    fun a h => parseRecord_unprintable h,
    fun k fields q => ⟨parseWords_spells, parseWords_of_spells⟩,
    fun w v => decimalField_iff, fun w v => cardField_iff, fun c d => hexDigit_iff⟩
  case sent =>
    cases hp : s.console.prompt <;> simp only [Console.afterOutput, Console.output, hp]
  all_goals have request := consoleRequest_of_record hr hd hb hl hp
  case card => rw [exec, execPresentCard, request]; rfl
  case veh => rw [exec, execNameVehicle, request]; rfl
  case plan => rw [exec, execPlanCompartment, request]; rfl
  case go => rw [exec, execStartArm, request]; rfl
  case halt => rw [exec, execStopArm, request]; rfl
  case again => rw [exec, execResumeArm, request]; rfl
  case done => rw [exec, execEndLoad, request]; rfl

end Sys2Proof.Machine
end

section
/-! SUPPORT AND PROOF. Loss of supply, RESET, the marker and the two starts: what each leaves, for a part
whose load was cut or not (R36, R126, R183 to R187). -/

namespace Sys2Proof.Machine

/-! ### Loss of supply and RESET -/

/-- The outputs while the part does not run (notes/assumptions/35.md). -/
theorem outputs_of_stopped {s : State} (h : s.running = false) : (∀ n, s.vcls n = true ∧ s.vopn n = false
    ∧ s.pmp n = false) ∧ (∀ i, s.inj i = false) ∧ s.attn = false ∧ s.ldir = false := by
  simp only [State.vcls, State.vopn, State.pmp, State.inj, State.attn, State.ldir, h, Bool.not_false,
    Bool.true_or, Bool.false_and, implies_true, and_self]

theorem stopWork_running {supply : Supply} (h : supply ≠ .running) (s : State) :
    (stopWork supply s).running = false := by
  cases supply with
  | running => exact absurd rfl h
  | _ => rfl

/-! ### DIV -/

section Diverter
variable {s : State} {i : InjId} {c : InjectorConfig}

theorem div_unconfigured (h : (s.injector i).config = none) : s.div i = false := by
  unfold State.div; rw [h]

theorem div_single (h : (s.injector i).config = some c) (h2 : c.secondArm = none) : s.div i = false := by
  unfold State.div; rw [h]; dsimp only; rw [h2]; rfl

theorem div_second {b : ArmId} (h : (s.injector i).config = some c) (h2 : c.secondArm = some b) :
    s.div i = true ↔ (s.injector i).diverter = b := by
  unfold State.div; rw [h]; dsimp only
  rw [h2, beq_iff_eq, Option.some_inj]; exact eq_comm

end Diverter

/-! ### Posts of a start-up -/

/-- Posts have been made, and nothing else has changed. -/
def Posted (s t : State) : Prop :=
  t = { s with port.events := t.port.events, port.overflow := t.port.overflow }

theorem Posted.refl (s : State) : Posted s s := rfl

theorem Posted.trans {s t u : State} (h : Posted s t) (k : Posted t u) : Posted s u := by
  unfold Posted at *
  rw [h] at k; exact k

theorem post_posted (k : EventKind) (a c v : Nat) (s : State) : Posted s (post k a c v s) := post_rest ..

theorem postInterrupted_posted (l : List ArmId) (s : State) :
    Posted s (l.foldl (fun u n => postInterrupted n u) s) := by
  induction l generalizing s with
  | nil => exact .refl s
  | cons n l ih => exact (post_posted ..).trans (ih _)

theorem postSealed_posted (r : Option OpenLoad) (s : State) : Posted s (postSealed r s) := by
  unfold postSealed
  split
  · exact post_posted ..
  · exact .refl s

/-- The close-out of a warm start, before its events (R187). -/
def State.closedOut (address : Byte) (baud : BitVec 2) (s : State) : State :=
  closeOutLoad (forArms closeOutArm (warmReset address baud s))

/-- The arms whose batch a warm start finds cut (R187). -/
def State.cutArms (s : State) : List ArmId := armIds.filter fun n => (s.arm n).beyondArmed && !(s.arm n).inRun

/-- The events of a warm start (R187). -/
def State.announced (cut : List ArmId) (r : Option OpenLoad) (s : State) : State :=
  postSealed r (cut.foldl (fun u n => postInterrupted n u) (post .powerRecovered 0 0 cut.length s))

theorem announced_posted (cut : List ArmId) (r : Option OpenLoad) (s : State) :
    Posted s (s.announced cut r) :=
  ((post_posted ..).trans (postInterrupted_posted ..)).trans (postSealed_posted ..)

/-! ### The reset of the transient records -/

section Reset
variable (address : Byte) (baud : BitVec 2) (s : State)

/-- The transient records at their start-up values, but for the permit. -/
theorem warmReset_rest : warmReset address baud s = { s with
    port := { RackPort.cold with
      station := address, baud := baud, silenceLimit := s.port.silenceLimit, clock := s.port.clock }
    console := Console.started
    permit := (warmReset address baud s).permit
    load.state := s.load.state.warm
    load.identTimer := .stopped, load.idleTimer := .stopped
    capture := none
    arms := s.arms.map Arm.warm
    monitor := s.monitor.restart
    injectors := s.injectors.map Injector.warm
    backup.supply := .running } := by
  unfold warmReset
  dsimp only
  split <;> rfl

theorem warmReset_permit : (warmReset address baud s).permit = { s.permit with
    referral := .empty, referralTimer := .stopped, held := none
    drivers := if s.port.clock.toNat / 86400 = s.permit.countDay then s.permit.drivers
      else s.permit.drivers.map fun d => { d with loadsToday := 0 }
    countDay := s.port.clock.toNat / 86400 } := by
  unfold warmReset
  dsimp only
  split
  · next h =>
    have day : s.port.clock.toNat / 86400 = s.permit.countDay := h
    rw [if_pos day, ← day]
  · next h =>
    have day : ¬ s.port.clock.toNat / 86400 = s.permit.countDay := h
    rw [if_neg day]; rfl

theorem warmReset_arm (n : ArmId) : (warmReset address baud s).arm n = (s.arm n).warm := by
  rw [warmReset_rest]; simp only [State.arm, Bank4.get_map]

theorem warmReset_cut :
    (armIds.filter fun n => ((warmReset address baud s).arm n).interrupted) = s.cutArms :=
  List.filter_congr fun n _ => by rw [warmReset_arm]; rfl

theorem warmStart_eq : warmStart address baud s = afterStartUp
    ((s.closedOut address baud).announced s.cutArms (s.load.record)) := by
  have record : (warmReset address baud s).load.record = s.load.record := by rw [warmReset_rest]
  rw [warmStart, warmReset_cut, record]; rfl

end Reset

/-! ### What every start-up leaves -/

/-- The accounts, the open load and the arms have changed, and nothing else. -/
def Settled (s t : State) : Prop :=
  t = { s with accounts := t.accounts, load.record := t.load.record, arms := t.arms }

theorem Settled.refl (s : State) : Settled s s := rfl

theorem Settled.trans {s t u : State} (h : Settled s t) (k : Settled t u) : Settled s u := by
  unfold Settled at *
  rw [h] at k; exact k

theorem closeOutArm_settled (n : ArmId) (s : State) : Settled s (closeOutArm n s) := by
  have updated : ∀ t, Settled s t → Settled s (t.updArm n Arm.toIdle) := fun t h => h.trans rfl
  unfold closeOutArm
  refine updated _ ?_
  split
  · exact (makeLine_rest .interrupted n s).1
  · split
    · exact .refl s
    · exact (cancelArmed_frame n s).1

theorem closeOut_settled (s : State) : Settled s (forArms closeOutArm s) :=
  forArms_invariant (fun t => Settled s t) closeOutArm (fun n t h => h.trans (closeOutArm_settled n t))
    (.refl s)

theorem closeOutLoad_none {s : State} (h : s.load.record = none) :
    closeOutLoad s = { s with load.state := .noLoad, console := Console.started } := by
  unfold closeOutLoad; rw [h]

theorem closeOutLoad_some {s : State} {r : OpenLoad} (h : s.load.record = some r) :
    closeOutLoad s = { s with
      store.notes := s.store.notes
        ++ [noteOf { r with endCause := some .powerInterrupted } .powerInterrupted s.port.clock]
      load.state := .noLoad, load.record := none, load.idleTimer := .stopped
      console := Console.started } := by
  unfold closeOutLoad; rw [h]; dsimp only; rw [storeNote_rest]

theorem closeOutLoad_rest (s : State) : closeOutLoad s = { s with
    console := Console.started, load := (closeOutLoad s).load, store := (closeOutLoad s).store } := by
  cases h : s.load.record with
  | none => rw [closeOutLoad_none h]
  | some r => rw [closeOutLoad_some h]

section Warm
variable (address : Byte) (baud : BitVec 2) (s : State)

/-- What a warm start leaves, but for its events, the close-out of the arms and the load, and the permit. -/
theorem warmStart_rest : warmStart address baud s = { s with
    port := { RackPort.cold with
      station := address, baud := baud, silenceLimit := s.port.silenceLimit, clock := s.port.clock
      events := (warmStart address baud s).port.events
      overflow := (warmStart address baud s).port.overflow }
    console := Console.started
    permit := (warmReset address baud s).permit
    accounts := (s.closedOut address baud).accounts
    load := (s.closedOut address baud).load
    capture := none
    arms := (s.closedOut address baud).arms.map Arm.startSampling
    monitor := s.monitor.restart.mapInputs Debounce.compare
    injectors := s.injectors.map Injector.warm
    store := (s.closedOut address baud).store
    backup.supply := .running } := by
  have closed : s.closedOut address baud = { warmReset address baud s with
      console := Console.started
      accounts := (s.closedOut address baud).accounts
      load := (s.closedOut address baud).load
      arms := (s.closedOut address baud).arms
      store := (s.closedOut address baud).store } := by
    unfold State.closedOut
    rw [closeOutLoad_rest, closeOut_settled (warmReset address baud s)]
  rw [warmReset_rest] at closed
  have posted := announced_posted s.cutArms s.load.record (s.closedOut address baud)
  unfold Posted at posted
  rw [warmStart_eq]
  generalize (s.closedOut address baud).announced s.cutArms s.load.record = v at posted ⊢
  rw [closed] at posted
  rw [posted]; rfl

theorem warmStart_arm (n : ArmId) : (warmStart address baud s).arm n
    = ((s.closedOut address baud).arm n).startSampling := by
  rw [warmStart_rest]; simp only [State.arm, Bank4.get_map]

theorem warmStart_events : (warmStart address baud s).port.events
    = ((s.closedOut address baud).announced s.cutArms s.load.record).port.events := by
  rw [warmStart_eq]; rfl

end Warm

/-! ### The cold start -/

theorem exec_startUp_warm {s : State} (h : s.backup.markerGood = true) (address : Byte) (baud : BitVec 2) :
    exec (.startUp address baud) s = .next (warmStart address baud s) := by
  rw [exec, execStartUp, if_pos h]

theorem exec_startUp_cold {s : State} (h : s.backup.markerGood = false) (address : Byte)
    (baud : BitVec 2) : exec (.startUp address baud) s = .next (coldStart address baud s) := by
  rw [exec, execStartUp, h]; rfl

theorem started_accepted (m : Monitor) (i : Input) :
    ((m.restart.mapInputs Debounce.compare).input i).accepted = 0 := by
  rw [mapInputs_input, Debounce.compare_accepted, restart_input]; rfl

theorem lineSpeed_of_baud {s : State} {baud : BitVec 2} (h : s.port.baud = baud) :
    (baud = 0 → s.lineSpeed = 19200) ∧ (baud = 1 → s.lineSpeed = 38400)
      ∧ (baud = 2 → s.lineSpeed = 57600) ∧ (baud = 3 → s.lineSpeed = 115200) := by
  rw [State.lineSpeed, h]
  exact ⟨fun h => h ▸ rfl, fun h => h ▸ rfl, fun h => h ▸ rfl, fun h => h ▸ rfl⟩

/-- Every start-up leaves the part running with the straps read (R3, R184). -/
theorem startUp_straps (address : Byte) (baud : BitVec 2) (s : State) :
    ∃ u, exec (.startUp address baud) s = .next u ∧ u.running = true
      ∧ u.port.station = address ∧ u.port.baud = baud := by
  cases h : s.backup.markerGood with
  | true =>
    refine ⟨_, exec_startUp_warm h address baud, ?_⟩
    rw [warmStart_rest]; exact ⟨rfl, rfl, rfl⟩
  | false => exact ⟨_, exec_startUp_cold h address baud, rfl, rfl, rfl⟩

/-- Settles O53: the two losses by `stopWork`, the marker, and the state that the cold start builds. -/
theorem supplyLossAndColdStart : Obligations.SupplyLossAndColdStart := by
  unfold Obligations.SupplyLossAndColdStart
  refine ⟨fun s => ?fail, fun s hs => ?reset, fun s hs => ?_,
    fun s i => ⟨div_unconfigured, fun c hc => ⟨div_single hc, fun b hb => div_second hc hb⟩⟩,
    fun s hs => ?_, fun s hs => ?_, fun address baud s hm => ?cold, fun address baud s => ?straps⟩
  case fail =>
    obtain ⟨arms, injectors, attn, ldir⟩ :=
      outputs_of_stopped (stopWork_running (supply := .off) Supply.noConfusion s)
    refine ⟨stopWork .off s, rfl, rfl, stopWork_arm .off s, rfl, rfl, fun n => ?_, injectors, attn, ldir,
      rfl, rfl, rfl, rfl, rfl, rfl, rfl⟩
    obtain ⟨vcls, vopn, pmp⟩ := arms n
    rw [stopWork_arm]
    exact ⟨rfl, rfl, vcls, vopn, pmp, rfl, rfl, rfl, rfl⟩
  case reset =>
    obtain ⟨arms, injectors, attn, ldir⟩ :=
      outputs_of_stopped (stopWork_running (supply := .reset) Supply.noConfusion s)
    refine ⟨stopWork .reset s, ?_, rfl, stopWork_arm .reset s, rfl, rfl, arms, injectors, attn, ldir,
      rfl, rfl, rfl, rfl⟩
    rw [exec, execResetAsserted, if_neg hs]
  case cold =>
    refine ⟨_, exec_startUp_cold hm address baud, rfl, rfl, rfl, rfl, rfl, rfl, rfl, rfl, rfl, rfl, rfl,
      rfl, (restart_latches s.monitor).1, (restart_latches s.monitor).2, fun i => ?_⟩
    exact started_accepted s.monitor i
  case straps =>
    obtain ⟨u, hu, running, station, hbaud⟩ := startUp_straps address baud s
    exact ⟨u, hu, running, station, lineSpeed_of_baud hbaud⟩
  · rw [exec, execResetAsserted, if_pos hs]
  · rw [exec, execMarkerLost, if_pos hs]
  · rw [exec, execMarkerLost, if_neg hs]

end Sys2Proof.Machine
end

section
/-! SUPPORT AND PROOF. A warm start of a part with no load and no batch (R36, R126, R138, R186). -/

namespace Sys2Proof.Machine

/-! ### The close-out of arms that have no batch -/

/-- The same turn for every arm, where a property that each turn keeps makes two turns equal. -/
theorem forArms_congr {P : State → Prop} {f g : ArmId → State → State}
    (h : ∀ n s, P s → f n s = g n s ∧ P (g n s)) {s : State} (hs : P s) : forArms f s = forArms g s := by
  unfold forArms
  generalize armIds = l
  induction l generalizing s with
  | nil => rfl
  | cons n l ih =>
    rw [List.foldl_cons, List.foldl_cons, (h n s hs).1]
    exact ih (h n s hs).2

theorem forArms_map (f : Arm → Arm) (s : State) :
    forArms (fun n u => u.updArm n f) s = { s with arms := s.arms.map f } := by
  simp only [forArms, armIds, List.foldl_cons, List.foldl_nil]; rfl

/-- No load, and no arm beyond ARMED in a batch. -/
def AtRest (s : State) : Prop := s.load.record = none ∧ ∀ n, (s.arm n).interrupted = false

theorem toIdle_interrupted (a : Arm) : a.toIdle.interrupted = false := rfl

theorem closeOutArm_atRest {s : State} (h : AtRest s) (n : ArmId) :
    closeOutArm n s = s.updArm n Arm.toIdle ∧ AtRest (s.updArm n Arm.toIdle) := by
  obtain ⟨record, whole⟩ := h
  refine ⟨?_, record, fun m => ?_⟩
  · have none : s.entryOf n = none := by rw [State.entryOf, State.plan, record]; rfl
    have kept : cancelArmed n s = s := by unfold cancelArmed; rw [none]
    rw [closeOutArm, whole n, if_neg Bool.false_ne_true, kept, ite_self]
  · rw [arm_updArm]
    split
    · exact toIdle_interrupted _
    · exact whole m

theorem closeOut_atRest {s : State} (h : AtRest s) :
    forArms closeOutArm s = { s with arms := s.arms.map Arm.toIdle } :=
  (forArms_congr (P := AtRest) (fun n _ h => closeOutArm_atRest h n) h).trans (forArms_map ..)

theorem closedOut_atRest {address : Byte} {baud : BitVec 2} {s : State}
    (h : AtRest (warmReset address baud s)) : s.closedOut address baud
      = { warmReset address baud s with
          arms := (s.arms.map Arm.warm).map Arm.toIdle
          load.state := .noLoad, console := Console.started } := by
  have arms : (warmReset address baud s).arms = s.arms.map Arm.warm := by rw [warmReset_rest]
  rw [State.closedOut, closeOut_atRest h]
  refine (closeOutLoad_none ?_).trans (by rw [arms])
  exact h.1

/-! ### The inputs after a start-up -/

section Inputs
variable {s : State} {i : Input}

theorem started_input (m : Monitor) (i : Input) : (m.restart.mapInputs Debounce.compare).input i
    = ((m.input i).restart i).compare i := by rw [mapInputs_input, restart_input]

theorem compare_restart_away {d : Debounce} (h : rawValue i d.levels ≠ 0) : (d.restart i).compare i
    = (d.restart i).rawChange (rawValue i d.levels) := if_neg h

theorem compare_restart_at {d : Debounce} (h : rawValue i d.levels = 0) :
    (d.restart i).compare i = d.restart i := if_pos h

theorem restart_rawChange {d : Debounce} {v : Nat} (h : v ≠ 0) : (d.restart i).rawChange v
    = { d.restart i with candidate := some v, window := ((d.restart i).rawChange v).window }
      ∧ ((d.restart i).rawChange v).window.running = true := by
  have change : (d.restart i).rawChange v = _ := if_neg h
  rw [change]; exact ⟨rfl, rfl⟩

end Inputs

section Warm
variable (address : Byte) (baud : BitVec 2) {s : State}

/-- The part of the statement that its premises put at rest. -/
theorem warmReset_atRest (hr : s.load.record = none)
    (ha : ∀ n, (s.arm n).control.state = .idle ∨ (s.arm n).inRun = true) :
    AtRest (warmReset address baud s) := by
  refine ⟨by rw [warmReset_rest]; exact hr, fun n => ?_⟩
  rw [warmReset_arm]
  have same : (s.arm n).warm.interrupted = ((s.arm n).beyondArmed && !(s.arm n).inRun) := rfl
  rw [same]
  obtain h | h := ha n
  · rw [Arm.beyondArmed, h]; rfl
  · rw [h, Bool.not_true, Bool.and_false]

theorem cutArms_atRest (ha : ∀ n, (s.arm n).control.state = .idle ∨ (s.arm n).inRun = true) :
    s.cutArms = [] := by
  refine List.filter_eq_nil_iff.mpr fun n _ => ?_
  obtain h | h := ha n
  · rw [Arm.beyondArmed, h]; exact Bool.false_ne_true
  · rw [h, Bool.not_true, Bool.and_false]; exact Bool.false_ne_true

/-- The one event of a warm start at rest. -/
theorem announced_atRest (h : AtRest (warmReset address baud s)) (hr : s.load.record = none)
    (hcut : s.cutArms = []) : (warmStart address baud s).port = { RackPort.cold with
      station := address, baud := baud, silenceLimit := s.port.silenceLimit
      clock := s.port.clock
      events := [{ kind := .powerRecovered, arm := 0, code := 0, value := 0,
                   clock := s.port.clock }] } := by
  have port : (s.closedOut address baud).port = { RackPort.cold with
      station := address, baud := baud, silenceLimit := s.port.silenceLimit
      clock := s.port.clock } := by
    rw [closedOut_atRest h, warmReset_rest]
  have announced : (warmStart address baud s).port
      = (post .powerRecovered 0 0 0 (s.closedOut address baud)).port := by
    rw [warmStart_eq, hcut, hr]; rfl
  rw [announced, post_room (by rw [port]; exact Nat.zero_lt_succ 31)]
  dsimp only
  rw [port]; rfl

theorem warmStart_armAtRest (h : AtRest (warmReset address baud s)) (n : ArmId) :
    (warmStart address baud s).arm n = (s.arm n).warm.toIdle.startSampling := by
  rw [warmStart_arm, closedOut_atRest h]
  simp only [State.arm, Bank4.get_map]

end Warm

/-- Settles O54: the close-out finds nothing to close, and the rest is the reset of the transients. -/
theorem warmStartKeepsTheRecords : Obligations.WarmStartKeepsTheRecords := by
  unfold Obligations.WarmStartKeepsTheRecords
  intro address baud s hm hr ha _ _
  have rest := warmReset_atRest address baud hr ha
  have whole := warmStart_rest address baud s
  have closed := closedOut_atRest rest
  refine ⟨_, exec_startUp_warm hm address baud,
    announced_atRest address baud rest hr (cutArms_atRest ha), by rw [whole], ?permit, ?load,
    ?accounts, by rw [whole], by rw [whole], by rw [whole], ?store, by rw [whole], ?backup, fun n => ?arm,
    fun i => ?injector, ?ok, ?latch, fun i => ?input⟩
  case permit => rw [whole]; exact warmReset_permit address baud s
  case load => rw [whole]; dsimp only; rw [closed, warmReset_rest]
  case accounts => rw [whole]; dsimp only; rw [closed, warmReset_rest]
  case store => rw [whole]; dsimp only; rw [closed, warmReset_rest]
  case backup => rw [whole, ← hm]
  case arm =>
    rw [warmStart_armAtRest address baud rest]
    refine ⟨rfl, rfl, rfl, rfl, rfl, rfl, ⟨rfl, rfl, rfl⟩, rfl, rfl, rfl, rfl, ?_, rfl⟩
    have timer : (s.arm n).warm.toIdle.startSampling.sampleTimer
        = if (s.arm n).config.isSome then .start 100 else .stopped := rfl
    rw [timer]
    cases (s.arm n).config with
    | none => exact iff_of_false Bool.false_ne_true Bool.false_ne_true
    | some c => exact iff_of_true rfl rfl
  case injector =>
    have injector : (warmStart address baud s).injector i = (s.injector i).warm := by
      rw [whole]; simp only [State.injector, Bank6.get_map]
    rw [injector]
    exact ⟨rfl, rfl, rfl, rfl, rfl, fun c hc => by rw [Injector.warm, hc]; rfl⟩
  case ok => rw [whole]; exact (restart_latches s.monitor).1
  case latch => rw [whole]; exact (restart_latches s.monitor).2
  case input =>
    have input : (warmStart address baud s).monitor.input i
        = ((s.monitor.input i).restart i).compare i := by
      rw [whole]; exact started_input s.monitor i
    rw [input]
    by_cases h : rawValue i (s.monitor.input i).levels = 0
    · rw [compare_restart_at h]
      exact ⟨rfl, rfl, fun k => absurd h k, fun _ => rfl⟩
    · obtain ⟨change, window⟩ := restart_rawChange (i := i) (d := s.monitor.input i) h
      rw [compare_restart_away h]
      refine ⟨by rw [change]; rfl, by rw [change]; rfl, fun _ => ⟨by rw [change], window⟩,
        fun k => absurd k h⟩

end Sys2Proof.Machine
end

section
/-! SUPPORT AND PROOF. A warm start of a part whose load was cut: the close-out of its arms in ascending
number, the note and the events (R45, R46, R61, R97, R187). -/

namespace Sys2Proof.Machine

/-! ### What the close-out of an arm charges, and the line it makes -/

/-- The charge or the release of an arm's entry at the close-out (R45, R46, R187). -/
def State.chargeCut (s : State) (r : OpenLoad) (t : State) (n : ArmId) : State :=
  match r.plan.find? (fun x => x.arm == n) with
  | none => t
  | some e =>
    match s.recipeProduct e.recipe with
    | none => t
    | some q => State.updAllocation t r.account q.productClass fun x =>
        if (s.arm n).beyondArmed then
          x.charged e.reservation (litres (s.arm n).figures.standard)
        else { x with reserved := x.reserved - e.reservation }

/-- The accounts once some arms are closed out, in their order. -/
def State.chargedFor (s : State) (r : OpenLoad) (ns : List ArmId) : State := ns.foldl (s.chargeCut r) s

/-- The arms before an arm. -/
def before (n : ArmId) : List ArmId := armIds.filter (· < n)

/-- The INTERRUPTED line of an arm whose batch was cut (R187). -/
def State.cutLine (s : State) (r : OpenLoad) (n : ArmId) : Option Line :=
  if (s.arm n).beyondArmed then
    (r.plan.find? (fun x => x.arm == n)).bind fun e =>
      (s.recipeProduct e.recipe).map fun q =>
        lineOf e q .interrupted (overAllocationOf ((s.chargedFor r (before n)).account r.account)
          q.productClass e.reservation (litres (s.arm n).figures.standard)) (s.arm n)
  else none

/-- An arm after the close-out (R97, R187). -/
def Arm.closedOut (a : Arm) : Arm :=
  { a.warm with totals.standard := a.totals.standard + if a.beyondArmed then a.figures.standard else 0 }.toIdle

/-- How far the close-out has come: some arms are closed out, the others are as the reset left them. -/
structure Progress (s w : State) (r : OpenLoad) (l : List ArmId) (u : State) : Prop where
  settled : Settled w u
  accounts : u.accounts = (s.chargedFor r l).accounts
  record : u.load.record = some { r with
    plan := r.plan.filter fun e => e.arm ∉ l, lines := r.lines ++ l.filterMap (s.cutLine r) }
  closed : ∀ n ∈ l, u.arm n = (s.arm n).closedOut
  open_ : ∀ n, n ∉ l → u.arm n = (s.arm n).warm

section CutLoad
variable {address : Byte} {baud : BitVec 2} {s u : State} {r : OpenLoad} {n : ArmId} {l : List ArmId}

theorem chargeCut_accounts {t v : State} (h : v.accounts = t.accounts) :
    (s.chargeCut r v n).accounts = (s.chargeCut r t n).accounts := by
  unfold State.chargeCut
  split
  · exact h
  · split
    · exact h
    · simp only [State.updAllocation, h]

theorem account_congr {t v : State} (h : v.accounts = t.accounts) (k : Nat) : v.account k = t.account k := by
  rw [State.account, State.account, h]

theorem find?_open (hn : n ∉ l) : (r.plan.filter fun e => e.arm ∉ l).find? (fun x => x.arm == n)
    = r.plan.find? (fun x => x.arm == n) := by
  rw [List.find?_filter]
  congr 1
  funext e
  by_cases h : e.arm = n
  · rw [h]; simp [hn]
  · simp [h]

theorem filter_next (l : List ArmId) (n : ArmId) : (r.plan.filter fun e => e.arm ∉ l).filter (·.arm ≠ n)
    = r.plan.filter fun e => e.arm ∉ l ++ [n] := by
  rw [List.filter_filter]
  refine List.filter_congr fun e _ => ?_
  simp only [List.mem_append, List.mem_singleton, not_or, ne_eq, Bool.decide_and]
  exact Bool.and_comm ..

theorem Progress.next (h : Progress s (warmReset address baud s) r l u) {accounts : List Account}
    {record : Option OpenLoad} (ha : accounts = (s.chargedFor r (l ++ [n])).accounts)
    (hr : record = some { r with
      plan := r.plan.filter fun e => e.arm ∉ l ++ [n]
      lines := r.lines ++ (l ++ [n]).filterMap (s.cutLine r) }) :
    Progress s (warmReset address baud s) r (l ++ [n]) { u with
      accounts := accounts, load.record := record, arms := u.arms.set n (s.arm n).closedOut } := by
  refine ⟨h.settled.trans rfl, ha, hr, fun m hm => ?_, fun m hm => ?_⟩
  · by_cases hmn : m = n
    · subst hmn; exact Bank4.get_set_same ..
    · refine (Bank4.get_set_of_ne _ _ hmn).trans (h.closed m ?_)
      exact (List.mem_append.mp hm).resolve_right fun k => hmn (List.mem_singleton.mp k)
  · have hmn : m ≠ n := by
      rintro rfl; exact hm (List.mem_append_right l (List.mem_singleton_self m))
    exact (Bank4.get_set_of_ne _ _ hmn).trans (h.open_ m fun k => hm (List.mem_append_left [n] k))

theorem chargedFor_append (l : List ArmId) (n : ArmId) :
    s.chargedFor r (l ++ [n]) = s.chargeCut r (s.chargedFor r l) n := by
  rw [State.chargedFor, List.foldl_append]; rfl

/-- The line of a batch does not read what the reset of the transient records changes (R174). -/
theorem lineOf_warm (e : PlanEntry) (q : Product) (o : BatchOutcome) (v : Nat) (a : Arm) :
    lineOf e q o v a.warm = lineOf e q o v a := by
  have short : a.warm.components.any (Component.fellShort a.figures.gross)
      = a.components.any (Component.fellShort a.figures.gross) := by
    rw [show a.warm.components = a.components.map Component.discard from rfl, List.any_map]; rfl
  have entries : a.warm.components.map (Component.entry a.figures.gross)
      = a.components.map (Component.entry a.figures.gross) := by
    rw [show a.warm.components = a.components.map Component.discard from rfl, List.map_map]; rfl
  unfold lineOf
  rw [show a.warm.figures = a.figures from rfl, short, entries]; rfl

/-- A load that is OPEN or ENDING has no meter run beside it (R160). -/
theorem PlanSound.arm_no_run (hp : PlanSound s) (hs : s.load.state ≠ .noLoad) (n : ArmId) :
    (s.arm n).inRun = false := by
  refine Bool.eq_false_iff.mpr fun run => Bool.false_ne_true ?_
  exact (hp.no_run hs).symm.trans (meterRun_iff.mpr ⟨n, run⟩)

section Premises
variable (hr : s.load.record = some r) (hs : s.load.state ≠ .noLoad)
  (hp : PlanSound s)

include hr hs hp

/-- The entry of an arm at a loss of supply: of a batch that is cut, of an ARMED arm, or none. -/
theorem cut_cases (n : ArmId) :
    (∃ e q, r.plan.find? (fun x => x.arm == n) = some e ∧ e.arm = n ∧ e ∈ r.plan
        ∧ s.recipeProduct e.recipe = some q
        ∧ ((s.arm n).beyondArmed = true ∨ ((s.arm n).beyondArmed = false ∧ e.state = .armed)))
      ∨ (r.plan.find? (fun x => x.arm == n) = none ∧ (s.arm n).beyondArmed = false) := by
  have plan : s.plan = r.plan := by rw [State.plan, hr]; rfl
  by_cases idle : (s.arm n).control.state = .idle
  · refine .inr ⟨List.find?_eq_none.mpr fun e he => ?_, by rw [Arm.beyondArmed, idle]; rfl⟩
    rw [← plan] at he
    simpa using (hp.idle_arm idle).2 e he
  · obtain ⟨e, he, hn, hentry⟩ := hp.planned idle (hp.arm_no_run hs n)
    obtain ⟨-, -, -, entries, -⟩ := hp
    obtain ⟨-, agrees, known⟩ := entries e he
    obtain ⟨q, hq⟩ := Option.isSome_iff_exists.mp known
    rw [State.entryOf, plan] at hentry
    refine .inl ⟨e, q, hentry, hn, plan ▸ he, hq, ?_⟩
    rw [EntryAgrees, hn] at agrees
    cases hst : e.state with
    | armed =>
      rw [hst] at agrees
      exact .inr ⟨by rw [Arm.beyondArmed, agrees]; rfl, rfl⟩
    | active => rw [hst] at agrees; exact .inl agrees

variable (hb : ∀ n, (s.arm n).totals.standard + (s.arm n).figures.standard < 2 ^ 64)
include hb

/-- The close-out of one arm, once those before it are closed out. -/
theorem Progress.step (h : Progress s (warmReset address baud s) r (before n) u) :
    Progress s (warmReset address baud s) r (before n ++ [n]) (closeOutArm n u) := by
  have fresh : n ∉ before n := by simp [before]
  have arm : u.arm n = (s.arm n).warm := h.open_ n fresh
  have run : (u.arm n).inRun = false := by rw [arm]; exact hp.arm_no_run hs n
  have products : ∀ code, u.recipeProduct code = s.recipeProduct code := by
    intro code
    have same : u.recipes = s.recipes ∧ u.products = s.products := by
      rw [h.settled, warmReset_rest]; exact ⟨rfl, rfl⟩
    rw [State.recipeProduct, State.recipe, same.1, same.2]; rfl
  have whole : (u.arm n).interrupted = (s.arm n).beyondArmed := by
    rw [Arm.interrupted, Arm.inBatch, run, Bool.not_false, Bool.and_true, arm]; rfl
  obtain ⟨e, q, hfind, hearm, hmem, hq, hcase⟩ | ⟨hfind, hnot⟩ := cut_cases hr hs hp n
  · have hfind' := (find?_open (r := r) fresh).trans hfind
    have known : u.recipeProduct e.recipe = some q := (products _).trans hq
    obtain hcut | ⟨hnot, harmed⟩ := hcase
    · have closed : (u.arm n).totalized.toIdle = (s.arm n).closedOut := by
        have room : (s.arm n).warm.totals.standard + (s.arm n).warm.figures.standard < 2 ^ 64 := hb n
        rw [arm, Arm.totalized, fit_of_lt room, Arm.closedOut, hcut]; rfl
      have line : s.cutLine r n = some (lineOf e q .interrupted
          (overAllocationOf (u.account r.account) q.productClass e.reservation
            (litres (u.arm n).figures.standard)) (u.arm n)) := by
        rw [State.cutLine, if_pos hcut, hfind, Option.bind_some, hq, Option.map_some, arm, lineOf_warm,
          account_congr h.accounts]; rfl
      have turn := makeLine_made h.record hfind' known .interrupted
      rw [closeOutArm, whole, hcut, if_pos rfl, turn]
      simp only [State.updArm, State.setArm, State.arm, Bank4.get_set_same, Bank4.set_set]
      rw [show u.arms.get n = u.arm n from rfl, closed]
      refine h.next ?_ (congrArg some ?_)
      · rw [chargedFor_append, State.chargeCut, hfind]
        dsimp only
        rw [hq]
        simp only [hcut, if_true, State.chargedAccounts, State.updAllocation, h.accounts, arm]
        rfl
      · rw [OpenLoad.lined, filter_next, List.filterMap_append, List.filterMap_cons_some line,
          List.filterMap_nil, List.append_assoc]
    · have idle : (u.arm n).toIdle.toIdle = (s.arm n).closedOut := by
        rw [arm, Arm.closedOut, hnot]; rfl
      have unlined : s.cutLine r n = none := by rw [State.cutLine, hnot]; rfl
      have turn := cancelArmed_eq h.record hfind' harmed known
      rw [closeOutArm, whole, hnot, if_neg Bool.false_ne_true, run, if_neg Bool.false_ne_true, turn]
      simp only [State.updArm, State.setArm, State.arm, Bank4.get_set_same, Bank4.set_set]
      rw [show u.arms.get n = u.arm n from rfl, idle]
      refine h.next ?_ (congrArg some ?_)
      · rw [chargedFor_append, State.chargeCut, hfind]
        dsimp only
        rw [hq]
        simp only [hnot, Bool.false_eq_true, if_false, State.updAllocation, h.accounts]
      · rw [filter_next, List.filterMap_append, List.filterMap_cons_none unlined, List.filterMap_nil,
          List.append_nil]
  · have idle : (u.arm n).toIdle = (s.arm n).closedOut := by rw [arm, Arm.closedOut, hnot]; rfl
    have unlined : s.cutLine r n = none := by rw [State.cutLine, hnot]; rfl
    have entry : u.entryOf n = none := by
      rw [State.entryOf, State.plan, h.record]; exact (find?_open fresh).trans hfind
    have kept : cancelArmed n u = u := by unfold cancelArmed; rw [entry]
    rw [closeOutArm, whole, hnot, if_neg Bool.false_ne_true, run, if_neg Bool.false_ne_true, kept,
      State.updArm, State.setArm, idle]
    refine h.next (record := u.load.record) (accounts := u.accounts) ?_ (h.record.trans (congrArg some ?_))
    · rw [chargedFor_append, State.chargeCut, hfind]; exact h.accounts
    · have unplanned : (r.plan.filter fun e => e.arm ∉ before n).filter (·.arm ≠ n)
          = r.plan.filter fun e => e.arm ∉ before n := List.filter_eq_self.mpr fun e he => by
        simpa using List.find?_eq_none.mp hfind e (List.mem_of_mem_filter he)
      rw [← filter_next, unplanned, List.filterMap_append, List.filterMap_cons_none unlined,
        List.filterMap_nil, List.append_nil]

/-- The close-out of every arm. -/
theorem closeOut_progress : Progress s (warmReset address baud s) r armIds
    (forArms closeOutArm (warmReset address baud s)) := by
  have start : Progress s (warmReset address baud s) r (before 0) (warmReset address baud s) := by
    refine ⟨.refl _, by rw [warmReset_rest]; rfl, ?_, nofun,
      fun n _ => warmReset_arm address baud s n⟩
    rw [warmReset_rest]
    refine hr.trans (congrArg some ?_)
    rw [show before 0 = [] from rfl, List.filterMap_nil, List.append_nil, List.filter_eq_self.mpr
      fun e _ => decide_eq_true List.not_mem_nil]
  have first := start.step hr hs hp hb
  have second := Progress.step (n := 1) hr hs hp hb first
  have third := Progress.step (n := 2) hr hs hp hb second
  exact Progress.step (n := 3) hr hs hp hb third

end Premises

/-! ### The lines, and the events of the start-up -/

/-- The BATCH ENDED of an INTERRUPTED line (R187). -/
def State.endedRecord (s : State) (n : ArmId) : Event :=
  { kind := .batchEnded, arm := n.val + 1, code := 5, value := (s.arm n).figures.gross,
    clock := s.port.clock }

/-- The POWER RECOVERED of a start-up with some lines (R187). -/
def State.recoveredRecord (s : State) (lines : Nat) : Event :=
  { kind := .powerRecovered, arm := 0, code := 0, value := lines, clock := s.port.clock }

/-- The LOAD SEALED of a load that was cut (R187). -/
def State.sealedRecord (s : State) (note : Nat) : Event :=
  { kind := .loadSealed, arm := 0, code := 4, value := note, clock := s.port.clock }

theorem postInterrupted_events (l : List ArmId) (t : State)
    (room : t.port.events.length + l.length ≤ 32) :
    (l.foldl (fun u n => postInterrupted n u) t).port.events
      = t.port.events ++ l.map t.endedRecord := by
  induction l generalizing t with
  | nil => exact (List.append_nil _).symm
  | cons n l ih =>
    rw [List.length_cons] at room
    have posted : postInterrupted n t = { t with
        port.events := t.port.events ++ [t.endedRecord n] } := post_room (by omega) ..
    have space : (postInterrupted n t).port.events.length + l.length ≤ 32 := by
      rw [posted]; simp only [List.length_append, List.length_singleton]; omega
    rw [List.foldl_cons, ih _ space, posted, List.map_cons, List.append_assoc]
    rfl

/-- The events of the start-up of a part whose load was cut (R187). -/
theorem announced_events {cut : List ArmId} {c : State} (hc : c.port.events = []) (few : cut.length ≤ 4)
    (r : OpenLoad) : (c.announced cut (some r)).port.events
      = [c.recoveredRecord cut.length] ++ cut.map c.endedRecord ++ [c.sealedRecord r.note] := by
  have first : post .powerRecovered 0 0 cut.length c = { c with
      port.events := [c.recoveredRecord cut.length] } := by
    rw [post_room (by rw [hc]; exact Nat.zero_lt_succ 31), hc]; rfl
  have ended := postInterrupted_events cut (post .powerRecovered 0 0 cut.length c)
    (by rw [first, List.length_singleton]; omega)
  have kept := postInterrupted_posted cut (post .powerRecovered 0 0 cut.length c)
  rw [first] at ended kept
  rw [State.announced, postSealed, first]
  generalize cut.foldl _ _ = t at ended kept ⊢
  have clock : t.port.clock = c.port.clock := by rw [kept]
  have room : t.port.events.length < 32 := by
    rw [ended, List.length_append, List.length_map, List.length_singleton]; omega
  rw [post_room room, clock, ended]; rfl

/-- The lines are those of the arms whose batch was cut, in ascending number. -/
theorem filterMap_map_eq {α β : Type} {f : α → Option β} {g : β → α} {p : α → Bool}
    (h1 : ∀ a, p a = true → ∃ b, f a = some b ∧ g b = a) (h0 : ∀ a, p a = false → f a = none)
    (l : List α) : (l.filterMap f).map g = l.filter p := by
  induction l with
  | nil => rfl
  | cons a l ih =>
    cases h : p a with
    | true =>
      obtain ⟨b, hb, hg⟩ := h1 a h
      rw [List.filterMap_cons_some hb, List.map_cons, hg, ih, List.filter_cons_of_pos h]
    | false =>
      rw [List.filterMap_cons_none (h0 a h), ih, List.filter_cons_of_neg (Bool.eq_false_iff.mp h)]

end CutLoad

/-- Settles O55: the close-out by its turns in ascending number, and the note and the events from them. -/
theorem warmStartClosesOutTheLoad : Obligations.WarmStartClosesOutTheLoad := by
  unfold Obligations.WarmStartClosesOutTheLoad
  intro address baud s r hm hr hl hp hb
  have hs : s.load.state ≠ .noLoad := by
    obtain h | h := hl <;> rw [h] <;> exact LoadState.noConfusion
  dsimp only
  have progress := closeOut_progress (address := address) (baud := baud) hr hs hp hb
  have whole := warmStart_rest address baud s
  have closed := closeOutLoad_some progress.record
  have lines : (armIds.filterMap (s.cutLine r)).map (·.arm)
      = armIds.filter fun n => (s.arm n).beyondArmed := by
    refine filterMap_map_eq (fun n hn => ?_) (fun n hn => by rw [State.cutLine, hn]; rfl) armIds
    obtain ⟨e, q, hfind, hearm, -, hq, -⟩ | ⟨-, hnot⟩ := cut_cases hr hs hp n
    · exact ⟨_, by rw [State.cutLine, if_pos hn, hfind, Option.bind_some, hq, Option.map_some], hearm⟩
    · rw [hnot] at hn; cases hn
  refine ⟨_, armIds.filterMap (s.cutLine r), exec_startUp_warm hm address baud, fun n => ?arm, ?accounts,
    ?permit, ?loadState, ?record, ?store, lines, fun l hl => ?line, ?events⟩
  case arm =>
    have arm : (warmStart address baud s).arm n = (s.arm n).closedOut.startSampling := by
      rw [warmStart_arm, State.closedOut, closeOutLoad_arm, progress.closed n (mem_armIds n)]
    rw [arm]
    exact ⟨rfl, rfl, rfl, ⟨rfl, rfl, rfl⟩, rfl, rfl, rfl, rfl, rfl⟩
  case accounts =>
    rw [whole]
    exact (closeOutLoad_accounts _).trans progress.accounts
  case permit => rw [whole]; exact warmReset_permit address baud s
  case loadState => rw [whole]; dsimp only; rw [State.closedOut, closed]
  case record => rw [whole]; dsimp only; rw [State.closedOut, closed]
  case store =>
    have kept : (forArms closeOutArm (warmReset address baud s)).store = s.store
        ∧ (forArms closeOutArm (warmReset address baud s)).port.clock = s.port.clock := by
      rw [progress.settled, warmReset_rest]; exact ⟨rfl, rfl⟩
    rw [whole]
    dsimp only
    rw [State.closedOut, closed, kept.1, kept.2]; rfl
  case line =>
    obtain ⟨n, -, hn⟩ := List.mem_filterMap.mp hl
    obtain ⟨e, q, hfind, hearm, hmem, hq, -⟩ | ⟨-, hnot⟩ := cut_cases hr hs hp n
    · rw [State.cutLine] at hn
      split at hn
      · rw [hfind, Option.bind_some, hq, Option.map_some] at hn
        cases hn
        subst hearm
        exact ⟨rfl, rfl, rfl, e, hmem, rfl, rfl, rfl, rfl, q, hq, rfl, rfl⟩
      · cases hn
    · rw [State.cutLine, hnot] at hn; cases hn
  case events =>
    have cut : s.cutArms = armIds.filter fun n => (s.arm n).beyondArmed :=
      List.filter_congr fun n _ => by rw [hp.arm_no_run hs n, Bool.not_false, Bool.and_true]
    have count : (armIds.filterMap (s.cutLine r)).length = s.cutArms.length := by
      rw [cut, ← lines, List.length_map]
    have port : (s.closedOut address baud).port = { RackPort.cold with
        station := address, baud := baud, silenceLimit := s.port.silenceLimit
        clock := s.port.clock } := by
      rw [State.closedOut, closed, progress.settled, warmReset_rest]
    have few : s.cutArms.length ≤ 4 := List.length_filter_le ..
    have records : s.cutArms.map (s.closedOut address baud).endedRecord = s.cutArms.map fun n =>
        { kind := .batchEnded, arm := n.val + 1, code := 5, value := (s.arm n).figures.gross
          clock := s.port.clock } := by
      refine List.map_congr_left fun n _ => ?_
      rw [State.endedRecord, port, State.closedOut, closeOutLoad_arm, progress.closed n (mem_armIds n)]
      rfl
    rw [warmStart_events, hr, announced_events (by rw [port]; rfl) few, records, count, ← cut,
      State.recoveredRecord, State.sealedRecord, port]

end Sys2Proof.Machine
end

section
/-! SUPPORT AND PROOF. The rack stop: the latch, the ARMED entries that it cancels, and the arms' turns
(R67, R119, R132). -/

namespace Sys2Proof.Machine

/-! ### The latch and the loss with it -/

/-- The state in which the bay takes the rack stop: latched, with the bay permissive lost (R128, R132). -/
def State.stopLatched (s : State) : State := recomputed (post .rackStop 0 0 0 { s with monitor.rackStop := true })

theorem bayPermissive_stopped {m : Monitor} (h : m.rackStop = true) (v : Bool) :
    bayPermissiveOf m v = false := by
  rw [bayPermissiveOf, h, Bool.not_true, Bool.and_false]

section Latch
variable (s : State)

theorem stopLatched_rest : s.stopLatched = { s with
    port := s.stopLatched.port, monitor.rackStop := true, monitor.permissiveOk := false } := by
  have latched : (post .rackStop 0 0 0 { s with monitor.rackStop := true }).monitor
      = { s.monitor with rackStop := true } := post_monitor ..
  have lost := bayPermissive_stopped (m := (post .rackStop 0 0 0
    { s with monitor.rackStop := true }).monitor) (by rw [latched])
    (post .rackStop 0 0 0 { s with monitor.rackStop := true }).bay.vapourRequired
  unfold State.stopLatched
  rw [recomputed_rest, lost, post_rest]

theorem stopLatched_port : s.stopLatched.port = (if s.monitor.permissiveOk = true then
    post .permissiveChange 0 0 1 (post .rackStop 0 0 0 s) else post .rackStop 0 0 0 s).port := by
  have latched : (post .rackStop 0 0 0 { s with monitor.rackStop := true }).monitor
      = { s.monitor with rackStop := true } := post_monitor ..
  have lost := bayPermissive_stopped (m := (post .rackStop 0 0 0
    { s with monitor.rackStop := true }).monitor) (by rw [latched])
    (post .rackStop 0 0 0 { s with monitor.rackStop := true }).bay.vapourRequired
  have stop : (post .rackStop 0 0 0 { s with monitor.rackStop := true }).port
      = (post .rackStop 0 0 0 s).port := post_port _ _ _ _ rfl
  unfold State.stopLatched
  by_cases hok : s.monitor.permissiveOk = true
  · rw [recomputed_lost (by rw [latched]; exact hok) lost, if_pos hok]
    exact post_port _ _ _ _ stop
  · rw [if_neg hok]
    rw [Bool.not_eq_true] at hok
    have same : recomputed (post .rackStop 0 0 0 { s with monitor.rackStop := true })
        = post .rackStop 0 0 0 { s with monitor.rackStop := true } :=
      if_pos (lost.trans (by rw [latched]; exact hok.symm))
    rw [same, stop]

end Latch

/-! ### The ARMED entries -/

/-- How far the cancelling has come: the ARMED arms among some arms are IDLE and their entries gone. -/
structure Cancelled (s : State) (l : List ArmId) (u : State) : Prop where
  settled : Settled s u
  plan : u.plan = s.plan.filter fun e => ¬(e.state = .armed ∧ e.arm ∈ l)
  cancelled : ∀ n ∈ l, (s.arm n).control.state = .armed → u.arm n = (s.arm n).toIdle
  kept : ∀ n, n ∉ l ∨ (s.arm n).control.state ≠ .armed → u.arm n = s.arm n

/-- No arm in a meter run is IDLE or ARMED (section 9.1). -/
def RunsBeyond (s : State) : Prop := ∀ n, (s.arm n).inRun = true → (s.arm n).beyondArmed = true

section Cancel
variable {s u : State} {l : List ArmId} {n : ArmId}

theorem cancelArmed_none (h : ∀ e ∈ s.plan, e.arm = n → e.state ≠ .armed) : cancelArmed n s = s := by
  unfold cancelArmed
  split
  · next e he =>
    obtain ⟨hm, ha⟩ := entryOf_spec he
    exact if_neg (h e hm ha)
  · rfl

theorem PlanSound.armed_arm (hp : PlanSound s) {e : PlanEntry} (he : e ∈ s.plan) (ha : e.state = .armed) :
    (s.arm e.arm).control.state = .armed := by
  obtain ⟨-, -, -, entries, -⟩ := hp
  obtain ⟨-, agrees, -⟩ := entries e he
  rw [EntryAgrees, ha] at agrees
  exact agrees

theorem PlanSound.entry_armed (hp : PlanSound s) {e : PlanEntry} (he : e ∈ s.plan)
    (ha : (s.arm e.arm).control.state = .armed) : e.state = .armed := by
  obtain ⟨-, -, -, entries, -⟩ := hp
  obtain ⟨-, agrees, -⟩ := entries e he
  rw [EntryAgrees] at agrees
  cases hst : e.state with
  | armed => rfl
  | active =>
    rw [hst] at agrees
    rw [Arm.beyondArmed, ha] at agrees; cases agrees

/-- An ARMED arm has its ARMED entry (R55). -/
theorem PlanSound.armed_entry (hp : PlanSound s) (hr : RunsBeyond s)
    (ha : (s.arm n).control.state = .armed) :
    ∃ e p, s.entryOf n = some e ∧ e.state = .armed ∧ s.recipeProduct e.recipe = some p := by
  have run : (s.arm n).inRun = false := Bool.eq_false_iff.mpr fun run => by
    have beyond := hr n run
    rw [Arm.beyondArmed, ha] at beyond; cases beyond
  obtain ⟨e, he, hn, entry⟩ := hp.planned (by rw [ha]; exact ArmState.noConfusion) run
  have armed := hp.entry_armed he (by rw [hn]; exact ha)
  obtain ⟨-, -, -, entries, -⟩ := hp
  obtain ⟨-, -, known⟩ := entries e he
  obtain ⟨p, product⟩ := Option.isSome_iff_exists.mp known
  exact ⟨e, p, entry, armed, product⟩

/-- An entry of an arm that has not been reached is found as before. -/
theorem find?_uncancelled (hn : n ∉ l) (plan : List PlanEntry) :
    (plan.filter fun e => ¬(e.state = .armed ∧ e.arm ∈ l)).find? (fun x => x.arm == n)
      = plan.find? (fun x => x.arm == n) := by
  rw [List.find?_filter]
  congr 1
  funext e
  by_cases h : e.arm = n
  · rw [h]; simp [hn]
  · simp [h]

theorem Cancelled.entryOf (h : Cancelled s l u) (hn : n ∉ l) : u.entryOf n = s.entryOf n := by
  rw [State.entryOf, h.plan]; exact find?_uncancelled hn s.plan

theorem Cancelled.step (hp : PlanSound s) (hr : RunsBeyond s) (h : Cancelled s l u) (hn : n ∉ l) :
    Cancelled s (l ++ [n]) (cancelArmed n u) := by
  have later : ∀ m, m ∈ l ++ [n] → m = n ∨ m ∈ l := fun m hm =>
    (List.mem_append.mp hm).symm.imp List.mem_singleton.mp id
  have earlier : ∀ m, m ∉ l ++ [n] → m ≠ n ∧ m ∉ l := fun m hm =>
    ⟨fun k => hm (by rw [k]; exact List.mem_append_right l (List.mem_singleton_self n)),
      fun k => hm (List.mem_append_left [n] k)⟩
  by_cases ha : (s.arm n).control.state = .armed
  · obtain ⟨e, p, entry, armed, product⟩ := hp.armed_entry hr ha
    have known : u.recipeProduct e.recipe = some p := by rw [h.settled]; exact product
    have found := (h.entryOf hn).trans entry
    have others := (cancelArmed_frame n u).2
    cases record : u.load.record with
    | none => rw [State.entryOf, State.plan, record] at found; cases found
    | some r =>
      have plan : u.plan = r.plan := by rw [State.plan, record]; rfl
      rw [State.entryOf, plan] at found
      refine ⟨h.settled.trans (cancelArmed_frame n u).1, ?_, fun m hm hma => ?_, fun m hm => ?_⟩
      · rw [cancelArmed_eq record found armed known]
        refine (congrArg (List.filter (·.arm ≠ n)) (plan.symm.trans h.plan)).trans ?_
        rw [List.filter_filter]
        refine List.filter_congr fun x hx => ?_
        by_cases hxn : x.arm = n
        · have := hp.entry_armed hx (by rw [hxn]; exact ha)
          simp [hxn, this]
        · simp [hxn]
      · by_cases hmn : m = n
        · subst hmn
          rw [cancelArmed_arm record found armed known, h.kept m (.inl hn)]
        · rw [others m hmn, h.cancelled m ((later m hm).resolve_left hmn) hma]
      · have hmn : m ≠ n := hm.elim (fun k => (earlier m k).1) fun k hmn => k (by rw [hmn]; exact ha)
        rw [others m hmn]
        exact h.kept m (hm.imp (fun k => (earlier m k).2) id)
  · have none : cancelArmed n u = u := by
      refine cancelArmed_none fun e he hen hst => ha ?_
      rw [h.plan] at he
      rw [← hen]; exact hp.armed_arm (List.mem_of_mem_filter he) hst
    rw [none]
    refine ⟨h.settled, h.plan.trans (List.filter_congr fun e he => ?_), fun m hm hma => ?_,
      fun m hm => h.kept m (hm.imp (fun k => (earlier m k).2) id)⟩
    · by_cases hst : e.state = .armed
      · have hen : e.arm ≠ n := fun k => ha (by rw [← k]; exact hp.armed_arm he hst)
        simp [hen]
      · simp [hst]
    · obtain rfl | hm := later m hm
      · exact absurd hma ha
      · exact h.cancelled m hm hma

theorem Cancelled.all (hp : PlanSound s) (hr : RunsBeyond s) :
    Cancelled s armIds (forArms cancelArmed s) := by
  have none : Cancelled s [] s := by
    refine ⟨rfl, (List.filter_eq_self.mpr fun e _ => ?_).symm, fun m hm => ?_, fun _ _ => rfl⟩
    · simp
    · cases hm
  have one := none.step hp hr (n := 0) (by decide)
  have two := one.step hp hr (n := 1) (by decide)
  have three := two.step hp hr (n := 2) (by decide)
  exact three.step hp hr (n := 3) (by decide)

/-- The state after the cancelling of a rack stop (R67). -/
theorem rackStopCancel_whole (hp : PlanSound s) (hr : RunsBeyond s) :
    rackStopCancel s = { s with
        accounts := (rackStopCancel s).accounts, load.record := (rackStopCancel s).load.record
        load.idleTimer := (rackStopCancel s).load.idleTimer, arms := (rackStopCancel s).arms }
      ∧ (rackStopCancel s).plan = s.plan.filter (·.state ≠ .armed)
      ∧ ∀ n, (rackStopCancel s).arm n
          = if (s.arm n).control.state = .armed then (s.arm n).toIdle else s.arm n := by
  have all := Cancelled.all hp hr
  have plan : (forArms cancelArmed s).plan = s.plan.filter (·.state ≠ .armed) :=
    all.plan.trans (List.filter_congr fun e _ => by simp [mem_armIds])
  have arms : ∀ n, (forArms cancelArmed s).arm n
      = if (s.arm n).control.state = .armed then (s.arm n).toIdle else s.arm n := fun n => by
    by_cases h : (s.arm n).control.state = .armed
    · rw [if_pos h]; exact all.cancelled n (mem_armIds n) h
    · rw [if_neg h]; exact all.kept n (.inr h)
  have settled : Settled s (forArms cancelArmed s) := all.settled
  have timer : ∀ t, t = forArms cancelArmed s ∨ t = startIdleTimer (forArms cancelArmed s) →
      t = { s with accounts := t.accounts, load.record := t.load.record
                   load.idleTimer := t.load.idleTimer, arms := t.arms }
        ∧ t.plan = s.plan.filter (·.state ≠ .armed)
        ∧ ∀ n, t.arm n = if (s.arm n).control.state = .armed then (s.arm n).toIdle else s.arm n := by
    rintro t (rfl | rfl)
    · exact ⟨by rw [settled], plan, arms⟩
    · exact ⟨by rw [settled]; rfl, plan, arms⟩
  refine timer _ ?_
  unfold rackStopCancel
  dsimp only
  split
  · exact (planMayHaveEmptied_cases _).symm.imp (·.2) (·.2)
  · exact .inl rfl

end Cancel

end Sys2Proof.Machine
end

section
/-! SUPPORT AND PROOF. The rack stop: how each arm meets it and how each injector does (R119, R132, R150,
R167). -/

namespace Sys2Proof.Machine

/-! ### An arm meets the rack stop -/

theorem ArmState.beyond_cases {a : ArmState} (h : a.beyondArmed = true) :
    a.flowing = true ∨ a = .held ∨ a = .closing := by
  cases a with
  | idle | armed => exact absurd h Bool.false_ne_true
  | starting | fullFlow | trim => exact .inl rfl
  | held => exact .inr (.inl rfl)
  | closing => exact .inr (.inr rfl)

theorem Arm.before_cases {a : Arm} (h : a.beyondArmed = false) :
    a.control.state = .idle ∨ a.control.state = .armed := by
  rw [Arm.beyondArmed] at h
  cases hs : a.control.state with
  | idle => exact .inl rfl
  | armed => exact .inr rfl
  | starting | fullFlow | trim | held | closing => rw [hs] at h; exact absurd h.symm Bool.false_ne_true

/-- What a rack stop makes of an arm beyond ARMED (R119, R155), with the flag of a loss taken with it
(R113). -/
structure StopMet (lost : Bool) (a b : Arm) : Prop where
  state : b.control.state = .closing
  outcome : b.control.outcome = some .aborted
  figures : b.figures = a.figures
  hold : lost = true → b.control.permissiveHold = true
  settling : a.control.state = .closing →
    b.control.settle = a.control.settle ∧ b.control.closingTimer = a.control.closingTimer
  components : b.components = if a.inRun then a.components else a.components.map Component.discard

section Arms
variable {s : State} {n : ArmId} {lost : Bool} {a b c : Arm}

theorem rackStopArm_before (h : (s.arm n).beyondArmed = false) : rackStopArm n s = s := by
  unfold rackStopArm Arm.flowing
  obtain hs | hs := Arm.before_cases h <;> rw [hs] <;> rfl

theorem Arm.closedFor_met (s : State) (hs : a.control.state ≠ .closing)
    (hl : lost = true → a.control.permissiveHold = true) : StopMet lost a (a.closedFor s .aborted) := by
  obtain ⟨control, figures, -⟩ := Arm.closedFor_aborted s a
  refine ⟨by rw [control]; rfl, by rw [control]; rfl, figures, fun h => by rw [control]; exact hl h,
    fun h => absurd h hs, ?_⟩
  unfold Arm.closedFor; split <;> rfl

theorem rackStopArm_met (hb : (s.arm n).beyondArmed = true)
    (hl : lost = true → (s.arm n).control.permissiveHold = true) :
    StopMet lost (s.arm n) ((rackStopArm n s).arm n) := by
  unfold rackStopArm
  split
  · next h =>
    rw [(enterClosing_frame .aborted n s).2 nofun nofun, arm_updArm_same]
    refine Arm.closedFor_met s (fun hs => ?_) hl
    rw [Arm.flowing, hs] at h; exact absurd h (by decide)
  · next h =>
    have closing : (s.arm n).control.state = .closing :=
      (ArmState.beyond_cases hb).elim (fun k => absurd (Bool.or_eq_true_iff.mpr (.inl k)) h)
        fun k => k.resolve_left fun k => h (Bool.or_eq_true_iff.mpr (.inr (decide_eq_true k)))
    rw [if_pos closing, arm_updArm_same]
    exact ⟨closing, rfl, rfl, hl, fun _ => ⟨rfl, rfl⟩, rfl⟩

/-- The loss before the stop: what the loss leaves of an arm that the stop then meets (R113, R132). -/
theorem StopMet.after_loss (hb : (s.arm n).beyondArmed = true)
    (h : StopMet lost ((losePermissive n s).arm n) c) : StopMet lost (s.arm n) c := by
  by_cases hf : (s.arm n).flowing = true
  · have arm : (losePermissive n s).arm n = (s.arm n).permissiveLost.holdFor .permissive := by
      rw [losePermissive_flows hf, post_arm, arm_updArm_same]
    rw [arm] at h
    refine ⟨h.state, h.outcome, h.figures, h.hold, fun hs => ?_, h.components⟩
    rw [Arm.flowing, hs] at hf; exact absurd hf (by decide)
  · rw [Bool.not_eq_true] at hf
    rw [losePermissive_still hb hf, arm_updArm_same] at h
    exact ⟨h.state, h.outcome, h.figures, h.hold, h.settling, h.components⟩

/-- The loss after the stop sets the flag of the arm that closes (R113). -/
theorem StopMet.then_loss (h : StopMet false a (s.arm n)) : StopMet lost a ((losePermissive n s).arm n) := by
  have still : (s.arm n).flowing = false := by rw [Arm.flowing, h.state]; rfl
  rw [losePermissive_still (by rw [Arm.beyondArmed, h.state]; rfl) still, arm_updArm_same]
  exact ⟨h.state, h.outcome, h.figures, fun _ => rfl, h.settling, h.components⟩

theorem losePermissive_flags (hb : (s.arm n).beyondArmed = true) :
    ((losePermissive n s).arm n).beyondArmed = true
      ∧ ((losePermissive n s).arm n).control.permissiveHold = true := by
  by_cases hf : (s.arm n).flowing = true
  · rw [losePermissive_flows hf, post_arm, arm_updArm_same]; exact ⟨rfl, rfl⟩
  · rw [Bool.not_eq_true] at hf
    rw [losePermissive_still hb hf, arm_updArm_same]; exact ⟨hb, rfl⟩

/-- The orders in which an arm takes the stop and the loss (notes/assumptions/13.md). -/
theorem rackStopHandOver_cases (lost : Bool) (n : ArmId) (s : State) :
    rackStopHandOver lost n s = rackStopArm n s ∧ (lost = false ∨ (s.arm n).beyondArmed = false)
      ∨ lost = true ∧ (s.arm n).beyondArmed = true
        ∧ (rackStopHandOver lost n s = rackStopArm n (losePermissive n s.chosen)
          ∨ rackStopHandOver lost n s = losePermissive n (rackStopArm n s.chosen)) := by
  unfold rackStopHandOver
  split
  · next h =>
    obtain ⟨hl, hb⟩ := Bool.and_eq_true_iff.mp h
    refine .inr ⟨hl, hb, ?_⟩
    split
    · exact .inl rfl
    · exact .inr rfl
  · next h =>
    rw [Bool.not_eq_true, Bool.and_eq_false_iff] at h
    exact .inl ⟨rfl, h⟩

theorem rackStopHandOver_before (h : (s.arm n).beyondArmed = false) : rackStopHandOver lost n s = s := by
  obtain ⟨k, -⟩ | ⟨-, hb, -⟩ := rackStopHandOver_cases lost n s
  · rw [k, rackStopArm_before h]
  · rw [h] at hb; cases hb

theorem rackStopHandOver_met (hb : (s.arm n).beyondArmed = true) :
    StopMet lost (s.arm n) ((rackStopHandOver lost n s).arm n) := by
  obtain ⟨k, hl⟩ | ⟨-, -, k | k⟩ := rackStopHandOver_cases lost n s
  · rw [k]
    refine rackStopArm_met hb fun l => ?_
    rw [l, hb] at hl; simp at hl
  · obtain ⟨beyond, flag⟩ := losePermissive_flags (s := s.chosen) hb
    rw [k]
    exact .after_loss (s := s.chosen) hb (rackStopArm_met beyond fun _ => flag)
  · rw [k]
    exact .then_loss (rackStopArm_met (s := s.chosen) hb nofun)

theorem rackStopHandOver_rest (lost : Bool) (n : ArmId) (s : State) :
    rackStopHandOver lost n s = { s with
        port := (rackStopHandOver lost n s).port, choices := (rackStopHandOver lost n s).choices
        arms := (rackStopHandOver lost n s).arms }
      ∧ ∀ m, m ≠ n → (rackStopHandOver lost n s).arm m = s.arm m := by
  obtain ⟨k, -⟩ | ⟨-, -, k | k⟩ := rackStopHandOver_cases lost n s
  · obtain ⟨rest, others⟩ := rackStopArm_rest n s
    rw [k]; exact ⟨by rw [rest], others⟩
  · obtain ⟨rest, others⟩ := losePermissive_rest n s.chosen
    obtain ⟨rest', others'⟩ := rackStopArm_rest n (losePermissive n s.chosen)
    rw [k]; exact ⟨by rw [rest', rest]; rfl, fun m hm => (others' m hm).trans (others m hm)⟩
  · obtain ⟨rest, others⟩ := rackStopArm_rest n s.chosen
    obtain ⟨rest', others'⟩ := losePermissive_rest n (rackStopArm n s.chosen)
    rw [k]; exact ⟨by rw [rest', rest]; rfl, fun m hm => (others' m hm).trans (others m hm)⟩

/-- BATCH HELD is posted of a flowing arm that takes the loss first, and nothing else (R115). -/
theorem rackStopHandOver_port (lost : Bool) (n : ArmId) (s : State) :
    (rackStopHandOver lost n s).port = s.port
      ∨ ((s.arm n).flowing = true ∧ lost = true)
        ∧ (rackStopHandOver lost n s).port
          = (post .batchHeld (n.val + 1) 1 (s.arm n).figures.gross s).port := by
  have stop : ∀ t, (rackStopArm n t).port = t.port := fun t => by rw [(rackStopArm_rest n t).1]
  obtain ⟨k, -⟩ | ⟨hl, hb, k | k⟩ := rackStopHandOver_cases lost n s
  · rw [k]; exact .inl (stop s)
  · rw [k, stop, losePermissive_port]
    by_cases hf : (s.arm n).flowing = true
    · exact .inr ⟨⟨hf, hl⟩, (if_pos hf).trans (post_port _ _ _ _ rfl)⟩
    · exact .inl (if_neg hf)
  · have closing := (rackStopArm_met (lost := false) (s := s.chosen) hb nofun).state
    rw [k, losePermissive_port, if_neg (by rw [Arm.flowing, closing]; decide), stop]
    exact .inl rfl

/-- The arms' turns post BATCH HELD of some of the flowing arms, in their order. -/
theorem rackStopHandOver_posts {t : State} {l : List ArmId} (hl : l.Nodup)
    (h : ∀ n ∈ l, t.arm n = s.arm n) : ∃ held : List ArmId, held.Sublist l
      ∧ (∀ n ∈ held, (s.arm n).flowing = true ∧ lost = true)
      ∧ (l.foldl (fun u n => rackStopHandOver lost n u) t).port
        = (postEach .batchHeld 1 (fun n => (s.arm n).figures.gross) held t).port := by
  induction l generalizing t with
  | nil => exact ⟨[], .refl _, nofun, rfl⟩
  | cons n l ih =>
    obtain ⟨hn, hl⟩ := List.nodup_cons.mp hl
    have here := h n List.mem_cons_self
    obtain ⟨held, sub, flows, port⟩ := ih (t := rackStopHandOver lost n t) hl fun m hm => by
      rw [(rackStopHandOver_rest lost n t).2 m fun k => hn (k ▸ hm)]
      exact h m (List.mem_cons_of_mem n hm)
    obtain same | ⟨held', posted⟩ := rackStopHandOver_port lost n t
    · exact ⟨held, sub.cons n, flows, port.trans (postEach_port held same)⟩
    · rw [here] at held' posted
      refine ⟨n :: held, sub.cons_cons n, fun m hm => ?_, port.trans (postEach_port held posted)⟩
      obtain rfl | hm := List.mem_cons.mp hm
      · exact held'
      · exact flows m hm

/-- All arms' turns (R119, R132). -/
theorem handOver_rest (lost : Bool) (s : State) : forArms (rackStopHandOver lost) s = { s with
    port := (forArms (rackStopHandOver lost) s).port
    choices := (forArms (rackStopHandOver lost) s).choices
    arms := (forArms (rackStopHandOver lost) s).arms } :=
  forArms_invariant (fun t => t = { s with port := t.port, choices := t.choices, arms := t.arms }) _
    (fun n t h => by
      have rest := (rackStopHandOver_rest lost n t).1
      generalize rackStopHandOver lost n t = v at rest ⊢
      rw [rest, h]) rfl

theorem handOver_before (h : (s.arm n).beyondArmed = false) :
    (forArms (rackStopHandOver lost) s).arm n = s.arm n := by
  obtain ⟨t, ht, arm⟩ := forArms_arm (fun k t => (rackStopHandOver_rest lost k t).2) n s
  rw [arm, rackStopHandOver_before (by rw [ht]; exact h), ht]

theorem handOver_met (h : (s.arm n).beyondArmed = true) :
    StopMet lost (s.arm n) ((forArms (rackStopHandOver lost) s).arm n) := by
  obtain ⟨t, ht, arm⟩ := forArms_arm (fun k t => (rackStopHandOver_rest lost k t).2) n s
  rw [arm, ← ht]
  exact rackStopHandOver_met (by rw [ht]; exact h)

end Arms

/-! ### An injector meets the rack stop -/

/-- What the credit of a shot that the stop ends makes of a component of an arm (R148, R150). -/
def Component.stopCredit (w : State) (n : ArmId) (x : Component) : Component :=
  match (w.injector x.injector).config, (w.injector x.injector).state with
  | some c, .shot r =>
    if r.arm = n then
      { x with injected := fit 32 (x.injected + measuredMl c r.pulses), shots := x.shots + 1 }
    else x
  | _, _ => x

/-- What the stop makes of an injector (R150, R167). -/
def Injector.stopped (w : State) (j : Injector) : Injector :=
  match j.config, j.state with
  | some _, .shot r => if (w.arm r.arm).beyondArmed then { j with state := .idle } else j
  | some _, .proving p =>
    match p.shot with
    | some _ => { j with state := .proving { p with shots := min 65535 (p.shots + 1), shot := none } }
    | none => j
  | _, _ => j

/-- The record that the stop posts of an injector (R167). -/
def State.stopDone (w u : State) (i : InjId) : State :=
  match (w.injector i).config, (w.injector i).state with
  | some c, .proving p =>
    match p.shot with
    | some r => post .proveShotDone 0 ((i.val + 1) * 256 + 3) (r.pulses * 1000 / c.meterK) u
    | none => u
  | _, _ => u

/-- No measure of a proving shot is beyond its width (notes/assumptions/12.md). -/
def ProvingFits (w : State) : Prop := ∀ i c p r, (w.injector i).config = some c →
  (w.injector i).state = .proving p → p.shot = some r → r.pulses * 1000 / c.meterK < 2 ^ 32

/-- How far the stop has come at the injectors: those of a list have met it. -/
structure InjectorsStopped (w : State) (l : List InjId) (u : State) : Prop where
  frame : AdditiveFrame w u
  arms : ∀ n, u.arm n = { w.arm n with components := (u.arm n).components }
  components : ∀ n, (w.arm n).beyondArmed = true → (u.arm n).components
    = (w.arm n).components.map fun x => if x.injector ∈ l then x.stopCredit w n else x
  stopped : ∀ i ∈ l, u.injector i = (w.injector i).stopped w
  kept : ∀ i, i ∉ l → u.injector i = w.injector i
  port : u.port = (l.foldl w.stopDone w).port

section Injectors
variable {w u v : State} {l : List InjId} {i : InjId} {n : ArmId}

theorem Component.stopCredit_injector (x : Component) : (x.stopCredit w n).injector = x.injector := by
  unfold Component.stopCredit; split
  · split <;> rfl
  · rfl

theorem stopDone_port (h : u.port = v.port) : (w.stopDone u i).port = (w.stopDone v i).port := by
  unfold State.stopDone; split
  · split
    · exact post_port _ _ _ _ h
    · exact h
  · exact h

theorem Component.stopCredit_none {x : Component}
    (h : ∀ c r, (w.injector x.injector).config = some c → (w.injector x.injector).state = .shot r →
      r.arm ≠ n) : x.stopCredit w n = x := by
  unfold Component.stopCredit
  split
  · next c r hc hs => exact if_neg (h c r hc hs)
  · rfl

/-- One more injector has met the stop. -/
theorem InjectorsStopped.next (h : InjectorsStopped w l u) (hi : i ∉ l) (frame : AdditiveFrame u v)
    (arms : ∀ n, v.arm n = { u.arm n with components := (v.arm n).components })
    (components : ∀ n, (w.arm n).beyondArmed = true → (v.arm n).components
      = (u.arm n).components.map fun x => if x.injector = i then x.stopCredit w n else x)
    (stopped : v.injector i = (w.injector i).stopped w)
    (kept : ∀ k, k ≠ i → v.injector k = u.injector k)
    (port : v.port = (w.stopDone u i).port) : InjectorsStopped w (l ++ [i]) v := by
  refine ⟨h.frame.trans frame, fun n => by rw [arms, h.arms], fun n hb => ?_, fun k hk => ?_,
    fun k hk => ?_, ?_⟩
  · rw [components n hb, h.components n hb, List.map_map]
    refine List.map_congr_left fun x _ => ?_
    by_cases hx : x.injector ∈ l
    · have hne : x.injector ≠ i := fun k => hi (k ▸ hx)
      simp [hx, Component.stopCredit_injector, hne]
    · simp [hx]
  · by_cases hki : k = i
    · rw [hki]; exact stopped
    · rw [kept k hki]
      exact h.stopped k ((List.mem_append.mp hk).resolve_right fun m => hki (List.mem_singleton.mp m))
  · rw [List.mem_append, not_or, List.mem_singleton] at hk
    rw [kept k hk.2, h.kept k hk.1]
  · rw [List.foldl_append]
    exact port.trans (stopDone_port h.port)

/-- An injector with nothing to end. -/
theorem InjectorsStopped.same (h : InjectorsStopped w l u) (hi : i ∉ l)
    (credit : ∀ n (x : Component), (w.arm n).beyondArmed = true → x.injector = i → x.stopCredit w n = x)
    (stopped : (w.injector i).stopped w = w.injector i) (done : w.stopDone u i = u) :
    InjectorsStopped w (l ++ [i]) u := by
  refine h.next hi (.refl u) (fun _ => rfl) (fun n hb => ?_) (by rw [stopped, h.kept i hi])
    (fun _ _ => rfl) (by rw [done])
  refine (List.map_id'' (fun x => ?_) _).symm
  by_cases hx : x.injector = i
  · rw [if_pos hx, credit n x hb hx]
  · rw [if_neg hx]

theorem InjectorsStopped.beyond (h : InjectorsStopped w l u) (n : ArmId) :
    (u.arm n).beyondArmed = (w.arm n).beyondArmed := by
  rw [h.arms n]; rfl

/-- With the bay permissive lost no arm waits, and an offer finds none (R145). -/
theorem offer_lost {s : State} (hok : s.monitor.permissiveOk = false) (i : InjId) : offer i s = s := by
  cases hs : (s.injector i).state with
  | idle =>
    cases hc : (s.injector i).config with
    | none => unfold offer; rw [hc]
    | some c =>
      refine offer_idle hc hs (chooseArm_none fun n => Bool.eq_false_iff.mpr fun hw => ?_)
      obtain ⟨-, -, -, -, ok⟩ := waits_iff.mp hw
      rw [hok] at ok; cases ok
  | shot _ | proving _ | faulted => exact offer_busy (by rw [hs]; nofun)

/-- What is to be done at an injector without a shot or a proving shot. -/
theorem InjectorsStopped.idle (h : InjectorsStopped w l u) (hi : i ∉ l)
    (still : (w.injector i).stopped w = w.injector i) (done : w.stopDone u i = u)
    (none : ∀ c r, (w.injector i).config = some c → (w.injector i).state = .shot r →
      (w.arm r.arm).beyondArmed = false) : InjectorsStopped w (l ++ [i]) u := by
  refine h.same hi (fun n x hb hx => Component.stopCredit_none fun c r hc hs hn => ?_) still done
  rw [hx] at hc hs
  rw [← hn, none c r hc hs] at hb
  cases hb

/-- The shot of an arm beyond ARMED ends, credited (R150). -/
theorem InjectorsStopped.shot (hok : w.monitor.permissiveOk = false) (h : InjectorsStopped w l u)
    (hi : i ∉ l) {c : InjectorConfig} {r : Shot} (hc : (w.injector i).config = some c)
    (hs : (w.injector i).state = .shot r) (hb : (w.arm r.arm).beyondArmed = true) :
    InjectorsStopped w (l ++ [i]) (offer i ((creditShot i r.arm (measuredMl c r.pulses) u).setInjector i
      { w.injector i with state := .idle })) := by
  have lost : u.monitor.permissiveOk = false := by rw [h.frame]; exact hok
  have arm : ∀ n, ((creditShot i r.arm (measuredMl c r.pulses) u).arm n)
      = { u.arm n with components := if r.arm = n then ((u.arm n).updComponents i fun k =>
            { k with injected := fit 32 (k.injected + measuredMl c r.pulses), shots := k.shots + 1
            }).components else (u.arm n).components } := fun n => by
    by_cases hn : r.arm = n
    · subst hn; rw [if_pos rfl, creditShot, arm_updArm_same]; rfl
    · rw [if_neg hn, creditShot, arm_updArm_of_ne _ _ (Ne.symm hn)]
  rw [offer_lost (s := (creditShot i r.arm (measuredMl c r.pulses) u).setInjector i
    { w.injector i with state := .idle }) lost]
  refine h.next hi ((AdditiveFrame.updArm (.refl u) ..).setInjector ..) (fun n => ?_) (fun n _ => ?_)
    ?_ (fun k hk => injector_setInjector_of_ne _ _ hk) ?_
  · change (creditShot i r.arm (measuredMl c r.pulses) u).arm n = { u.arm n with
      components := ((creditShot i r.arm (measuredMl c r.pulses) u).arm n).components }
    rw [arm n]
  · refine (congrArg Arm.components (arm n)).trans ?_
    dsimp only
    split
    · next hn =>
      refine List.map_congr_left fun x _ => ?_
      by_cases hx : x.injector = i
      · subst hx
        rw [if_pos rfl, if_pos rfl, Component.stopCredit, hc, hs]; dsimp only; rw [if_pos hn]
      · rw [if_neg hx, if_neg hx]
    · next hn =>
      refine (List.map_id'' (fun x => ?_) _).symm
      split
      · next hx =>
        refine Component.stopCredit_none fun c' r' _ hs' => ?_
        rw [hx, hs] at hs'; cases hs'; exact hn
      · rfl
  · rw [injector_setInjector_same]; simp [Injector.stopped, hc, hs, hb]
  · rw [State.stopDone, hc, hs]; rfl

theorem InjectorsStopped.step (hok : w.monitor.permissiveOk = false) (fits : ProvingFits w)
    (h : InjectorsStopped w l u) (hi : i ∉ l) :
    InjectorsStopped w (l ++ [i]) (rackStopInjector i u) := by
  have here := h.kept i hi
  unfold rackStopInjector
  rw [here]
  cases hc : (w.injector i).config with
  | none =>
    refine h.idle hi ?_ ?_ fun c r k => by rw [hc] at k; cases k
    · rw [Injector.stopped, hc]
    · rw [State.stopDone, hc]
  | some c =>
    cases hs : (w.injector i).state with
    | idle | faulted =>
      refine h.idle hi ?_ ?_ fun c r _ k => by rw [hs] at k; cases k
      · rw [Injector.stopped, hc, hs]
      · rw [State.stopDone, hc, hs]
    | shot r =>
      dsimp only
      split
      · next hb => exact h.shot hok hi hc hs (by rw [← h.beyond]; exact hb)
      · next hb =>
        rw [h.beyond, Bool.not_eq_true] at hb
        refine h.idle hi ?_ ?_ fun _ r' _ k => ?_
        · rw [Injector.stopped, hc, hs]; dsimp only; rw [hb]; rfl
        · rw [State.stopDone, hc, hs]
        · rw [hs] at k; cases k; exact hb
    | proving p =>
      dsimp only
      cases hp : p.shot with
      | none =>
        refine h.idle hi ?_ ?_ fun c r _ k => by rw [hs] at k; cases k
        · rw [Injector.stopped, hc, hs]; dsimp only; rw [hp]
        · rw [State.stopDone, hc, hs]; dsimp only; rw [hp]
      | some r =>
        dsimp only
        obtain ⟨rest, others, proved⟩ := endProveShot_rest i c p r .stopped u
        have arms : ∀ n, (endProveShot i c p r .stopped u).arm n = u.arm n := fun n => by rw [rest]; rfl
        refine h.next hi (by unfold AdditiveFrame; rw [rest]) (fun n => by rw [arms]) (fun n hb => ?_)
          ?_ others ?_
        · rw [arms]
          refine (List.map_id'' (fun x => ?_) _).symm
          split
          · next hx =>
            refine Component.stopCredit_none fun _ _ _ k => ?_
            rw [hx, hs] at k; cases k
          · rfl
        · rw [proved, here]; simp [Injector.stopped, hc, hs, hp]
        · rw [State.stopDone, hc, hs]; dsimp only; rw [hp, endProveShot, measuredMl,
            fit_of_lt (fits i c p r hc hs hp)]
          exact post_port _ _ _ _ rfl

/-- All injectors have met the stop. -/
theorem injectors_stopped (hok : w.monitor.permissiveOk = false) (fits : ProvingFits w) :
    InjectorsStopped w injIds (forInjectors rackStopInjector w) := by
  have none : InjectorsStopped w [] w :=
    ⟨.refl w, fun _ => rfl, fun n _ => (List.map_id'' (fun x => if_neg List.not_mem_nil) _).symm,
      nofun, fun _ _ => rfl, rfl⟩
  have one := none.step hok fits (i := 0) (by decide)
  have two := one.step hok fits (i := 1) (by decide)
  have three := two.step hok fits (i := 2) (by decide)
  have four := three.step hok fits (i := 3) (by decide)
  have five := four.step hok fits (i := 4) (by decide)
  exact five.step hok fits (i := 5) (by decide)

end Injectors

end Sys2Proof.Machine
end

section
/-! SUPPORT AND PROOF. The rack stop from its press to the state that it leaves, and O44. -/

namespace Sys2Proof.Machine

/-! ### The press, the cancelling and the arms' turns -/

/-- The stop is posted as pressed and taken (R132, R133). -/
def State.stopPressed (s : State) : State := (post .permissiveChange 0 0x0401 0 s).stopLatched

/-- The ARMED entries are cancelled (R67). -/
def State.stopCancelled (s : State) : State := rackStopCancel s.stopPressed

/-- The arms have met the stop (R119). -/
def State.stopHanded (s : State) : State :=
  forArms (rackStopHandOver s.monitor.permissiveOk) s.stopCancelled

section Press
variable {s : State} {n : ArmId}

theorem stopPressed_rest (s : State) : s.stopPressed = { s with
    port := s.stopPressed.port, monitor.rackStop := true, monitor.permissiveOk := false } := by
  unfold State.stopPressed
  rw [stopLatched_rest, post_rest]

/-- The records of a press: the change of the input, RACK STOP, and the loss of a permissive that was OK. -/
def State.stopRecords (s : State) : State :=
  let stop := post .rackStop 0 0 0 (post .permissiveChange 0 0x0401 0 s)
  if s.monitor.permissiveOk = true then post .permissiveChange 0 0 1 stop else stop

theorem stopPressed_port (s : State) : s.stopPressed.port = s.stopRecords.port := by
  rw [State.stopPressed, stopLatched_port, post_monitor]; rfl

theorem setRackStop_eq (s : State) : setRackStop s = forInjectors rackStopInjector
    (forArms (rackStopHandOver s.monitor.permissiveOk) (rackStopCancel s.stopLatched)) := by
  have latched : s.stopLatched.monitor.permissiveOk = false := by rw [stopLatched_rest]
  have lost : (s.monitor.permissiveOk && !s.stopLatched.monitor.permissiveOk)
      = s.monitor.permissiveOk := by rw [latched]; exact Bool.and_true _
  have latch : setRackStop s = forInjectors rackStopInjector
      (forArms (rackStopHandOver (s.monitor.permissiveOk && !s.stopLatched.monitor.permissiveOk))
        (rackStopCancel s.stopLatched)) := rfl
  rw [latch, lost]

theorem press_eq (h : s.monitor.rackStop = false) (old : Nat) :
    inputChanged .estop old 1 s = forInjectors rackStopInjector s.stopHanded := by
  have clear : (post .permissiveChange 0 0x0401 0 s).monitor.rackStop = false := by rw [post_monitor]; exact h
  have ok : (post .permissiveChange 0 0x0401 0 s).monitor.permissiveOk = s.monitor.permissiveOk := by
    rw [post_monitor]
  have taken : inputChanged .estop old 1 s = setRackStop (post .permissiveChange 0 0x0401 0 s) := by
    unfold inputChanged
    dsimp only
    rw [if_neg Nat.one_ne_zero, clear, if_neg Bool.false_ne_true]
  rw [taken, setRackStop_eq, ok]; rfl

theorem stopCancelled_whole (hp : PlanSound s) (hf : FlowSafe s) :
    s.stopCancelled = { s with
        port := s.stopPressed.port, monitor.rackStop := true, monitor.permissiveOk := false
        accounts := s.stopCancelled.accounts, load.record := s.stopCancelled.load.record
        load.idleTimer := s.stopCancelled.load.idleTimer, arms := s.stopCancelled.arms }
      ∧ s.stopCancelled.plan = s.plan.filter (·.state ≠ .armed)
      ∧ ∀ n, s.stopCancelled.arm n
          = if (s.arm n).control.state = .armed then (s.arm n).toIdle else s.arm n := by
  have rest := stopPressed_rest s
  have plan : PlanSound s.stopPressed := by rw [rest]; exact hp
  have runs : RunsBeyond s.stopPressed := by rw [rest]; exact fun n => (hf.2 n).2.2
  obtain ⟨whole, entries, arms⟩ := rackStopCancel_whole plan runs
  refine ⟨?_, entries.trans (by rw [rest]; rfl), fun n => (arms n).trans (by rw [rest]; rfl)⟩
  unfold State.stopCancelled
  generalize rackStopCancel s.stopPressed = c at whole ⊢
  rw [whole, rest]

theorem stopHanded_rest (hp : PlanSound s) (hf : FlowSafe s) : s.stopHanded = { s with
    port := s.stopHanded.port, monitor.rackStop := true, monitor.permissiveOk := false
    accounts := s.stopHanded.accounts, load.record := s.stopHanded.load.record
    load.idleTimer := s.stopHanded.load.idleTimer, arms := s.stopHanded.arms
    choices := s.stopHanded.choices } := by
  have turns := handOver_rest s.monitor.permissiveOk s.stopCancelled
  have whole := (stopCancelled_whole hp hf).1
  unfold State.stopHanded
  generalize forArms (rackStopHandOver s.monitor.permissiveOk) s.stopCancelled = w at turns ⊢
  rw [turns, whole]

theorem stopHanded_plan (hp : PlanSound s) (hf : FlowSafe s) :
    s.stopHanded.plan = s.plan.filter (·.state ≠ .armed) := by
  refine Eq.trans ?_ (stopCancelled_whole hp hf).2.1
  unfold State.stopHanded; rw [handOver_rest]; rfl

theorem stopHanded_met (hp : PlanSound s) (hf : FlowSafe s) (hb : (s.arm n).beyondArmed = true) :
    StopMet s.monitor.permissiveOk (s.arm n) (s.stopHanded.arm n) := by
  have arm : s.stopCancelled.arm n = s.arm n := by
    refine ((stopCancelled_whole hp hf).2.2 n).trans (if_neg fun h => ?_)
    rw [Arm.beyondArmed, h] at hb; cases hb
  have met := handOver_met (lost := s.monitor.permissiveOk) (s := s.stopCancelled) (n := n)
    (by rw [arm]; exact hb)
  rwa [arm] at met

theorem stopHanded_idle (hp : PlanSound s) (hf : FlowSafe s) (hb : (s.arm n).beyondArmed = false) :
    (s.stopHanded.arm n).control.state = .idle := by
  have idle : (s.stopCancelled.arm n).control.state = .idle := by
    rw [(stopCancelled_whole hp hf).2.2 n]
    obtain h | h := Arm.before_cases hb
    · rw [if_neg (by rw [h]; nofun)]; exact h
    · rw [if_pos h]; rfl
  have before : (s.stopCancelled.arm n).beyondArmed = false := by rw [Arm.beyondArmed, idle]; rfl
  rw [State.stopHanded, handOver_before before]; exact idle

theorem stopHanded_beyond (hp : PlanSound s) (hf : FlowSafe s) (n : ArmId) :
    (s.stopHanded.arm n).beyondArmed = (s.arm n).beyondArmed := by
  cases hb : (s.arm n).beyondArmed with
  | true => rw [Arm.beyondArmed, (stopHanded_met hp hf hb).state]; rfl
  | false => rw [Arm.beyondArmed, stopHanded_idle hp hf hb]; rfl

theorem stopHanded_port (hp : PlanSound s) (hf : FlowSafe s) : ∃ held : List ArmId, held.Sublist armIds
    ∧ (∀ n ∈ held, (s.arm n).flowing = true ∧ s.monitor.permissiveOk = true)
    ∧ s.stopHanded.port
      = (postEach .batchHeld 1 (fun n => (s.arm n).figures.gross) held s.stopRecords).port := by
  obtain ⟨whole, -, arms⟩ := stopCancelled_whole hp hf
  obtain ⟨held, sub, flows, port⟩ := rackStopHandOver_posts (s := s.stopCancelled)
    (t := s.stopCancelled) (lost := s.monitor.permissiveOk) (l := armIds) (by decide) fun _ _ => rfl
  have gross : (fun n => (s.stopCancelled.arm n).figures.gross) = fun n => (s.arm n).figures.gross :=
    funext fun n => by rw [arms n]; split <;> rfl
  have records : s.stopCancelled.port = s.stopRecords.port := by rw [whole]; exact stopPressed_port s
  rw [gross, postEach_port held records] at port
  refine ⟨held, sub, fun n hn => ?_, port⟩
  obtain ⟨flow, ok⟩ := flows n hn
  refine ⟨?_, ok⟩
  rw [arms n] at flow
  split at flow
  · cases flow
  · exact flow

end Press

/-! ### The injectors -/

section Injectors
variable {s w : State} {n : ArmId} {j : Injector}

theorem Injector.stopped_shot {r : Shot} (hc : j.config = none → j.state = .idle) (h : (j.stopped w).state = .shot r) :
    (w.arm r.arm).beyondArmed = false := by
  unfold Injector.stopped at h
  split at h
  · next r' _ hs =>
    split at h
    · cases h
    · next hb => rw [hs] at h; cases h; rwa [Bool.not_eq_true] at hb
  · next hs =>
    split at h
    · cases h
    · rw [hs] at h; cases h
  · next hno _ =>
    cases hcfg : j.config with
    | none => rw [hc hcfg] at h; cases h
    | some c => exact absurd h (hno c r hcfg)

theorem Injector.stopped_proving {p : ProvingRecord} (hc : j.config = none → j.state = .idle)
    (h : (j.stopped w).state = .proving p) : p.shot = none := by
  unfold Injector.stopped at h
  split at h
  · next hs =>
    split at h
    · cases h
    · rw [hs] at h; cases h
  · next hs =>
    split at h
    · cases h; rfl
    · next hp => rw [hs] at h; cases h; exact hp
  · next _ hno =>
    cases hcfg : j.config with
    | none => rw [hc hcfg] at h; cases h
    | some c => exact absurd h (hno c p hcfg)

/-- The component of an arm that the stop meets: what it owes is discarded, and the shot that the stop ends
is credited (R119, R150). -/
theorem Component.stopCredit_discard {x : Component} (hj : w.injectors = s.injectors)
    (fits : ∀ c r, (s.injector x.injector).config = some c → (s.injector x.injector).state = .shot r →
      r.arm = n → x.injected + r.pulses * 1000 / c.meterK < 2 ^ 32) :
    x.discard.stopCredit w n
      = match (s.injector x.injector).config, (s.injector x.injector).state with
        | some c, .shot r =>
          if r.arm = n then
            { x with
              owed := 0, shots := x.shots + 1, injected := x.injected + r.pulses * 1000 / c.meterK }
          else { x with owed := 0 }
        | _, _ => { x with owed := 0 } := by
  have same : w.injector x.discard.injector = s.injector x.injector := by
    rw [State.injector, hj]; rfl
  unfold Component.stopCredit
  rw [same]
  cases hc : (s.injector x.injector).config with
  | none => rfl
  | some c =>
    cases hs : (s.injector x.injector).state with
    | idle | proving _ | faulted => rfl
    | shot r =>
      dsimp only
      split
      · next hn => rw [measuredMl, ← fit_of_lt (fits c r hc hs hn)]; rfl
      · rfl

theorem stopDone_congr (h : w.injectors = s.injectors) : w.stopDone = s.stopDone := by
  funext t i
  rw [State.stopDone, State.stopDone, State.injector, h]; rfl

theorem foldl_stopDone_port {t v : State} (h : t.port = v.port) (l : List InjId) :
    (l.foldl s.stopDone t).port = (l.foldl s.stopDone v).port := by
  induction l generalizing t v with
  | nil => exact h
  | cons i l ih => exact ih (stopDone_port h)

theorem mem_injIds (i : InjId) : i ∈ injIds := by revert i; decide

/-- The records that the injectors post (R167). -/
theorem InjectorsStopped.records {u : State} (h : InjectorsStopped w injIds u)
    (hj : w.injectors = s.injectors) {t : State} (hp : w.port = t.port) :
    u.port = (injIds.foldl s.stopDone t).port := by
  rw [h.port, stopDone_congr hj]; exact foldl_stopDone_port hp injIds

/-- The components of a batch that the stop meets (R119, R150). -/
theorem InjectorsStopped.batch {u : State} (h : InjectorsStopped w injIds u)
    (hj : w.injectors = s.injectors) (hb : (w.arm n).beyondArmed = true)
    (hd : (w.arm n).components = (s.arm n).components.map Component.discard)
    (fits : ∀ i c r, (s.injector i).config = some c → (s.injector i).state = .shot r →
      ∀ x ∈ (s.arm r.arm).components, x.injected + r.pulses * 1000 / c.meterK < 2 ^ 32) :
    (u.arm n).components = (s.arm n).components.map fun x =>
      match (s.injector x.injector).config, (s.injector x.injector).state with
      | some c, .shot r =>
        if r.arm = n then
          { x with
            owed := 0, shots := x.shots + 1, injected := x.injected + r.pulses * 1000 / c.meterK }
        else { x with owed := 0 }
      | _, _ => { x with owed := 0 } := by
  rw [h.components n hb, hd, List.map_map]
  refine List.map_congr_left fun x hx => ?_
  refine (if_pos (mem_injIds _)).trans (Component.stopCredit_discard hj fun c r hc hs hn => ?_)
  exact fits x.injector c r hc hs x (by rw [hn]; exact hx)

end Injectors

/-- Settles O44: the press through the cancelling, the arms' turns and the injectors' turns, and the other
changes of the input and of the latch. -/
theorem rackStopAbortsTheBayUntilCleared : Obligations.RackStopAbortsTheBayUntilCleared := by
  unfold Obligations.RackStopAbortsTheBayUntilCleared
  refine ⟨fun s old hs hp hf unconfigured fits proving => ?pressed,
    fun s old hs => ?again, fun s old => ?released, fun f s h hb => ⟨fun hs => ?refused, fun hs he => ?cleared⟩⟩
  case pressed =>
    have rest := stopHanded_rest hp hf
    have beyond := stopHanded_beyond hp hf
    have injectors : s.stopHanded.injectors = s.injectors := by rw [rest]
    have injector : ∀ i, s.stopHanded.injector i = s.injector i := fun i => by
      rw [State.injector, injectors]; rfl
    have lost : s.stopHanded.monitor.permissiveOk = false := by rw [rest]
    have all := injectors_stopped lost fun i c p r hc hst hsh => by
      rw [injector] at hc hst; exact proving i c p r hc hst hsh
    rw [← press_eq hs old] at all
    intro u
    change InjectorsStopped s.stopHanded injIds u at all
    clear_value u
    have frame : u = _ := all.frame
    have stopped : ∀ i, u.injector i = (s.injector i).stopped s.stopHanded := fun i => by
      rw [all.stopped i (mem_injIds i), injector]
    have batch : ∀ n, (s.arm n).beyondArmed = true → (s.arm n).inRun = false → _ := fun n hb hr =>
      all.batch injectors (n := n) (by rw [beyond]; exact hb)
        ((stopHanded_met hp hf hb).components.trans (by rw [hr]; rfl)) fits
    refine ⟨by rw [frame, rest], by rw [frame, rest], fun n => ⟨fun hb => ?met, fun hb => ?before⟩,
      ?plan, by rw [frame, rest], by rw [frame, rest], by rw [frame, rest], fun i r hst => ?noShot,
      fun i p hst => ?noProving, fun i c r hc hst => ?shot, fun i c p r hc hst hsh => ?proved, batch, ?port⟩
    case met =>
      have met := stopHanded_met hp hf hb
      rw [all.arms n]
      refine ⟨met.state, met.outcome, met.figures, met.hold, met.settling, fun hr => ?_⟩
      change ∀ x ∈ (u.arm n).components, x.owed = 0
      rw [batch n hb hr]
      intro x hx
      obtain ⟨y, -, rfl⟩ := List.mem_map.mp hx
      split
      · split <;> rfl
      · rfl
    case before => rw [all.arms n]; exact stopHanded_idle hp hf hb
    case plan => rw [frame]; exact stopHanded_plan hp hf
    case noShot =>
      rw [stopped] at hst
      rw [← beyond]; exact Injector.stopped_shot (unconfigured i) hst
    case noProving =>
      rw [stopped] at hst
      exact Injector.stopped_proving (unconfigured i) hst
    case shot => rw [stopped]; simp [Injector.stopped, hc, hst, beyond]
    case proved => rw [stopped]; simp [Injector.stopped, hc, hst, hsh]
    case port =>
      obtain ⟨held, sub, flows, port⟩ := stopHanded_port hp hf
      exact ⟨held, sub, flows, all.records injectors port⟩
  case again =>
    unfold inputChanged
    dsimp only
    rw [if_neg Nat.one_ne_zero, if_pos (by rw [post_monitor]; exact hs)]
  case released => rfl
  case refused =>
    exact (bodyless_answered h hb).trans (by rw [clearRackStop_wrongState (by rwa [frameTaken_monitor])])
  case cleared =>
    exact (bodyless_answered h hb).trans
      (by rw [clearRackStop_cleared (by rwa [frameTaken_monitor]) (by rwa [frameTaken_monitor])])

end Sys2Proof.Machine
end
